-- ==== Sys2Proof/Word.lean ====
section
/-! DEFINITION. The word types of the machine. -/

namespace Sys2Proof

/-- A byte of memory. -/
abbrev Byte := BitVec 8

/-- A control-plane value (R63) and every 64-bit register or word. -/
abbrev Word := BitVec 64

/-- A data-plane payload (R62), a keep register, a scratchpad granule. -/
abbrev Payload := BitVec 128

end Sys2Proof
end

