-- ==== Sys2Proof/Syntax.lean ====
section
/-! DEFINITION. The instruction set as data: one constructor of `Instr` for each row of the opcode table.
Tile instructions and drove-list commands carry the fields of their encodings (R195, R219). A host command's operands
are the words of its ring entry (R369), and an event of hardware, firmware or the outside has no encoding: these rows
are constructors without fields, and what they act on (the entry, the kiln, tile, link or engine, the values that the
outside presents) stands in the state's cursor when they are executed. -/

namespace Sys2Proof

/-- The predicate mode PM of an instruction word (R196). -/
inductive Pred where
  | always
  | ifNonzero
  | ifZero
  deriving DecidableEq, Repr

/-- The operand positions A, B, C and P of a slot (R19). -/
inductive Pos where
  | a
  | b
  | c
  | p
  deriving DecidableEq, Repr

/-- A target code (R197): an operand of a slot of the same block, null, an output port and VC, a keep register, or a
predicate-network signal. -/
inductive Target where
  | slot (n : BitVec 7) (pos : Pos)
  | null
  | port (port : BitVec 3) (vc : BitVec 3)
  | keep (n : BitVec 6)
  | signal (n : BitVec 4)
  deriving DecidableEq, Repr

/-- FS of a scratchpad load (R198): plain, WAITF, WAITC. -/
inductive LoadQual where
  | plain
  | waitF
  | waitC
  deriving DecidableEq, Repr

/-- FS of a scratchpad store (R198): store and set full, WAITE, NOFE. -/
inductive StoreQual where
  | setFull
  | waitE
  | noFe
  deriving DecidableEq, Repr

/-- FS of a global access or an atomic (R198). -/
inductive GlobalQual where
  | plain
  | acq
  | rel
  | acqRel
  deriving DecidableEq, Repr

/-- The choice that IMMB, IMMN and IMMT make (R339): a G register or the 64-bit immediate. -/
inductive DSrc where
  | reg (g : BitVec 4)
  | imm (v : BitVec 64)
  deriving DecidableEq, Repr

/-- The eight little-endian words of a command-ring entry (R369), a launch record (R216) or a program record (R217). -/
structure Rec8 where
  w0 : Word
  w1 : Word
  w2 : Word
  w3 : Word
  w4 : Word
  w5 : Word
  w6 : Word
  w7 : Word
  deriving DecidableEq, Repr

/-- What the host (R367) or a peer (R376) does at an address of the device. -/
inductive OutsideOp where
  | read (len : Nat)
  | write (bytes : List Byte)
  | atomic (op : BitVec 8) (size : Nat) (operand : Word) (compare : Word)
  deriving DecidableEq, Repr

/-- An access that arrives from outside the package: the offset within BAR2 (R367), or bits [43:0] of the peer PA
(R376), and what is done there. -/
structure OutsideAccess where
  addr : Nat
  op : OutsideOp
  deriving DecidableEq, Repr

/-- What ECC finds (R398, R421): corrected single-bit errors, an uncorrectable granule, and uncorrectable errors in a
token that stands in a link slot. -/
inductive ScrubFinding where
  | corrected (die slice tile count : Nat)
  | poison (pa : Nat) (scrubbing : Bool)
  | linkPayload (k l pos : Nat)
  | linkSideband (k l pos : Nat)
  | linkGap (k l : Nat)
  | storedForm (pa : Nat) (zero : Bool)
  deriving DecidableEq, Repr

/-- The telemetry that a cap computation uses and that POWER_REPORT gives (R374, R377, R378): for each die its 10 us
power in mW, the highest lid flux in W/cm2 x 100 and each paddock's power in mW; the module input, the converter, the
rails as (die, shelf, mV, 100 mA, 0.01 degC) and the lid sensors as (sensor, flux). -/
structure CapReading where
  power : List Nat
  maxFlux : List Nat
  paddockPower : List (List Nat)
  inputMv : Nat
  inputMa : Nat
  convMc : Nat
  rails : List (Nat × Nat × Nat × Nat × Nat)
  lid : List (Nat × Nat)
  deriving DecidableEq, Repr

/-- A measured quantity at the end of its window (R381, R427): the quantity code, the port (16 for the host link) or
connector, the lane, and the value: FP32 bits for codes 0 and 1, mV for 2, a count for 3 and 5, for 4 the voltage drop in nV, with
the current in mA and the resistance at mating in micro-ohm. -/
structure HealthReading where
  quantity : Nat
  port : Nat
  lane : Nat
  value : Nat
  current : Nat
  mating : Nat
  deriving DecidableEq, Repr

/-- One constructor per row of the opcode table. -/
inductive Instr where
  /-- NOP (R230): Does nothing and sends nothing. -/
  | nop (p : Pred)
  /-- EXIT (R227): Fires as the block execution's one exit and selects the next block of the task from IMM. -/
  | exit (p : Pred) (block : BitVec 5)
  /-- EXITX (R228): Exits to the block index given at run time by operand A. -/
  | exitx (p : Pred)
  /-- HALT (R229): Counts as an exit and halts the task until the next context switch. -/
  | halt (p : Pred)
  /-- YIELD (R229): Counts as an exit and leaves the task idle in a named block, firing no earlier than a delay. -/
  | yield (p : Pred) (block : BitVec 5) (dly : BitVec 16)
  /-- CTXEND (R229): Counts as an exit and ends the task until the next context switch. -/
  | ctxend (p : Pred)
  /-- PSET (R231): Sends a predicate token holding a constant bit. -/
  | pset (p : Pred) (ta : Target) (tb : Target) (v : BitVec 1)
  /-- PNOT (R231): Sends the predicate opa == 0. -/
  | pnot (p : Pred) (ta : Target) (tb : Target)
  /-- PAND (R231): Sends the predicate that both operands are nonzero. -/
  | pand (p : Pred) (ta : Target) (tb : Target)
  /-- POR (R231): Sends the predicate that either operand is nonzero. -/
  | por (p : Pred) (ta : Target) (tb : Target)
  /-- PXOR (R231): Sends the predicate that exactly one operand is nonzero. -/
  | pxor (p : Pred) (ta : Target) (tb : Target)
  /-- TSTZ (R231): Sends the predicate opa == 0. -/
  | tstz (p : Pred) (ta : Target) (tb : Target)
  /-- TSTNZ (R231): Sends the predicate opa != 0. -/
  | tstnz (p : Pred) (ta : Target) (tb : Target)
  /-- TSTNEG (R231): Sends the predicate that opa is negative as signed. -/
  | tstneg (p : Pred) (ta : Target) (tb : Target)
  /-- TSTBIT (R231): Sends bit n of opa as a predicate. -/
  | tstbit (p : Pred) (ta : Target) (tb : Target) (n : BitVec 6)
  /-- ADD (R232): Sends opa + opb modulo 2^64. -/
  | add (p : Pred) (ta : Target) (tb : Target)
  /-- SUB (R232): Sends opa - opb modulo 2^64. -/
  | sub (p : Pred) (ta : Target) (tb : Target)
  /-- MUL (R232): Sends the low 64 bits of the product. -/
  | mul (p : Pred) (ta : Target) (tb : Target)
  /-- MULHS (R232): Sends the high 64 bits of the signed 128-bit product. -/
  | mulhs (p : Pred) (ta : Target) (tb : Target)
  /-- MULHU (R232): Sends the high 64 bits of the unsigned 128-bit product. -/
  | mulhu (p : Pred) (ta : Target) (tb : Target)
  /-- DIVS (R233): Signed division truncating toward zero, with fixed results for zero and overflow cases. -/
  | divs (p : Pred) (ta : Target) (tb : Target)
  /-- DIVU (R233): Unsigned division, all ones for a zero divisor. -/
  | divu (p : Pred) (ta : Target) (tb : Target)
  /-- REMS (R233): Signed remainder with the sign of the dividend. -/
  | rems (p : Pred) (ta : Target) (tb : Target)
  /-- REMU (R233): Unsigned remainder, opa for a zero divisor. -/
  | remu (p : Pred) (ta : Target) (tb : Target)
  /-- AND (R232): Sends the bitwise AND of the operands. -/
  | and (p : Pred) (ta : Target) (tb : Target)
  /-- OR (R232): Sends the bitwise OR of the operands. -/
  | or (p : Pred) (ta : Target) (tb : Target)
  /-- XOR (R232): Sends the bitwise XOR of the operands. -/
  | xor (p : Pred) (ta : Target) (tb : Target)
  /-- SHL (R232): Shifts opa left by opb mod 64. -/
  | shl (p : Pred) (ta : Target) (tb : Target)
  /-- SHR (R232): Shifts opa right logically by opb mod 64. -/
  | shr (p : Pred) (ta : Target) (tb : Target)
  /-- SAR (R232): Shifts opa right arithmetically by opb mod 64. -/
  | sar (p : Pred) (ta : Target) (tb : Target)
  /-- ROL (R232): Rotates opa left by opb mod 64. -/
  | rol (p : Pred) (ta : Target) (tb : Target)
  /-- CEQ (R234): Sends the predicate opa == opb. -/
  | ceq (p : Pred) (ta : Target) (tb : Target)
  /-- CNE (R234): Sends the predicate opa != opb. -/
  | cne (p : Pred) (ta : Target) (tb : Target)
  /-- CLT (R234): Sends the signed predicate opa < opb. -/
  | clt (p : Pred) (ta : Target) (tb : Target)
  /-- CLE (R234): Sends the signed predicate opa <= opb. -/
  | cle (p : Pred) (ta : Target) (tb : Target)
  /-- CLTU (R234): Sends the unsigned predicate opa < opb. -/
  | cltu (p : Pred) (ta : Target) (tb : Target)
  /-- CLEU (R234): Sends the unsigned predicate opa <= opb. -/
  | cleu (p : Pred) (ta : Target) (tb : Target)
  /-- MINS (R234): Sends the signed smaller operand. -/
  | mins (p : Pred) (ta : Target) (tb : Target)
  /-- MAXS (R234): Sends the signed larger operand. -/
  | maxs (p : Pred) (ta : Target) (tb : Target)
  /-- MINU (R234): Sends the unsigned smaller operand. -/
  | minu (p : Pred) (ta : Target) (tb : Target)
  /-- MAXU (R234): Sends the unsigned larger operand. -/
  | maxu (p : Pred) (ta : Target) (tb : Target)
  /-- SEL (R235): Sends opa unchanged when operand P is nonzero and opb otherwise. -/
  | sel (ta : Target) (tb : Target)
  /-- ABS (R236): Sends the absolute value of opa, MIN mapping to itself. -/
  | abs (p : Pred) (ta : Target) (tb : Target)
  /-- NEG (R236): Sends -opa modulo 2^64. -/
  | neg (p : Pred) (ta : Target) (tb : Target)
  /-- NOT (R236): Sends the bitwise complement of opa. -/
  | not (p : Pred) (ta : Target) (tb : Target)
  /-- ADDI (R237): Adds the sign-extended immediate to opa. -/
  | addi (p : Pred) (ta : Target) (tb : Target) (imm : BitVec 32)
  /-- MULI (R237): Multiplies opa by the sign-extended immediate. -/
  | muli (p : Pred) (ta : Target) (tb : Target) (imm : BitVec 32)
  /-- MOVI (R238): Sends the sign-extended immediate. -/
  | movi (p : Pred) (ta : Target) (tb : Target) (imm : BitVec 32)
  /-- MOVHI (R238): Sends the immediate as the high half with the low half of opa. -/
  | movhi (p : Pred) (ta : Target) (tb : Target) (imm : BitVec 32)
  /-- COPY (R238): Sends opa unchanged in kind, level and value. -/
  | copy (p : Pred) (ta : Target) (tb : Target)
  /-- ANDI (R237): ANDs opa with the sign-extended immediate. -/
  | andi (p : Pred) (ta : Target) (tb : Target) (imm : BitVec 32)
  /-- ORI (R237): ORs opa with the sign-extended immediate. -/
  | ori (p : Pred) (ta : Target) (tb : Target) (imm : BitVec 32)
  /-- XORI (R237): XORs opa with the sign-extended immediate. -/
  | xori (p : Pred) (ta : Target) (tb : Target) (imm : BitVec 32)
  /-- SHLI (R237): Shifts opa left by an immediate amount. -/
  | shli (p : Pred) (ta : Target) (tb : Target) (sh : BitVec 6)
  /-- SHRI (R237): Shifts opa right logically by an immediate amount. -/
  | shri (p : Pred) (ta : Target) (tb : Target) (sh : BitVec 6)
  /-- SARI (R237): Shifts opa right arithmetically by an immediate amount. -/
  | sari (p : Pred) (ta : Target) (tb : Target) (sh : BitVec 6)
  /-- POPC (R236): Sends the number of 1 bits of opa. -/
  | popc (p : Pred) (ta : Target) (tb : Target)
  /-- CLZ (R236): Sends the number of leading zero bits of opa. -/
  | clz (p : Pred) (ta : Target) (tb : Target)
  /-- CTZ (R236): Sends the number of trailing zero bits of opa. -/
  | ctz (p : Pred) (ta : Target) (tb : Target)
  /-- BFX (R239): Extracts a bit field of opa, optionally sign-extended. -/
  | bfx (p : Pred) (ta : Target) (tb : Target) (lo : BitVec 6) (w : BitVec 6) (sx : BitVec 1)
  /-- BFI (R239): Inserts the low bits of opb into a field of opa. -/
  | bfi (p : Pred) (ta : Target) (tb : Target) (lo : BitVec 6) (w : BitVec 6)
  /-- LEA (R240): Forms base plus shifted index plus signed offset. -/
  | lea (p : Pred) (ta : Target) (tb : Target) (sh : BitVec 3) (off : BitVec 24)
  /-- CEQI (R237): Sends the predicate opa equals the sign-extended immediate. -/
  | ceqi (p : Pred) (ta : Target) (tb : Target) (imm : BitVec 32)
  /-- VADD (R257): Adds integer lanes modulo the lane width. -/
  | vadd (p : Pred) (fs : BitVec 2) (ta : Target) (tb : Target)
  /-- VSUB (R257): Subtracts integer lanes modulo the lane width. -/
  | vsub (p : Pred) (fs : BitVec 2) (ta : Target) (tb : Target)
  /-- VMUL (R257): Multiplies integer lanes modulo the lane width. -/
  | vmul (p : Pred) (fs : BitVec 2) (ta : Target) (tb : Target)
  /-- VMAD (R257): Multiplies and adds integer lanes modulo the lane width. -/
  | vmad (p : Pred) (fs : BitVec 2) (ta : Target) (tb : Target)
  /-- VMIN (R257): Takes the smaller of each integer lane pair. -/
  | vmin (p : Pred) (fs : BitVec 2) (ta : Target) (tb : Target)
  /-- VMAX (R257): Takes the larger of each integer lane pair. -/
  | vmax (p : Pred) (fs : BitVec 2) (ta : Target) (tb : Target)
  /-- VABS (R257): Takes the absolute value of each integer lane. -/
  | vabs (p : Pred) (fs : BitVec 2) (ta : Target) (tb : Target)
  /-- VNEG (R257): Negates each integer lane modulo the lane width. -/
  | vneg (p : Pred) (fs : BitVec 2) (ta : Target) (tb : Target)
  /-- VAND (R257): ANDs lane bits. -/
  | vand (p : Pred) (fs : BitVec 2) (ta : Target) (tb : Target)
  /-- VOR (R257): ORs lane bits. -/
  | vor (p : Pred) (fs : BitVec 2) (ta : Target) (tb : Target)
  /-- VXOR (R257): XORs lane bits. -/
  | vxor (p : Pred) (fs : BitVec 2) (ta : Target) (tb : Target)
  /-- VSHL (R258): Shifts each lane left. -/
  | vshl (p : Pred) (fs : BitVec 2) (ta : Target) (tb : Target) (sh : BitVec 6)
  /-- VSHR (R258): Shifts each lane right with zeros in. -/
  | vshr (p : Pred) (fs : BitVec 2) (ta : Target) (tb : Target) (sh : BitVec 6)
  /-- VSAR (R258): Shifts each lane right with sign copies in. -/
  | vsar (p : Pred) (fs : BitVec 2) (ta : Target) (tb : Target) (sh : BitVec 6)
  /-- VADDS (R257): Adds integer lanes with clamping, setting SATFLAG on clamp. -/
  | vadds (p : Pred) (fs : BitVec 2) (ta : Target) (tb : Target)
  /-- VSUBS (R257): Subtracts integer lanes with clamping, setting SATFLAG on clamp. -/
  | vsubs (p : Pred) (fs : BitVec 2) (ta : Target) (tb : Target)
  /-- VFADD (R259): Adds floating lanes with one RNE rounding. -/
  | vfadd (p : Pred) (fs : BitVec 2) (ta : Target) (tb : Target)
  /-- VFSUB (R259): Subtracts floating lanes with one RNE rounding. -/
  | vfsub (p : Pred) (fs : BitVec 2) (ta : Target) (tb : Target)
  /-- VFMUL (R259): Multiplies floating lanes with one RNE rounding. -/
  | vfmul (p : Pred) (fs : BitVec 2) (ta : Target) (tb : Target)
  /-- VFMA (R259): Fused multiply-add of floating lanes. -/
  | vfma (p : Pred) (fs : BitVec 2) (ta : Target) (tb : Target)
  /-- VFMS (R259): Fused multiply-subtract of floating lanes. -/
  | vfms (p : Pred) (fs : BitVec 2) (ta : Target) (tb : Target)
  /-- VFNMA (R259): Fused c minus a times b of floating lanes. -/
  | vfnma (p : Pred) (fs : BitVec 2) (ta : Target) (tb : Target)
  /-- VFMIN (R260): Takes the floating minimum of each lane pair. -/
  | vfmin (p : Pred) (fs : BitVec 2) (ta : Target) (tb : Target)
  /-- VFMAX (R260): Takes the floating maximum of each lane pair. -/
  | vfmax (p : Pred) (fs : BitVec 2) (ta : Target) (tb : Target)
  /-- VFABS (R261): Clears the sign bit of each lane. -/
  | vfabs (p : Pred) (fs : BitVec 2) (ta : Target) (tb : Target)
  /-- VFNEG (R261): Inverts the sign bit of each lane. -/
  | vfneg (p : Pred) (fs : BitVec 2) (ta : Target) (tb : Target)
  /-- VFCMP (R262): Compares floating lanes and writes mask lanes. -/
  | vfcmp (p : Pred) (fs : BitVec 2) (ta : Target) (tb : Target) (cc : BitVec 3)
  /-- VSEL (R264): Selects lanes of A or B by the mask in C. -/
  | vsel (p : Pred) (fs : BitVec 2) (ta : Target) (tb : Target)
  /-- VFRCP (R265): Computes the correctly rounded reciprocal of each lane. -/
  | vfrcp (p : Pred) (fs : BitVec 2) (ta : Target) (tb : Target)
  /-- VFRSQ (R265): Computes the correctly rounded reciprocal square root of each lane. -/
  | vfrsq (p : Pred) (fs : BitVec 2) (ta : Target) (tb : Target)
  /-- VFCLS (R263): Writes a mask lane marking lanes of selected classes. -/
  | vfcls (p : Pred) (fs : BitVec 2) (ta : Target) (tb : Target) (cls : BitVec 10)
  /-- VFSCL (R265): Scales each lane by a power of two with one rounding. -/
  | vfscl (p : Pred) (fs : BitVec 2) (ta : Target) (tb : Target)
  /-- VCVT (R266): Converts lanes through a converter slot, narrowing, widening or same width. -/
  | vcvt (p : Pred) (fs : BitVec 2) (ta : Target) (tb : Target) (c : BitVec 2) (part : BitVec 3)
  /-- VRINT (R267): Rounds each lane to an integral value by a converter slot's mode. -/
  | vrint (p : Pred) (fs : BitVec 2) (ta : Target) (tb : Target) (c : BitVec 2)
  /-- VFEXP (R265): Computes 2^a of each lane. -/
  | vfexp (p : Pred) (fs : BitVec 2) (ta : Target) (tb : Target)
  /-- VFLOG (R265): Computes log2 of each lane. -/
  | vflog (p : Pred) (fs : BitVec 2) (ta : Target) (tb : Target)
  /-- VXEXP (R265): Gives the unbounded exponent of each lane. -/
  | vxexp (p : Pred) (fs : BitVec 2) (ta : Target) (tb : Target)
  /-- VRED (R268): Reduces the lanes by a fixed tree to one FP32 or INT32 value. -/
  | vred (p : Pred) (fs : BitVec 2) (ta : Target) (tb : Target) (op : BitVec 2)
  /-- VSCAN (R269): Writes inclusive prefixes in ascending lane order. -/
  | vscan (p : Pred) (fs : BitVec 2) (ta : Target) (tb : Target) (op : BitVec 2)
  /-- VSHUF (R270): Permutes lanes of two tokens by an index token. -/
  | vshuf (p : Pred) (fs : BitVec 2) (ta : Target) (tb : Target)
  /-- VSPLAT (R271): Replicates a control value into every lane of a data token. -/
  | vsplat (p : Pred) (fs : BitVec 2) (ta : Target) (tb : Target)
  /-- VEXTR (R272): Moves one lane to the control plane. -/
  | vextr (p : Pred) (fs : BitVec 2) (ta : Target) (tb : Target) (lane : BitVec 4)
  /-- VINSL (R271): Inserts a control value into one lane of a data token. -/
  | vinsl (p : Pred) (fs : BitVec 2) (ta : Target) (tb : Target) (lane : BitVec 4)
  /-- VPACK (R273): Narrows two tokens' integer lanes into one. -/
  | vpack (p : Pred) (fs : BitVec 2) (ta : Target) (tb : Target) (sat : BitVec 1) (uns : BitVec 1)
  /-- VUNPK (R273): Widens half the integer lanes of a token. -/
  | vunpk (p : Pred) (fs : BitVec 2) (ta : Target) (tb : Target) (hi : BitVec 1)
  /-- VQNT (R274): Quantises a block of 32 keep values to an MX or P2P8 format and sends its scale. -/
  | vqnt (p : Pred) (fs : BitVec 2) (ta : Target) (tb : Target) (src : BitVec 6) (dst : BitVec 6) (c : BitVec 2)
  /-- VDQNT (R275): Expands one quantised block into keep registers. -/
  | vdqnt (p : Pred) (fs : BitVec 2) (ta : Target) (tb : Target) (src : BitVec 6) (dst : BitVec 6) (c : BitVec 2)
  /-- VPRUNE (R276): Stochastically prunes lanes against thresholds. -/
  | vprune (p : Pred) (fs : BitVec 2) (ta : Target) (tb : Target)
  /-- LDS (R283): Loads a scalar from scratchpad, with optional full/empty wait. -/
  | lds (p : Pred) (q : LoadQual) (ta : Target) (tb : Target) (size : BitVec 2) (sx : BitVec 1) (off : BitVec 21)
  /-- LDSV (R283): Loads 16 bytes from scratchpad as a record with the chunk's domain. -/
  | ldsv (p : Pred) (q : LoadQual) (ta : Target) (tb : Target) (off : BitVec 21)
  /-- STS (R283): Stores a scalar to scratchpad with a full/empty qualifier. -/
  | sts (p : Pred) (q : StoreQual) (ta : Target) (tb : Target) (size : BitVec 2) (off : BitVec 21)
  /-- STSV (R283): Stores a record payload to scratchpad and sets the chunk tag. -/
  | stsv (p : Pred) (q : StoreQual) (ta : Target) (tb : Target) (off : BitVec 21)
  /-- LDSX (R284): Gathers four scratchpad elements. -/
  | ldsx (p : Pred) (q : LoadQual) (ta : Target) (tb : Target) (size : BitVec 2) (sx : BitVec 1) (off : BitVec 21)
  /-- STSX (R284): Scatters four elements to scratchpad. -/
  | stsx (p : Pred) (q : StoreQual) (ta : Target) (tb : Target) (size : BitVec 2) (off : BitVec 21)
  /-- FESET (R286): Sets a granule's full/empty bit to full. -/
  | feset (p : Pred) (ta : Target) (tb : Target) (off : BitVec 21)
  /-- FECLR (R286): Clears a granule's full/empty bit. -/
  | feclr (p : Pred) (ta : Target) (tb : Target) (off : BitVec 21)
  /-- FETST (R286): Sends a predicate that a granule is full. -/
  | fetst (p : Pred) (ta : Target) (tb : Target) (off : BitVec 21)
  /-- KRD (R287): Reads a keep register as a data record. -/
  | krd (p : Pred) (ta : Target) (tb : Target) (k : BitVec 6)
  /-- KWR (R287): Writes a record payload into a keep register. -/
  | kwr (p : Pred) (ta : Target) (tb : Target) (k : BitVec 6)
  /-- ACRD (R288): Reads 16 accumulator bytes as a record. -/
  | acrd (p : Pred) (ta : Target) (tb : Target) (row : BitVec 6) (qr : BitVec 4)
  /-- ACWR (R288): Writes 16 accumulator bytes from a record. -/
  | acwr (p : Pred) (ta : Target) (tb : Target) (row : BitVec 6) (qr : BitVec 4)
  /-- ACCLR (R288): Writes +0 to the whole accumulator. -/
  | acclr (p : Pred) (ta : Target) (tb : Target)
  /-- WICK (R289): Waits until a run of wicket chunks has arrived; an acquire at KILN. -/
  | wick (p : Pred) (ta : Target) (tb : Target) (w : BitVec 4) (first : BitVec 6) (n : BitVec 6)
  /-- WADV (R290): Advances a wicket's consumed count and clears arrival bits; a release toward the drover. -/
  | wadv (p : Pred) (ta : Target) (tb : Target) (w : BitVec 4) (n : BitVec 6)
  /-- GLD (R292): Loads a scalar from a VA or on-chip window. -/
  | gld (p : Pred) (q : GlobalQual) (ta : Target) (tb : Target) (scope : BitVec 3) (size : BitVec 2) (off : BitVec 21)
  /-- GLDV (R292): Loads 16 bytes as a record. -/
  | gldv (p : Pred) (q : GlobalQual) (ta : Target) (tb : Target) (scope : BitVec 3) (off : BitVec 21)
  /-- GST (R292): Stores a scalar to a VA or on-chip window. -/
  | gst (p : Pred) (q : GlobalQual) (ta : Target) (tb : Target) (scope : BitVec 3) (size : BitVec 2) (off : BitVec 21)
  /-- GSTV (R292): Stores a record payload to a VA or on-chip window. -/
  | gstv (p : Pred) (q : GlobalQual) (ta : Target) (tb : Target) (scope : BitVec 3) (off : BitVec 21)
  /-- AADD (R293): Atomic add at the owner. -/
  | aadd (p : Pred) (q : GlobalQual) (ta : Target) (tb : Target) (scope : BitVec 3) (size : BitVec 2) (off : BitVec 21)
  /-- AAND (R293): Atomic AND at the owner. -/
  | aand (p : Pred) (q : GlobalQual) (ta : Target) (tb : Target) (scope : BitVec 3) (size : BitVec 2) (off : BitVec 21)
  /-- AOR (R293): Atomic OR at the owner. -/
  | aor (p : Pred) (q : GlobalQual) (ta : Target) (tb : Target) (scope : BitVec 3) (size : BitVec 2) (off : BitVec 21)
  /-- AXOR (R293): Atomic XOR at the owner. -/
  | axor (p : Pred) (q : GlobalQual) (ta : Target) (tb : Target) (scope : BitVec 3) (size : BitVec 2) (off : BitVec 21)
  /-- AMIN (R293): Atomic signed minimum at the owner. -/
  | amin (p : Pred) (q : GlobalQual) (ta : Target) (tb : Target) (scope : BitVec 3) (size : BitVec 2) (off : BitVec 21)
  /-- AMAX (R293): Atomic signed maximum at the owner. -/
  | amax (p : Pred) (q : GlobalQual) (ta : Target) (tb : Target) (scope : BitVec 3) (size : BitVec 2) (off : BitVec 21)
  /-- AMINU (R293): Atomic unsigned minimum at the owner. -/
  | aminu (p : Pred) (q : GlobalQual) (ta : Target) (tb : Target) (scope : BitVec 3) (size : BitVec 2) (off : BitVec 21)
  /-- AMAXU (R293): Atomic unsigned maximum at the owner. -/
  | amaxu (p : Pred) (q : GlobalQual) (ta : Target) (tb : Target) (scope : BitVec 3) (size : BitVec 2) (off : BitVec 21)
  /-- AXCH (R293): Atomic exchange at the owner. -/
  | axch (p : Pred) (q : GlobalQual) (ta : Target) (tb : Target) (scope : BitVec 3) (size : BitVec 2) (off : BitVec 21)
  /-- ACAS (R293): Atomic compare-and-swap against a keep register. -/
  | acas (p : Pred) (q : GlobalQual) (ta : Target) (tb : Target) (scope : BitVec 3) (size : BitVec 2) (keep : BitVec 6) (off : BitVec 21)
  /-- AFADD (R293): Atomic FP32 add at the owner. -/
  | afadd (p : Pred) (q : GlobalQual) (ta : Target) (tb : Target) (scope : BitVec 3) (off : BitVec 21)
  /-- ATAS (R293): Atomic test-and-set of one bit. -/
  | atas (p : Pred) (q : GlobalQual) (ta : Target) (tb : Target) (scope : BitVec 3) (off : BitVec 21)
  /-- FENCE (R295): Holds the tile's accesses until earlier ones have performed at its scope. -/
  | fence (p : Pred) (ta : Target) (tb : Target) (scope : BitVec 3)
  /-- ORDJ (R296): Joins up to three order tokens into one. -/
  | ordj (p : Pred) (ta : Target) (tb : Target)
  /-- BELL (R297): Counts an arrival at a bell and waits for its generation's release. -/
  | bell (p : Pred) (ta : Target) (tb : Target) (bell : BitVec 6)
  /-- BELLA (R297): Counts an arrival at a bell without waiting. -/
  | bella (p : Pred) (ta : Target) (tb : Target) (bell : BitVec 6)
  /-- ABSTN (R297): Counts an abstention at a bell. -/
  | abstn (p : Pred) (ta : Target) (tb : Target) (bell : BitVec 6)
  /-- QPUSH (R299): Appends a program record from keeps to a RECORD queue. -/
  | qpush (p : Pred) (ta : Target) (tb : Target) (k : BitVec 6)
  /-- QPOP (R299): Removes the oldest record of a RECORD queue into keeps. -/
  | qpop (p : Pred) (ta : Target) (tb : Target) (k : BitVec 6)
  /-- QLEN (R301): Reports a queue's occupancy. -/
  | qlen (p : Pred) (ta : Target) (tb : Target)
  /-- LNCH (R299): Forms a launch record from keeps and enqueues it. -/
  | lnch (p : Pred) (ta : Target) (tb : Target) (k : BitVec 6)
  /-- SIGC (R302): Adds to a completion counter as a release at SYSTEM. -/
  | sigc (p : Pred) (ta : Target) (tb : Target) (inc : BitVec 16)
  /-- WAITC (R303): Waits until a completion counter reaches a threshold. -/
  | waitc (p : Pred) (ta : Target) (tb : Target)
  /-- BMWAIT (R304): Waits until masked bits of a request bitmap are set. -/
  | bmwait (p : Pred) (ta : Target) (tb : Target) (off : BitVec 21)
  /-- LGEN (R309): Streams a one-dimensional sequence and a closing stop. -/
  | lgen (p : Pred) (ta : Target) (tb : Target) (step : BitVec 20) (lv : BitVec 3) (dpl : BitVec 1)
  /-- LGEN2 (R310): Streams a two-dimensional sequence with nested stops. -/
  | lgen2 (p : Pred) (ta : Target) (tb : Target) (step0 : BitVec 12) (step1 : BitVec 12) (lv : BitVec 3) (dpl : BitVec 1)
  /-- SPSCN (R311): Streams the indices of set bits of a mask combination. -/
  | spscn (p : Pred) (ta : Target) (tb : Target) (op : BitVec 1) (lv : BitVec 3) (dpl : BitVec 1)
  /-- RPTC (R313): Captures a token into a repeat ring. -/
  | rptc (p : Pred) (ta : Target) (tb : Target) (base : BitVec 12) (cap : BitVec 12)
  /-- RPTE (R314): Re-emits a closed repeat ring r times and empties it. -/
  | rpte (p : Pred) (ta : Target) (tb : Target) (base : BitVec 12) (cap : BitVec 12)
  /-- EMSTP (R315): Sends a stop token of a given level. -/
  | emstp (p : Pred) (ta : Target) (tb : Target) (lv : BitVec 3) (dpl : BitVec 1)
  /-- TKIND (R316): Reports or tests the kind and level of a token. -/
  | tkind (p : Pred) (ta : Target) (tb : Target) (lv : BitVec 3) (test : BitVec 1)
  /-- ITGATE (R317): Admits the next iteration after taking the done tokens of the last. -/
  | itgate (p : Pred) (ta : Target) (tb : Target) (vc : BitVec 3) (d : BitVec 4) (lv : BitVec 3)
  /-- TAKE (R318): Takes one token from a lazy VC. -/
  | take (p : Pred) (ta : Target) (tb : Target) (vc : BitVec 3)
  /-- CNTTK (R319): Adds to an in-flight counter and sends a stop when it reaches zero. -/
  | cnttk (p : Pred) (ta : Target) (tb : Target) (ctr : BitVec 3) (lv : BitVec 3) (dpl : BitVec 1)
  /-- SEQRD (R320): Reads a token's SEQ. -/
  | seqrd (p : Pred) (ta : Target) (tb : Target)
  /-- WGTRD (R320): Reads a token's WEIGHT. -/
  | wgtrd (p : Pred) (ta : Target) (tb : Target)
  /-- WGTWR (R321): Sets a record's WEIGHT, saturating. -/
  | wgtwr (p : Pred) (ta : Target) (tb : Target)
  /-- ISGAP (R320): Tests a token's kind. -/
  | isgap (p : Pred) (ta : Target) (tb : Target) (test : BitVec 2)
  /-- GAPRD (R320): Reads two fields of a gap token. -/
  | gaprd (p : Pred) (ta : Target) (tb : Target) (fa : BitVec 2) (fb : BitVec 2)
  /-- EMGAP (R321): Forms a gap token from control counts. -/
  | emgap (p : Pred) (ta : Target) (tb : Target)
  /-- VOIDR (R321): Turns a record into a void record. -/
  | voidr (p : Pred) (ta : Target) (tb : Target)
  /-- WACC (R322): Accumulates value times weight into keep lanes. -/
  | wacc (p : Pred) (fs : BitVec 2) (ta : Target) (tb : Target) (acc : BitVec 6) (wk : BitVec 6) (wen : BitVec 1) (sat : BitVec 1)
  /-- WINCL (R323): Assigns records and gaps to SEQ windows and reports closed windows. -/
  | wincl (p : Pred) (fs : BitVec 2) (ta : Target) (tb : Target) (zl : BitVec 5) (k : BitVec 6) (sat : BitVec 1)
  /-- JOINK (R324): Joins two record streams by equal SEQ with gap awareness. -/
  | joink (p : Pred) (fs : BitVec 2) (ta : Target) (tb : Target) (vcl : BitVec 3) (vcr : BitVec 3) (k : BitVec 6) (gapemit : BitVec 1)
  /-- WLD (R325): Fills a CIM bank from a lazy data VC. -/
  | wld (p : Pred) (fs : BitVec 2) (ta : Target) (tb : Target) (bank : BitVec 5) (vc : BitVec 3)
  /-- WLDS (R326): Copies a CIM bank from scratchpad. -/
  | wlds (p : Pred) (fs : BitVec 2) (ta : Target) (tb : Target) (bank : BitVec 5)
  /-- WSEL (R327): Sets the tile's current bank. -/
  | wsel (p : Pred) (ta : Target) (tb : Target) (bank : BitVec 5)
  /-- AROW (R328): Multiplies one A segment by the current bank into an accumulator row. -/
  | arow (p : Pred) (fs : BitVec 2) (ta : Target) (tb : Target) (row : BitVec 6) (off : BitVec 16)
  /-- ADRN (R329): Streams an accumulator row as 16 records. -/
  | adrn (p : Pred) (ta : Target) (tb : Target) (row : BitVec 6) (clr : BitVec 1)
  /-- AZERO (R327): Writes +0 to a run of accumulator rows. -/
  | azero (p : Pred) (ta : Target) (tb : Target) (row : BitVec 6) (n : BitVec 6)
  /-- XFWD (R330): Hands a time tile to the STU for a forward transform. -/
  | xfwd (p : Pred) (fs : BitVec 2) (ta : Target) (tb : Target) (c : BitVec 2)
  /-- XINV (R330): Hands a spectral tile to the STU for an inverse transform. -/
  | xinv (p : Pred) (fs : BitVec 2) (ta : Target) (tb : Target) (c : BitVec 2)
  /-- CMAC (R331): Accumulates spectral products into accumulator bins. -/
  | cmac (p : Pred) (fs : BitVec 2) (ta : Target) (tb : Target)
  /-- CMUL (R332): Multiplies complex lanes. -/
  | cmul (p : Pred) (fs : BitVec 2) (ta : Target) (tb : Target)
  /-- CCONJ (R332): Negates imaginary parts exactly. -/
  | cconj (p : Pred) (fs : BitVec 2) (ta : Target) (tb : Target)
  /-- DTAG (R332): Sets a token's DOMAIN. -/
  | dtag (p : Pred) (ta : Target) (tb : Target) (d : BitVec 1)
  /-- XREQ (R333): Sends a BTU request packet to the shelf's BTU. -/
  | xreq (p : Pred) (ta : Target) (tb : Target)
  /-- DRVK (R334): Kicks a drove list on a slice's drover. -/
  | drvk (p : Pred) (ta : Target) (tb : Target) (named : BitVec 1) (shelf : BitVec 6)
  /-- GTATT (R335): Appends a glaze to a handle and increments its generation. -/
  | gtatt (p : Pred) (ta : Target) (tb : Target)
  /-- GTDET (R335): Removes a glaze from a handle and increments its generation. -/
  | gtdet (p : Pred) (ta : Target) (tb : Target)
  /-- GTFLD (R336): Requests a fold of a glazed handle into a new body. -/
  | gtfld (p : Pred) (ta : Target) (tb : Target)
  /-- TRAP (R241): Raises a program trap, stopping the task and posting a record. -/
  | trap (p : Pred) (code : BitVec 16)
  /-- BRK (R242): Acts as NOP or, with breakpoints enabled, freezes the kiln and posts a record. -/
  | brk (p : Pred) (code : BitVec 16)
  /-- CTLRD (R244): Reads a task control register. -/
  | ctlrd (p : Pred) (ta : Target) (tb : Target) (idx : BitVec 12)
  /-- CTLWR (R244): Writes a task control register, returning its old value. -/
  | ctlwr (p : Pred) (ta : Target) (tb : Target) (idx : BitVec 12)
  /-- CNTRD (R245): Reads, and optionally clears, a stall counter. -/
  | cntrd (p : Pred) (ta : Target) (tb : Target) (cnt : BitVec 3) (task : BitVec 3) (other : BitVec 1) (clr : BitVec 1)
  /-- RAND (R246): Makes one Philox draw and sends two 64-bit values. -/
  | rand (p : Pred) (ta : Target) (tb : Target)
  /-- SEED (R247): Sets the task generator's key and counter. -/
  | seed (p : Pred) (ta : Target) (tb : Target)
  /-- TIMER (R248): Reads TIMER, or waits until a deadline then reads it. -/
  | timer (p : Pred) (ta : Target) (tb : Target) (imm : BitVec 32)
  /-- FWSVC (R249): Asks the management cores for a service. -/
  | fwsvc (p : Pred) (ta : Target) (tb : Target) (svc : BitVec 8)
  /-- DNOP (R341): Drover command that does nothing. -/
  | dnop
  /-- DHALT (R341): Ends the drove list. -/
  | dhalt
  /-- DSET (R341): Sets a G register to an immediate. -/
  | dset (gd : BitVec 4) (imm : BitVec 64)
  /-- DADD (R341): Adds a register or immediate into a G register. -/
  | dadd (gd : BitVec 4) (ga : BitVec 4) (src : DSrc)
  /-- DMOV (R341): Copies one G register to another. -/
  | dmov (gd : BitVec 4) (ga : BitVec 4)
  /-- DLOOP (R342): Sets a loop count and skips the body when it is zero. -/
  | dloop (gd : BitVec 4) (src : DSrc) (tgt : BitVec 16)
  /-- DNEXT (R342): Decrements a loop count and branches back while nonzero. -/
  | dnext (gd : BitVec 4) (tgt : BitVec 16)
  /-- DJMP (R342): Jumps to a command index. -/
  | djmp (tgt : BitVec 16)
  /-- DJZ (R342): Jumps when a G register is zero. -/
  | djz (ga : BitVec 4) (tgt : BitVec 16)
  /-- DPAT (R343): Writes one dimension of a pattern register. -/
  | dpat (pr : BitVec 2) (dim : BitVec 2) (circ : BitVec 1) (count : BitVec 16) (stride : BitVec 32) (extent : BitVec 16) (start : BitVec 16)
  /-- DPUSH (R346): Pushes a pattern walk of elements to an on-chip or wicket destination. -/
  | dpush (pr : BitVec 2) (ga : BitVec 4) (gd : BitVec 4) (fmt : BitVec 4) (srcoc : BitVec 1) (dgen : BitVec 1) (dom : BitVec 1) (imm : BitVec 64)
  /-- DPULL (R346): Writes on-chip bytes out to VAs along a pattern. -/
  | dpull (pr : BitVec 2) (ga : BitVec 4) (gd : BitVec 4) (fmt : BitVec 4) (dgen : BitVec 1) (imm : BitVec 64)
  /-- DGTLD (R347): Loads glazed elements through a captured handle entry. -/
  | dgtld (pr : BitVec 2) (ga : BitVec 4) (gd : BitVec 4) (dgen : BitVec 1) (dom : BitVec 1) (imm : BitVec 64)
  /-- DGATH (R348): Gathers table rows by an index list. -/
  | dgath (pr : BitVec 2) (ga : BitVec 4) (gb : BitVec 4) (gd : BitVec 4) (fmt : BitVec 4) (dgen : BitVec 1) (dom : BitVec 1) (imm : BitVec 64)
  /-- DWICK (R344): Binds or unbinds the list's pushes to a wicket. -/
  | dwick (tile : BitVec 13) (wicket : BitVec 4) (bind : BitVec 1)
  /-- DSIG (R353): Adds to a completion counter as a release at SYSTEM. -/
  | dsig (ctr : BitVec 12) (inc : BitVec 16)
  /-- DWAITC (R353): Waits until a completion counter reaches a threshold. -/
  | dwaitc (ctr : BitVec 12) (src : DSrc)
  /-- DFENCE (R353): Completes once earlier accesses have performed at its scope. -/
  | dfence (scope : BitVec 3)
  /-- DFOLD (R350): Requests a fold as GTFLD does. -/
  | dfold (ga : BitVec 4) (gb : BitVec 4)
  /-- DCOPY (R346): Copies a pattern walk from VA to VA. -/
  | dcopy (pr : BitVec 2) (ga : BitVec 4) (gd : BitVec 4) (fmt : BitVec 4) (imm : BitVec 64)
  /-- DPREF (R349): Reads a pattern walk for timing only. -/
  | dpref (pr : BitVec 2) (ga : BitVec 4) (fmt : BitVec 4)
  /-- DCONV (R352): Turns the list's converter on with a format pair and mode, or off. -/
  | dconv (src : BitVec 4) (dst : BitVec 4) (mode : BitVec 3) (sat : BitVec 1) (on : BitVec 1)
  /-- PADDOCK_CREATE (R373): Creates a paddock with tables, quantum, shares, tier, keys, save range and peer mask. -/
  | paddockCreate
  /-- PADDOCK_DESTROY (R371): Destroys a paddock, tearing down every queue in mode ABORT. -/
  | paddockDestroy
  /-- CHARGE_LOAD (R221): Validates a charge image and loads it or refuses it with a cause. -/
  | chargeLoad
  /-- QUEUE_CREATE (R373): Creates a LAUNCH or RECORD queue with home die, priority and ring. -/
  | queueCreate
  /-- QUEUE_TEARDOWN_DRAIN (R393): Closes a queue, cancels unpicked launches, and lets dispatched ones finish. -/
  | queueTeardownDrain
  /-- QUEUE_TEARDOWN_ABORT (R393): Closes a queue, cancels unpicked launches, and aborts dispatched ones. -/
  | queueTeardownAbort
  /-- LAUNCH (R371): Enqueues a launch record, locally or forwarded to a peer. -/
  | launch
  /-- MAP (R158): Writes a range-table entry and invalidates affected TLB entries. -/
  | map
  /-- UNMAP (R158): Clears a range-table entry and invalidates affected TLB entries. -/
  | unmap
  /-- FAULT_READ (R419): Copies fault records of a die to host memory and frees their entries. -/
  | faultRead
  /-- FAULT_RESUME (R416): Resumes a stopped kiln or retries a held access. -/
  | faultResume
  /-- FAULT_RETIRE (R388): Retires the kiln of a fault record with STATUS ABORTED. -/
  | faultRetire
  /-- HANDLE_CREATE (R167): Creates a handle table entry with no glazes and generation 0. -/
  | handleCreate
  /-- GLAZE_ATTACH (R371): Appends a glaze to a handle as GTATT does. -/
  | glazeAttach
  /-- GLAZE_DETACH (R371): Removes a glaze from a handle as GTDET does. -/
  | glazeDetach
  /-- FOLD (R172): Captures a source handle and starts a fold into a new body. -/
  | fold
  /-- SNAPSHOT (R58): Starts a consistent capture of a running kiln by injecting raddles. -/
  | snapshot
  /-- SET_TOLERANCE (R380): Sets a paddock's latency tolerance for power states. -/
  | setTolerance
  /-- SET_TIER (R379): Sets a paddock's power tier. -/
  | setTier
  /-- POWER_REPORT (R374): Writes a 4 KiB power and telemetry report. -/
  | powerReport
  /-- LINK_HEALTH (R374): Writes a 4 KiB link and connector health report. -/
  | linkHealth
  /-- ATTEST (R383): Carries an SPDM request and writes a signed response. -/
  | attest
  /-- FW_PATCH (R383): Accepts a signed firmware patch for the next package reset. -/
  | fwPatch
  /-- RESET_PADDOCK (R384): Destroys and recreates a paddock with its earlier parameters. -/
  | resetPaddock
  /-- RESET_PACKAGE (R384): Returns the package to its power-on state. -/
  | resetPackage
  /-- COUNTER_SET (R372): Writes a completion counter as a release at SYSTEM. -/
  | counterSet
  /-- COUNTER_READ (R372): Returns a completion counter's value. -/
  | counterRead
  /-- POWER_CONFIG (R373): Sets FRAC and the tier floors of each die. -/
  | powerConfig
  /-- SNAPSHOT_RESTORE (R375): Enqueues a launch that resumes from a snapshot record. -/
  | snapshotRestore
  /-- REGISTER_WRITE (R368): A host write to a BAR0 register that has no row of its own. -/
  | registerWrite
  /-- HOST_APERTURE_ACCESS (R367): A host access through a BAR2 paddock aperture, translated by stage 2 and served at the slice. -/
  | hostApertureAccess
  /-- PEER_ACCESS (R376): An access arriving on a peer port, admitted by the paddock's peer mask and served at the slice. -/
  | peerAccess
  /-- PEER_LAUNCH_ARRIVAL (R371): A launch record forwarded by a peer is enqueued in the named paddock. -/
  | peerLaunchArrival
  /-- POWER_ON (R382): Power-on starts measured boot, rail bring-up and host-link training. -/
  | powerOn
  /-- BOOT_COMPLETE (R382): Firmware sets BOOTOK and READY, marking the end of boot. -/
  | bootComplete
  /-- FLUID_DATA_WRITE (R378): The rack controller writes saturation temperature, pressure and CHF over SMBus. -/
  | fluidDataWrite
  /-- BLOCK_FIRE (R29): An idle task's block fires, dequeuing eager bindings and delivering their tokens. -/
  | blockFire
  /-- INSTRUCTION_COMPLETE (R32): An issued instruction's waiting results are accepted and it completes. -/
  | instructionComplete
  /-- BLOCK_END (R33): A block execution ends once an exit has fired or all completed and every issued instruction completed. -/
  | blockEnd
  /-- WAIT_SATISFIED (R281): A waiting instruction finds its condition met at its per-cycle test and proceeds. -/
  | waitSatisfied
  /-- TIMER_DEADLINE (R248): A waiting TIMER reaches its deadline and sends TIMER. -/
  | timerDeadline
  /-- FWSVC_RESULT (R249): The management cores deliver a service result. -/
  | fwsvcResult
  /-- ACCESS_RESPONSE (R177): A memory access is served or performed at its point and its value and tokens are sent. -/
  | accessResponse
  /-- UNIT_INSTALL (R56): A first access to a 4 KiB on-chip unit writes back the earlier owner's content and installs the incoming content. -/
  | unitInstall
  /-- LINK_ARRIVAL (R75): A token reaches a link's tail and is enqueued, joined, merged, narrowed, sampled or dropped. -/
  | linkArrival
  /-- WAITING_STOP_ENTERS (R79): A stop or gap token waiting at a full culled tail enters once a dequeue frees a slot. -/
  | waitingStopEnters
  /-- CREDIT_RETURN (R71): A credit freed by a dequeue becomes usable by the producer after the hop and slot-return delay. -/
  | creditReturn
  /-- SLOT_RETURN_DELAY_EXPIRY (R86): A freed culled-link slot stops counting as occupied after the delay. -/
  | slotReturnDelayExpiry
  /-- TICK (R87): A tick source delivers a value token into control VC 7 at its period and phase. -/
  | tick
  /-- RSU_FIRE (R89): An RSU channel with all masked heads present folds or scans them. -/
  | rsuFire
  /-- RSU_RESULT (R89): An RSU result token leaves on its link two cycles after firing. -/
  | rsuResult
  /-- AROW_CONSUMED (R122): An AROW's consumed event frees its row buffer, sends its order token and begins its group adds. -/
  | arowConsumed
  /-- STU_TRANSFORM_SERVE (R136): The STU begins the next queued transform and reads its source. -/
  | stuTransformServe
  /-- STU_RESULT_WRITE (R136): The STU writes a transform's result and destination tags. -/
  | stuResultWrite
  /-- SIGNAL_PROPAGATE (R40): A predicate-network write becomes visible to every tile 16 cycles later. -/
  | signalPropagate
  /-- BELL_RELEASE (R298): Release tokens of a reached generation reach waiting BELLs 16 cycles later. -/
  | bellRelease
  /-- BELL_TIMEOUT (R389): A bell generation is not reached within its timeout and the kiln stops. -/
  | bellTimeout
  /-- QUEUE_REFILL (R357): A ring head record moves into a free on-chip queue entry. -/
  | queueRefill
  /-- PHASE_END (R38): All tasks of a context ended or halted and links drained, so the next context is chosen. -/
  | phaseEnd
  /-- CONTEXT_SWITCH_COMPLETE (R39): The 64-cycle switch completes and the new context's tasks start idle. -/
  | contextSwitchComplete
  /-- LAUNCH_PICK (R48): A die's launch unit picks an eligible head launch and the allocator places it. -/
  | launchPick
  /-- LAUNCH_RESERVATION (R51): A head launch waiting two quanta reserves a rectangle. -/
  | launchReservation
  /-- LAUNCH_START (R44): Data images are written, argument tokens enter and launch-kicked lists are kicked. -/
  | launchStart
  /-- KILN_COMPLETE (R44): All sinks have level-7 stops and everything has drained, so the kiln completes. -/
  | kilnComplete
  /-- QUANTUM_EXPIRY (R52): A kiln's quantum expires and it may be frozen for a waiting launch. -/
  | quantumExpiry
  /-- RADDLE_SEAL (R58): A raddle reaches the head of a task's VC and seals it. -/
  | raddleSeal
  /-- SNAPSHOT_TASK_SAVE (R58): A task with all VCs sealed and idle saves its context and sends raddles on. -/
  | snapshotTaskSave
  /-- SNAPSHOT_DEADLINE (R59): A snapshot's deadline passes and it is taken by freeze instead. -/
  | snapshotDeadline
  /-- DROVE_LIST_START (R187): A drover starts the next submitted list once the one before has halted. -/
  | droveListStart
  /-- PUSH_RESUME (R344): A push waiting on a wicket window continues once the consumed count admits the next chunk. -/
  | pushResume
  /-- BTU_COPY (R166): The BTU begins a queued copy when fewer than 8 run. -/
  | btuCopy
  /-- BTU_COPY_COMPLETE (R144): A BTU copy's last byte in each chunk lands and its bitmap bit is set. -/
  | btuCopyComplete
  /-- FOLD_COMPLETE (R172): The fold engines finish the new body, validate the new handle and signal its counter. -/
  | foldComplete
  /-- MEMORY_TILE_PORT (R146): A memory-tile port takes a token and writes or reads through its pattern and encoding. -/
  | memoryTilePort
  /-- MIGRATION_EPOCH (R160): At each 1 ms epoch a slice migrates frames whose remote traffic dominates. -/
  | migrationEpoch
  /-- SCRUB (R421): Periodic ECC scrubbing of DRAM and SRAM corrects or poisons granules. -/
  | scrub
  /-- CAP_COMPUTE (R378): Every 10 us firmware computes each die's cap and evaluates tier throttles. -/
  | capCompute
  /-- CAP_CLAMP (R422): A die stays above its cap 50 us after computation and is clamped. -/
  | capClamp
  /-- FLUX_LIMIT (R422): A lid sensor exceeds FRAC times CHF for 100 us and the die is clamped. -/
  | fluxLimit
  /-- CLAMP_RELEASE (R423): The clamp condition has stayed clear for 100 us and the level begins to fall. -/
  | clampRelease
  /-- THERMAL_TRIP (R422): A lid or rail over its limit for 1 ms trips the die. -/
  | thermalTrip
  /-- TRIP_CLEAR (R424): The trip condition has stayed clear for 10 ms and the die takes placements again. -/
  | tripClear
  /-- RAIL_FAULT (R422): A shelf rail off its setpoint for 10 us stops every kiln on the shelf. -/
  | railFault
  /-- INPUT_RANGE (R422): The module input leaves 760-840 V for 10 us and every die is clamped. -/
  | inputRange
  /-- CONVERTER_TEMP (R422): The converter exceeds 105 C for 1 ms and every die's cap is halved. -/
  | converterTemp
  /-- CONVERTER_SHUTDOWN (R422): Input below 700 V or above 880 V shuts the converter down without report. -/
  | converterShutdown
  /-- POWER_STATE_CHANGE (R380): An unused shelf or the package enters or leaves S1, S2 or S3 by the tolerance rule. -/
  | powerStateChange
  /-- FLIT_REPLAY (R425): A flit whose CRC fails after FEC is replayed by the link. -/
  | flitReplay
  /-- HEALTH_WINDOW (R427): At each measurement window quantities are compared with their thresholds. -/
  | healthWindow
  /-- PORT_RETRAIN_ATTEMPT (R426): Every 10 s a down port attempts an 8-lane retrain to return to service. -/
  | portRetrainAttempt
  /-- MIGRATION_COMPLETE (R160): The drover's copy of a migrating frame finishes, the frame map entry is rewritten, covering TLB entries are invalidated, waiting accesses are served at the new frame and the old frame is freed. -/
  | migrationComplete
  /-- PEER_ACKNOWLEDGES (R371): The acknowledgement, or the denial, of a forwarded launch arrives from the peer and completes the sender's LAUNCH command. -/
  | peerAcknowledges
  deriving DecidableEq, Repr

/-- What the outside presents to the part, with its values: the host, the rack controller, peers, the physical
surroundings, and the findings of ECC. -/
inductive Input where
  | registerWrite (off : Nat) (val : Word)
  | registerRead (off : Nat)
  | hostApertureAccess (a : OutsideAccess)
  | peerAccess (port : Nat) (a : OutsideAccess)
  | peerLaunchArrival (port : Nat) (paddock : Nat) (queue : Nat) (rec : Rec8)
  | powerOn
  | fluidDataWrite (tsat : Nat) (pressure : Nat) (chf : Nat)
  | scrub (find : ScrubFinding)
  | capCompute (r : CapReading)
  | capClamp (die : Nat) (power : Nat)
  | fluxLimit (die : Nat) (sensor : Nat) (flux : Nat)
  | clampRelease (die : Nat)
  | thermalTrip (die : Nat) (shelf : Nat) (value : Nat)
  | tripClear (die : Nat)
  | railFault (die : Nat) (shelf : Nat) (mv : Nat)
  | inputRange (mv : Nat)
  | converterTemp (mc : Nat)
  | converterShutdown
  | flitReplay (port : Nat) (lane : Nat)
  | healthWindow (h : HealthReading)
  | portRetrainAttempt (port : Nat) (ok : Bool)
  | peerAcknowledges (id : Nat) (status : Nat)
  deriving DecidableEq, Repr

/-- The row of the opcode table that an input is. -/
def Input.row : Input → Instr
  | .registerWrite _ _ => .registerWrite
  | .registerRead _ => .registerWrite
  | .hostApertureAccess _ => .hostApertureAccess
  | .peerAccess _ _ => .peerAccess
  | .peerLaunchArrival _ _ _ _ => .peerLaunchArrival
  | .powerOn => .powerOn
  | .fluidDataWrite _ _ _ => .fluidDataWrite
  | .scrub _ => .scrub
  | .capCompute _ => .capCompute
  | .capClamp _ _ => .capClamp
  | .fluxLimit _ _ _ => .fluxLimit
  | .clampRelease _ => .clampRelease
  | .thermalTrip _ _ _ => .thermalTrip
  | .tripClear _ => .tripClear
  | .railFault _ _ _ => .railFault
  | .inputRange _ => .inputRange
  | .converterTemp _ => .converterTemp
  | .converterShutdown => .converterShutdown
  | .flitReplay _ _ => .flitReplay
  | .healthWindow _ => .healthWindow
  | .portRetrainAttempt _ _ => .portRetrainAttempt
  | .peerAcknowledges _ _ => .peerAcknowledges

/-- The cause codes of a refusal at load (R396, R403). -/
inductive LoadCause where
  | opcodeReserved
  | pmReserved
  | fsReserved
  | targetReserved
  | immField
  | nameUnknown
  | formatUse
  | configWord
  | blockHeader
  | chargeHeader
  | aliasClass
  | raceUnordered
  | signature
  | positionUnnamed
  | linkZeroCycle
  | reconvSlots
  | planeMismatch
  | cullConfig
  | linkShape
  | regionConfig
  deriving DecidableEq, Repr

/-- The code that CHARGE_LOAD reports for a cause (R396, R403). -/
def LoadCause.code : LoadCause → Nat
  | .opcodeReserved => 0x10
  | .pmReserved => 0x11
  | .fsReserved => 0x12
  | .targetReserved => 0x13
  | .immField => 0x14
  | .nameUnknown => 0x15
  | .formatUse => 0x16
  | .configWord => 0x17
  | .blockHeader => 0x18
  | .chargeHeader => 0x19
  | .aliasClass => 0x1A
  | .raceUnordered => 0x1B
  | .signature => 0x1C
  | .positionUnnamed => 0x1D
  | .linkZeroCycle => 0x30
  | .reconvSlots => 0x31
  | .planeMismatch => 0x32
  | .cullConfig => 0x33
  | .linkShape => 0x34
  | .regionConfig => 0x35

end Sys2Proof
end

