-- ==== Sys2Proof/WellFormed.lean ====
section
/-! DEFINITION. Which terms of `Instr` the encodings admit: the limits on fields that an instruction word, a drove-list
command states by itself (R221, R339). What depends on the rest of a charge (slots below
COUNT, declared links, formats, names) is the loader's. -/

namespace Sys2Proof

/-- A target that a stream instruction may send more than one token to: an output port or null (R306). -/
def Target.takesStream : Target → Bool
  | .port _ _ | .null => true
  | .slot _ _ | .keep _ | .signal _ => false

/-- The control registers of R243, by index. -/
def ctlRegKnown (i : Nat) : Bool :=
  i ≤ 0x004 || i == 0x010 || i == 0x011 || (0x020 ≤ i && i ≤ 0x022) || i == 0x030 || (0x040 ≤ i && i ≤ 0x047)

/-- The control registers of access rw (R243). -/
def ctlRegWritable (i : Nat) : Bool :=
  i == 0x010 || i == 0x011 || (0x020 ≤ i && i ≤ 0x022) || (0x040 ≤ i && i ≤ 0x047)

/-- The element formats of a drove-list command (R339). -/
def droveFmt (f : Nat) : Bool := f ≤ 3 || (5 ≤ f && f ≤ 9) || f == 0xC || f == 0xD || f == 0xE

/-- CB16 and CF32 (R95). -/
def fmtComplex (f : Nat) : Bool := f == 0xD || f == 0xE

namespace WellFormed

/-- The targets of a stream instruction (R306). -/
def targetOk : Instr → Bool
  | .lgen _ ta _ _ _ _ => ta.takesStream
  | .lgen2 _ ta _ _ _ _ _ => ta.takesStream
  | .spscn _ ta _ _ _ _ => ta.takesStream
  | .rpte _ ta _ _ _ => ta.takesStream
  | .adrn _ ta _ _ _ => ta.takesStream
  | .wincl _ _ ta tb _ _ _ => ta.takesStream && tb.takesStream
  | _ => true

/-- The limits on IMM fields (R403, IMM_FIELD), and those on the fields of a drove-list command (R339). -/
def immOk : Instr → Bool
  | .bfx _ _ _ lo w _ => lo.toNat + w.toNat + 1 ≤ 64
  | .bfi _ _ _ lo w => lo.toNat + w.toNat + 1 ≤ 64
  | .gld _ _ _ _ scope _ _ => scope.toNat ≤ 4
  | .gldv _ _ _ _ scope _ => scope.toNat ≤ 4
  | .gst _ _ _ _ scope _ _ => scope.toNat ≤ 4
  | .gstv _ _ _ _ scope _ => scope.toNat ≤ 4
  | .aadd _ _ _ _ scope _ _ => scope.toNat ≤ 4
  | .aand _ _ _ _ scope _ _ => scope.toNat ≤ 4
  | .aor _ _ _ _ scope _ _ => scope.toNat ≤ 4
  | .axor _ _ _ _ scope _ _ => scope.toNat ≤ 4
  | .amin _ _ _ _ scope _ _ => scope.toNat ≤ 4
  | .amax _ _ _ _ scope _ _ => scope.toNat ≤ 4
  | .aminu _ _ _ _ scope _ _ => scope.toNat ≤ 4
  | .amaxu _ _ _ _ scope _ _ => scope.toNat ≤ 4
  | .axch _ _ _ _ scope _ _ => scope.toNat ≤ 4
  | .acas _ _ _ _ scope _ _ _ => scope.toNat ≤ 4
  | .afadd _ _ _ _ scope _ => scope.toNat ≤ 4
  | .atas _ _ _ _ scope _ => scope.toNat ≤ 4
  | .fence _ _ _ scope => scope.toNat ≤ 4
  | .ldsx _ _ _ _ size _ _ => size.toNat ≤ 2
  | .stsx _ _ _ _ size _ => size.toNat ≤ 2
  | .vred _ _ _ _ op => op.toNat ≤ 2
  | .vscan _ _ _ _ op => op.toNat ≤ 2
  | .vpack _ _ _ _ sat uns => uns.toNat ≤ sat.toNat
  | .lgen2 _ _ _ _ _ lv _ => lv.toNat ≤ 6
  | .itgate _ _ _ _ d _ => d.toNat != 0
  | .azero _ _ _ row n => row.toNat + n.toNat + 1 ≤ 64
  | .qpush _ _ _ k => k.toNat ≤ 60
  | .qpop _ _ _ k => k.toNat ≤ 60
  | .lnch _ _ _ k => k.toNat ≤ 60
  | .sigc _ _ _ inc => inc.toNat != 0
  | .wincl _ _ _ _ zl k _ => zl.toNat ≤ 22 && k.toNat ≤ 61
  | .rptc _ _ _ base cap => 32 * (base.toNat + (cap.toNat + 1) + 1) ≤ 0x18000
  | .rpte _ _ _ base cap => 32 * (base.toNat + (cap.toNat + 1) + 1) ≤ 0x18000
  | .wld _ _ _ _ bank _ => bank.toNat ≤ 23
  | .wlds _ _ _ _ bank => bank.toNat ≤ 23
  | .wsel _ _ _ bank => bank.toNat ≤ 23
  | .dsig _ inc => inc.toNat != 0
  | .dfence scope => scope.toNat == 3 || scope.toNat == 4
  | .dpush _ _ gd _ _ dgen _ _ => dgen.toNat != 0 || gd.toNat == 0
  | .dpull _ _ gd _ dgen _ => dgen.toNat != 0 || gd.toNat == 0
  | .dgtld _ _ gd dgen _ _ => dgen.toNat != 0 || gd.toNat == 0
  | .dgath _ _ _ gd _ dgen _ _ => dgen.toNat != 0 || gd.toNat == 0
  | .dwick tile wicket bind => bind.toNat != 0 || (tile.toNat == 0 && wicket.toNat == 0)
  | .dconv src dst mode sat on =>
    if on.toNat == 0 then src.toNat == 0 && dst.toNat == 0 && mode.toNat == 0 && sat.toNat == 0 else mode.toNat ≤ 4
  | _ => true

/-- The names that an immediate may hold (R403, NAME_UNKNOWN): control registers (R244) and services (R249). -/
def nameOk : Instr → Bool
  | .ctlrd _ _ _ idx => ctlRegKnown idx.toNat
  | .ctlwr _ _ _ idx => ctlRegWritable idx.toNat
  | .fwsvc _ _ _ svc => svc.toNat ≤ 3
  | _ => true

/-- The formats of the drove commands (R339, R352). -/
def formatOk : Instr → Bool
  | .dpush _ _ _ fmt _ _ _ _ => droveFmt fmt.toNat
  | .dpull _ _ _ fmt _ _ => droveFmt fmt.toNat
  | .dgath _ _ _ _ fmt _ _ _ => droveFmt fmt.toNat
  | .dcopy _ _ _ fmt _ => droveFmt fmt.toNat
  | .dpref _ _ fmt => droveFmt fmt.toNat
  | .dconv src dst _ _ on => on.toNat == 0 ||
      (droveFmt src.toNat && droveFmt dst.toNat && fmtComplex src.toNat == fmtComplex dst.toNat)
  | _ => true

end WellFormed

/-- A well-formed instruction: every limit that its own encoding states holds. -/
def Instr.wellFormed (i : Instr) : Bool :=
  WellFormed.targetOk i && WellFormed.immOk i && WellFormed.nameOk i && WellFormed.formatOk i

end Sys2Proof
end

