-- ==== Sys2Proof/Decode.lean ====
section
/-! DEFINITION. From words to instructions and back. The decoder of an instruction word (R195 to R199), of a drove-list
command (R219, R339) and of a command entry (R369, R371); each refuses by the loader's cause what its encoding
reserves, the lowest cause first (R404). After them the encoder, written from the same tables. -/

namespace Sys2Proof

/-- Bits [lo + w - 1 : lo] of a number. -/
def fld (n lo w : Nat) : Nat := n / 2 ^ lo % 2 ^ w

/-- The value of little-endian bytes. -/
def leNat : List Byte → Nat
  | [] => 0
  | b :: bs => b.toNat + 256 * leNat bs

/-- The low `n` little-endian bytes of a number. -/
def leBytes : Nat → Nat → List Byte
  | 0, _ => []
  | n + 1, v => BitVec.ofNat 8 v :: leBytes n (v / 256)

/-- The two's-complement reading of the low `w` bits. -/
def sextInt (w n : Nat) : Int := if n % 2 ^ w < 2 ^ (w - 1) then (n % 2 ^ w : Nat) else (n % 2 ^ w : Nat) - (2 ^ w : Nat)

/-- The position that two bits of a slot target name (R197). -/
def Pos.ofCode : Nat → Pos
  | 0 => .a
  | 1 => .b
  | 2 => .c
  | _ => .p

/-- PM (R196). -/
def decodePred : Nat → Option Pred
  | 0 => some .always
  | 1 => some .ifNonzero
  | 2 => some .ifZero
  | _ => none

/-- A target code (R197); the codes that the table does not list are refused. -/
def decodeTarget (n : Nat) : Option Target :=
  if fld n 9 1 = 0 then some (.slot (BitVec.ofNat 7 (fld n 2 7)) (Pos.ofCode (fld n 0 2)))
  else match fld n 6 3 with
    | 0 => if fld n 0 6 = 0 then some .null else none
    | 1 => some (.port (BitVec.ofNat 3 (fld n 3 3)) (BitVec.ofNat 3 (fld n 0 3)))
    | 2 => some (.keep (BitVec.ofNat 6 (fld n 0 6)))
    | 3 => if fld n 4 2 = 0 then some (.signal (BitVec.ofNat 4 (fld n 0 4))) else none
    | _ => none

/-- FS of a scratchpad load (R198). -/
def decodeLoadQual : Nat → Option LoadQual
  | 0 => some .plain
  | 1 => some .waitF
  | 2 => some .waitC
  | _ => none

/-- FS of a scratchpad store (R198). -/
def decodeStoreQual : Nat → Option StoreQual
  | 0 => some .setFull
  | 1 => some .waitE
  | 2 => some .noFe
  | _ => none

/-- FS of a global access (R198). -/
def decodeGlobalQual : Nat → GlobalQual
  | 0 => .plain
  | 1 => .acq
  | 2 => .rel
  | _ => .acqRel

/-- The checks that every instruction shares after its own fields are read: stream targets, IMM bits, names. -/
def checked (gaps : Bool) (i : Instr) : Except LoadCause Instr :=
  if !WellFormed.targetOk i then .error .targetReserved
  else if !gaps || !WellFormed.immOk i then .error .immField
  else if !WellFormed.nameOk i then .error .nameUnknown
  else .ok i

/-- An instruction with a qualifier or format slot `α` in FS and two targets: PM, FS, targets, then `checked`. -/
def buildQ {α : Type} (w : Nat) (fs : Option α) (gaps : Bool) (mk : Pred → α → Target → Target → Instr) :
    Except LoadCause Instr :=
  match decodePred (fld w 54 2) with
  | none => .error .pmReserved
  | some p =>
    match fs with
    | none => .error .fsReserved
    | some q =>
      match decodeTarget (fld w 42 10), decodeTarget (fld w 32 10) with
      | some ta, some tb => checked gaps (mk p q ta tb)
      | _, _ => .error .targetReserved

/-- FS must be 00 (R198). -/
def fsZero (w : Nat) : Option Unit := if fld w 52 2 = 0 then some () else none

/-- FS names a format slot (R198). -/
def fsSlot (w : Nat) : Option (BitVec 2) := some (BitVec.ofNat 2 (fld w 52 2))

/-- An instruction of FS 00 and two targets. -/
def buildC (w : Nat) (gaps : Bool) (mk : Pred → Target → Target → Instr) : Except LoadCause Instr :=
  buildQ w (fsZero w) gaps (fun p _ ta tb => mk p ta tb)

/-- An instruction whose entry sends nothing: both targets are null (R222). -/
def buildN (w : Nat) (gaps : Bool) (mk : Pred → Instr) : Except LoadCause Instr :=
  match decodePred (fld w 54 2) with
  | none => .error .pmReserved
  | some p =>
    if fld w 52 2 ≠ 0 then .error .fsReserved
    else if fld w 42 10 ≠ 0x200 ∨ fld w 32 10 ≠ 0x200 then .error .targetReserved
    else checked gaps (mk p)

/-- SEL: PM must be 00 (R235). -/
def buildS (w : Nat) (gaps : Bool) (mk : Target → Target → Instr) : Except LoadCause Instr :=
  if fld w 54 2 ≠ 0 then .error .pmReserved
  else buildQ w (fsZero w) gaps (fun _ _ ta tb => mk ta tb)

/-- Bits [lo + w - 1 : lo] of the word are zero. -/
def gap (n lo w : Nat) : Bool := fld n lo w == 0

/-- Row 0x0_ of the opcode map (R220). -/
def decodeRow0 (w : Nat) : Except LoadCause Instr :=
  match fld w 56 4 with
  | 0x0 => buildN w (gap w 0 32) fun p => .nop p
  | 0x1 => buildN w (gap w 5 27) fun p => .exit p (BitVec.ofNat 5 (fld w 0 5))
  | 0x2 => buildN w (gap w 0 32) fun p => .exitx p
  | 0x3 => buildN w (gap w 0 32) fun p => .halt p
  | 0x4 => buildN w (gap w 21 11) fun p => .yield p (BitVec.ofNat 5 (fld w 0 5)) (BitVec.ofNat 16 (fld w 5 16))
  | 0x5 => buildN w (gap w 0 32) fun p => .ctxend p
  | 0x6 => buildC w (gap w 1 31) fun p ta tb => .pset p ta tb (BitVec.ofNat 1 (fld w 0 1))
  | 0x7 => buildC w (gap w 0 32) fun p ta tb => .pnot p ta tb
  | 0x8 => buildC w (gap w 0 32) fun p ta tb => .pand p ta tb
  | 0x9 => buildC w (gap w 0 32) fun p ta tb => .por p ta tb
  | 0xA => buildC w (gap w 0 32) fun p ta tb => .pxor p ta tb
  | 0xB => buildC w (gap w 0 32) fun p ta tb => .tstz p ta tb
  | 0xC => buildC w (gap w 0 32) fun p ta tb => .tstnz p ta tb
  | 0xD => buildC w (gap w 0 32) fun p ta tb => .tstneg p ta tb
  | 0xE => buildC w (gap w 6 26) fun p ta tb => .tstbit p ta tb (BitVec.ofNat 6 (fld w 0 6))
  | _ => .error .opcodeReserved

/-- Row 0x1_ of the opcode map (R220). -/
def decodeRow1 (w : Nat) : Except LoadCause Instr :=
  match fld w 56 4 with
  | 0x0 => buildC w (gap w 0 32) fun p ta tb => .add p ta tb
  | 0x1 => buildC w (gap w 0 32) fun p ta tb => .sub p ta tb
  | 0x2 => buildC w (gap w 0 32) fun p ta tb => .mul p ta tb
  | 0x3 => buildC w (gap w 0 32) fun p ta tb => .mulhs p ta tb
  | 0x4 => buildC w (gap w 0 32) fun p ta tb => .mulhu p ta tb
  | 0x5 => buildC w (gap w 0 32) fun p ta tb => .divs p ta tb
  | 0x6 => buildC w (gap w 0 32) fun p ta tb => .divu p ta tb
  | 0x7 => buildC w (gap w 0 32) fun p ta tb => .rems p ta tb
  | 0x8 => buildC w (gap w 0 32) fun p ta tb => .remu p ta tb
  | 0x9 => buildC w (gap w 0 32) fun p ta tb => .and p ta tb
  | 0xA => buildC w (gap w 0 32) fun p ta tb => .or p ta tb
  | 0xB => buildC w (gap w 0 32) fun p ta tb => .xor p ta tb
  | 0xC => buildC w (gap w 0 32) fun p ta tb => .shl p ta tb
  | 0xD => buildC w (gap w 0 32) fun p ta tb => .shr p ta tb
  | 0xE => buildC w (gap w 0 32) fun p ta tb => .sar p ta tb
  | _ => buildC w (gap w 0 32) fun p ta tb => .rol p ta tb

/-- Row 0x2_ of the opcode map (R220). -/
def decodeRow2 (w : Nat) : Except LoadCause Instr :=
  match fld w 56 4 with
  | 0x0 => buildC w (gap w 0 32) fun p ta tb => .ceq p ta tb
  | 0x1 => buildC w (gap w 0 32) fun p ta tb => .cne p ta tb
  | 0x2 => buildC w (gap w 0 32) fun p ta tb => .clt p ta tb
  | 0x3 => buildC w (gap w 0 32) fun p ta tb => .cle p ta tb
  | 0x4 => buildC w (gap w 0 32) fun p ta tb => .cltu p ta tb
  | 0x5 => buildC w (gap w 0 32) fun p ta tb => .cleu p ta tb
  | 0x6 => buildC w (gap w 0 32) fun p ta tb => .mins p ta tb
  | 0x7 => buildC w (gap w 0 32) fun p ta tb => .maxs p ta tb
  | 0x8 => buildC w (gap w 0 32) fun p ta tb => .minu p ta tb
  | 0x9 => buildC w (gap w 0 32) fun p ta tb => .maxu p ta tb
  | 0xA => buildS w (gap w 0 32) fun ta tb => .sel ta tb
  | 0xB => buildC w (gap w 0 32) fun p ta tb => .abs p ta tb
  | 0xC => buildC w (gap w 0 32) fun p ta tb => .neg p ta tb
  | 0xD => buildC w (gap w 0 32) fun p ta tb => .not p ta tb
  | 0xE => buildC w true fun p ta tb => .addi p ta tb (BitVec.ofNat 32 (fld w 0 32))
  | _ => buildC w true fun p ta tb => .muli p ta tb (BitVec.ofNat 32 (fld w 0 32))

/-- Row 0x3_ of the opcode map (R220). -/
def decodeRow3 (w : Nat) : Except LoadCause Instr :=
  match fld w 56 4 with
  | 0x0 => buildC w true fun p ta tb => .movi p ta tb (BitVec.ofNat 32 (fld w 0 32))
  | 0x1 => buildC w true fun p ta tb => .movhi p ta tb (BitVec.ofNat 32 (fld w 0 32))
  | 0x2 => buildC w (gap w 0 32) fun p ta tb => .copy p ta tb
  | 0x3 => buildC w true fun p ta tb => .andi p ta tb (BitVec.ofNat 32 (fld w 0 32))
  | 0x4 => buildC w true fun p ta tb => .ori p ta tb (BitVec.ofNat 32 (fld w 0 32))
  | 0x5 => buildC w true fun p ta tb => .xori p ta tb (BitVec.ofNat 32 (fld w 0 32))
  | 0x6 => buildC w (gap w 6 26) fun p ta tb => .shli p ta tb (BitVec.ofNat 6 (fld w 0 6))
  | 0x7 => buildC w (gap w 6 26) fun p ta tb => .shri p ta tb (BitVec.ofNat 6 (fld w 0 6))
  | 0x8 => buildC w (gap w 6 26) fun p ta tb => .sari p ta tb (BitVec.ofNat 6 (fld w 0 6))
  | 0x9 => buildC w (gap w 0 32) fun p ta tb => .popc p ta tb
  | 0xA => buildC w (gap w 0 32) fun p ta tb => .clz p ta tb
  | 0xB => buildC w (gap w 0 32) fun p ta tb => .ctz p ta tb
  | 0xC => buildC w (gap w 13 19) fun p ta tb => .bfx p ta tb (BitVec.ofNat 6 (fld w 0 6)) (BitVec.ofNat 6 (fld w 6 6)) (BitVec.ofNat 1 (fld w 12 1))
  | 0xD => buildC w (gap w 12 20) fun p ta tb => .bfi p ta tb (BitVec.ofNat 6 (fld w 0 6)) (BitVec.ofNat 6 (fld w 6 6))
  | 0xE => buildC w (gap w 3 5) fun p ta tb => .lea p ta tb (BitVec.ofNat 3 (fld w 0 3)) (BitVec.ofNat 24 (fld w 8 24))
  | _ => buildC w true fun p ta tb => .ceqi p ta tb (BitVec.ofNat 32 (fld w 0 32))

/-- Row 0x4_ of the opcode map (R220). -/
def decodeRow4 (w : Nat) : Except LoadCause Instr :=
  match fld w 56 4 with
  | 0x0 => buildQ w (fsSlot w) (gap w 0 32) fun p q ta tb => .vadd p q ta tb
  | 0x1 => buildQ w (fsSlot w) (gap w 0 32) fun p q ta tb => .vsub p q ta tb
  | 0x2 => buildQ w (fsSlot w) (gap w 0 32) fun p q ta tb => .vmul p q ta tb
  | 0x3 => buildQ w (fsSlot w) (gap w 0 32) fun p q ta tb => .vmad p q ta tb
  | 0x4 => buildQ w (fsSlot w) (gap w 0 32) fun p q ta tb => .vmin p q ta tb
  | 0x5 => buildQ w (fsSlot w) (gap w 0 32) fun p q ta tb => .vmax p q ta tb
  | 0x6 => buildQ w (fsSlot w) (gap w 0 32) fun p q ta tb => .vabs p q ta tb
  | 0x7 => buildQ w (fsSlot w) (gap w 0 32) fun p q ta tb => .vneg p q ta tb
  | 0x8 => buildQ w (fsSlot w) (gap w 0 32) fun p q ta tb => .vand p q ta tb
  | 0x9 => buildQ w (fsSlot w) (gap w 0 32) fun p q ta tb => .vor p q ta tb
  | 0xA => buildQ w (fsSlot w) (gap w 0 32) fun p q ta tb => .vxor p q ta tb
  | 0xB => buildQ w (fsSlot w) (gap w 6 26) fun p q ta tb => .vshl p q ta tb (BitVec.ofNat 6 (fld w 0 6))
  | 0xC => buildQ w (fsSlot w) (gap w 6 26) fun p q ta tb => .vshr p q ta tb (BitVec.ofNat 6 (fld w 0 6))
  | 0xD => buildQ w (fsSlot w) (gap w 6 26) fun p q ta tb => .vsar p q ta tb (BitVec.ofNat 6 (fld w 0 6))
  | 0xE => buildQ w (fsSlot w) (gap w 0 32) fun p q ta tb => .vadds p q ta tb
  | _ => buildQ w (fsSlot w) (gap w 0 32) fun p q ta tb => .vsubs p q ta tb

/-- Row 0x5_ of the opcode map (R220). -/
def decodeRow5 (w : Nat) : Except LoadCause Instr :=
  match fld w 56 4 with
  | 0x0 => buildQ w (fsSlot w) (gap w 0 32) fun p q ta tb => .vfadd p q ta tb
  | 0x1 => buildQ w (fsSlot w) (gap w 0 32) fun p q ta tb => .vfsub p q ta tb
  | 0x2 => buildQ w (fsSlot w) (gap w 0 32) fun p q ta tb => .vfmul p q ta tb
  | 0x3 => buildQ w (fsSlot w) (gap w 0 32) fun p q ta tb => .vfma p q ta tb
  | 0x4 => buildQ w (fsSlot w) (gap w 0 32) fun p q ta tb => .vfms p q ta tb
  | 0x5 => buildQ w (fsSlot w) (gap w 0 32) fun p q ta tb => .vfnma p q ta tb
  | 0x6 => buildQ w (fsSlot w) (gap w 0 32) fun p q ta tb => .vfmin p q ta tb
  | 0x7 => buildQ w (fsSlot w) (gap w 0 32) fun p q ta tb => .vfmax p q ta tb
  | 0x8 => buildQ w (fsSlot w) (gap w 0 32) fun p q ta tb => .vfabs p q ta tb
  | 0x9 => buildQ w (fsSlot w) (gap w 0 32) fun p q ta tb => .vfneg p q ta tb
  | 0xA => buildQ w (fsSlot w) (gap w 3 29) fun p q ta tb => .vfcmp p q ta tb (BitVec.ofNat 3 (fld w 0 3))
  | 0xB => buildQ w (fsSlot w) (gap w 0 32) fun p q ta tb => .vsel p q ta tb
  | 0xC => buildQ w (fsSlot w) (gap w 0 32) fun p q ta tb => .vfrcp p q ta tb
  | 0xD => buildQ w (fsSlot w) (gap w 0 32) fun p q ta tb => .vfrsq p q ta tb
  | 0xE => buildQ w (fsSlot w) (gap w 10 22) fun p q ta tb => .vfcls p q ta tb (BitVec.ofNat 10 (fld w 0 10))
  | _ => buildQ w (fsSlot w) (gap w 0 32) fun p q ta tb => .vfscl p q ta tb

/-- Row 0x6_ of the opcode map (R220). -/
def decodeRow6 (w : Nat) : Except LoadCause Instr :=
  match fld w 56 4 with
  | 0x0 => buildQ w (fsSlot w) (gap w 5 27) fun p q ta tb => .vcvt p q ta tb (BitVec.ofNat 2 (fld w 0 2)) (BitVec.ofNat 3 (fld w 2 3))
  | 0x1 => buildQ w (fsSlot w) (gap w 2 30) fun p q ta tb => .vrint p q ta tb (BitVec.ofNat 2 (fld w 0 2))
  | 0x2 => buildQ w (fsSlot w) (gap w 0 32) fun p q ta tb => .vfexp p q ta tb
  | 0x3 => buildQ w (fsSlot w) (gap w 0 32) fun p q ta tb => .vflog p q ta tb
  | 0x4 => buildQ w (fsSlot w) (gap w 0 32) fun p q ta tb => .vxexp p q ta tb
  | 0x5 => buildQ w (fsSlot w) (gap w 2 30) fun p q ta tb => .vred p q ta tb (BitVec.ofNat 2 (fld w 0 2))
  | 0x6 => buildQ w (fsSlot w) (gap w 2 30) fun p q ta tb => .vscan p q ta tb (BitVec.ofNat 2 (fld w 0 2))
  | 0x7 => buildQ w (fsSlot w) (gap w 0 32) fun p q ta tb => .vshuf p q ta tb
  | 0x8 => buildQ w (fsSlot w) (gap w 0 32) fun p q ta tb => .vsplat p q ta tb
  | 0x9 => buildQ w (fsSlot w) (gap w 4 28) fun p q ta tb => .vextr p q ta tb (BitVec.ofNat 4 (fld w 0 4))
  | 0xA => buildQ w (fsSlot w) (gap w 4 28) fun p q ta tb => .vinsl p q ta tb (BitVec.ofNat 4 (fld w 0 4))
  | 0xB => buildQ w (fsSlot w) (gap w 2 30) fun p q ta tb => .vpack p q ta tb (BitVec.ofNat 1 (fld w 0 1)) (BitVec.ofNat 1 (fld w 1 1))
  | 0xC => buildQ w (fsSlot w) (gap w 1 31) fun p q ta tb => .vunpk p q ta tb (BitVec.ofNat 1 (fld w 0 1))
  | 0xD => buildQ w (fsSlot w) (gap w 14 18) fun p q ta tb => .vqnt p q ta tb (BitVec.ofNat 6 (fld w 0 6)) (BitVec.ofNat 6 (fld w 6 6)) (BitVec.ofNat 2 (fld w 12 2))
  | 0xE => buildQ w (fsSlot w) (gap w 14 18) fun p q ta tb => .vdqnt p q ta tb (BitVec.ofNat 6 (fld w 0 6)) (BitVec.ofNat 6 (fld w 6 6)) (BitVec.ofNat 2 (fld w 12 2))
  | _ => buildQ w (fsSlot w) (gap w 0 32) fun p q ta tb => .vprune p q ta tb

/-- Row 0x7_ of the opcode map (R220). -/
def decodeRow7 (w : Nat) : Except LoadCause Instr :=
  match fld w 56 4 with
  | 0x0 => buildQ w (decodeLoadQual (fld w 52 2)) (gap w 21 5 && gap w 29 3) fun p q ta tb => .lds p q ta tb (BitVec.ofNat 2 (fld w 27 2)) (BitVec.ofNat 1 (fld w 26 1)) (BitVec.ofNat 21 (fld w 0 21))
  | 0x1 => buildQ w (decodeLoadQual (fld w 52 2)) (gap w 21 11) fun p q ta tb => .ldsv p q ta tb (BitVec.ofNat 21 (fld w 0 21))
  | 0x2 => buildQ w (decodeStoreQual (fld w 52 2)) (gap w 21 6 && gap w 29 3) fun p q ta tb => .sts p q ta tb (BitVec.ofNat 2 (fld w 27 2)) (BitVec.ofNat 21 (fld w 0 21))
  | 0x3 => buildQ w (decodeStoreQual (fld w 52 2)) (gap w 21 11) fun p q ta tb => .stsv p q ta tb (BitVec.ofNat 21 (fld w 0 21))
  | 0x4 => buildQ w (decodeLoadQual (fld w 52 2)) (gap w 21 5 && gap w 29 3) fun p q ta tb => .ldsx p q ta tb (BitVec.ofNat 2 (fld w 27 2)) (BitVec.ofNat 1 (fld w 26 1)) (BitVec.ofNat 21 (fld w 0 21))
  | 0x5 => buildQ w (decodeStoreQual (fld w 52 2)) (gap w 21 6 && gap w 29 3) fun p q ta tb => .stsx p q ta tb (BitVec.ofNat 2 (fld w 27 2)) (BitVec.ofNat 21 (fld w 0 21))
  | 0x6 => buildC w (gap w 21 11) fun p ta tb => .feset p ta tb (BitVec.ofNat 21 (fld w 0 21))
  | 0x7 => buildC w (gap w 21 11) fun p ta tb => .feclr p ta tb (BitVec.ofNat 21 (fld w 0 21))
  | 0x8 => buildC w (gap w 21 11) fun p ta tb => .fetst p ta tb (BitVec.ofNat 21 (fld w 0 21))
  | 0x9 => buildC w (gap w 6 26) fun p ta tb => .krd p ta tb (BitVec.ofNat 6 (fld w 0 6))
  | 0xA => buildC w (gap w 6 26) fun p ta tb => .kwr p ta tb (BitVec.ofNat 6 (fld w 0 6))
  | 0xB => buildC w (gap w 10 22) fun p ta tb => .acrd p ta tb (BitVec.ofNat 6 (fld w 0 6)) (BitVec.ofNat 4 (fld w 6 4))
  | 0xC => buildC w (gap w 10 22) fun p ta tb => .acwr p ta tb (BitVec.ofNat 6 (fld w 0 6)) (BitVec.ofNat 4 (fld w 6 4))
  | 0xD => buildC w (gap w 0 32) fun p ta tb => .acclr p ta tb
  | 0xE => buildC w (gap w 16 16) fun p ta tb => .wick p ta tb (BitVec.ofNat 4 (fld w 0 4)) (BitVec.ofNat 6 (fld w 4 6)) (BitVec.ofNat 6 (fld w 10 6))
  | _ => buildC w (gap w 10 22) fun p ta tb => .wadv p ta tb (BitVec.ofNat 4 (fld w 0 4)) (BitVec.ofNat 6 (fld w 4 6))

/-- Row 0x8_ of the opcode map (R220). -/
def decodeRow8 (w : Nat) : Except LoadCause Instr :=
  match fld w 56 4 with
  | 0x0 => buildQ w (some (decodeGlobalQual (fld w 52 2))) (gap w 21 6) fun p q ta tb => .gld p q ta tb (BitVec.ofNat 3 (fld w 29 3)) (BitVec.ofNat 2 (fld w 27 2)) (BitVec.ofNat 21 (fld w 0 21))
  | 0x1 => buildQ w (some (decodeGlobalQual (fld w 52 2))) (gap w 21 8) fun p q ta tb => .gldv p q ta tb (BitVec.ofNat 3 (fld w 29 3)) (BitVec.ofNat 21 (fld w 0 21))
  | 0x2 => buildQ w (some (decodeGlobalQual (fld w 52 2))) (gap w 21 6) fun p q ta tb => .gst p q ta tb (BitVec.ofNat 3 (fld w 29 3)) (BitVec.ofNat 2 (fld w 27 2)) (BitVec.ofNat 21 (fld w 0 21))
  | 0x3 => buildQ w (some (decodeGlobalQual (fld w 52 2))) (gap w 21 8) fun p q ta tb => .gstv p q ta tb (BitVec.ofNat 3 (fld w 29 3)) (BitVec.ofNat 21 (fld w 0 21))
  | 0x4 => buildQ w (some (decodeGlobalQual (fld w 52 2))) (gap w 21 6) fun p q ta tb => .aadd p q ta tb (BitVec.ofNat 3 (fld w 29 3)) (BitVec.ofNat 2 (fld w 27 2)) (BitVec.ofNat 21 (fld w 0 21))
  | 0x5 => buildQ w (some (decodeGlobalQual (fld w 52 2))) (gap w 21 6) fun p q ta tb => .aand p q ta tb (BitVec.ofNat 3 (fld w 29 3)) (BitVec.ofNat 2 (fld w 27 2)) (BitVec.ofNat 21 (fld w 0 21))
  | 0x6 => buildQ w (some (decodeGlobalQual (fld w 52 2))) (gap w 21 6) fun p q ta tb => .aor p q ta tb (BitVec.ofNat 3 (fld w 29 3)) (BitVec.ofNat 2 (fld w 27 2)) (BitVec.ofNat 21 (fld w 0 21))
  | 0x7 => buildQ w (some (decodeGlobalQual (fld w 52 2))) (gap w 21 6) fun p q ta tb => .axor p q ta tb (BitVec.ofNat 3 (fld w 29 3)) (BitVec.ofNat 2 (fld w 27 2)) (BitVec.ofNat 21 (fld w 0 21))
  | 0x8 => buildQ w (some (decodeGlobalQual (fld w 52 2))) (gap w 21 6) fun p q ta tb => .amin p q ta tb (BitVec.ofNat 3 (fld w 29 3)) (BitVec.ofNat 2 (fld w 27 2)) (BitVec.ofNat 21 (fld w 0 21))
  | 0x9 => buildQ w (some (decodeGlobalQual (fld w 52 2))) (gap w 21 6) fun p q ta tb => .amax p q ta tb (BitVec.ofNat 3 (fld w 29 3)) (BitVec.ofNat 2 (fld w 27 2)) (BitVec.ofNat 21 (fld w 0 21))
  | 0xA => buildQ w (some (decodeGlobalQual (fld w 52 2))) (gap w 21 6) fun p q ta tb => .aminu p q ta tb (BitVec.ofNat 3 (fld w 29 3)) (BitVec.ofNat 2 (fld w 27 2)) (BitVec.ofNat 21 (fld w 0 21))
  | 0xB => buildQ w (some (decodeGlobalQual (fld w 52 2))) (gap w 21 6) fun p q ta tb => .amaxu p q ta tb (BitVec.ofNat 3 (fld w 29 3)) (BitVec.ofNat 2 (fld w 27 2)) (BitVec.ofNat 21 (fld w 0 21))
  | 0xC => buildQ w (some (decodeGlobalQual (fld w 52 2))) (gap w 21 6) fun p q ta tb => .axch p q ta tb (BitVec.ofNat 3 (fld w 29 3)) (BitVec.ofNat 2 (fld w 27 2)) (BitVec.ofNat 21 (fld w 0 21))
  | 0xD => buildQ w (some (decodeGlobalQual (fld w 52 2))) true fun p q ta tb => .acas p q ta tb (BitVec.ofNat 3 (fld w 29 3)) (BitVec.ofNat 2 (fld w 27 2)) (BitVec.ofNat 6 (fld w 21 6)) (BitVec.ofNat 21 (fld w 0 21))
  | 0xE => buildQ w (some (decodeGlobalQual (fld w 52 2))) (gap w 21 6 && fld w 27 2 == 2) fun p q ta tb => .afadd p q ta tb (BitVec.ofNat 3 (fld w 29 3)) (BitVec.ofNat 21 (fld w 0 21))
  | _ => buildQ w (some (decodeGlobalQual (fld w 52 2))) (gap w 21 6 && fld w 27 2 == 3) fun p q ta tb => .atas p q ta tb (BitVec.ofNat 3 (fld w 29 3)) (BitVec.ofNat 21 (fld w 0 21))

/-- Row 0x9_ of the opcode map (R220). -/
def decodeRow9 (w : Nat) : Except LoadCause Instr :=
  match fld w 56 4 with
  | 0x0 => buildC w (gap w 0 29) fun p ta tb => .fence p ta tb (BitVec.ofNat 3 (fld w 29 3))
  | 0x1 => buildC w (gap w 0 32) fun p ta tb => .ordj p ta tb
  | 0x2 => buildC w (gap w 6 26) fun p ta tb => .bell p ta tb (BitVec.ofNat 6 (fld w 0 6))
  | 0x3 => buildC w (gap w 6 26) fun p ta tb => .bella p ta tb (BitVec.ofNat 6 (fld w 0 6))
  | 0x4 => buildC w (gap w 6 26) fun p ta tb => .abstn p ta tb (BitVec.ofNat 6 (fld w 0 6))
  | 0x5 => buildC w (gap w 6 26) fun p ta tb => .qpush p ta tb (BitVec.ofNat 6 (fld w 0 6))
  | 0x6 => buildC w (gap w 6 26) fun p ta tb => .qpop p ta tb (BitVec.ofNat 6 (fld w 0 6))
  | 0x7 => buildC w (gap w 0 32) fun p ta tb => .qlen p ta tb
  | 0x8 => buildC w (gap w 6 26) fun p ta tb => .lnch p ta tb (BitVec.ofNat 6 (fld w 0 6))
  | 0x9 => buildC w (gap w 16 16) fun p ta tb => .sigc p ta tb (BitVec.ofNat 16 (fld w 0 16))
  | 0xA => buildC w (gap w 0 32) fun p ta tb => .waitc p ta tb
  | 0xB => buildC w (gap w 21 11) fun p ta tb => .bmwait p ta tb (BitVec.ofNat 21 (fld w 0 21))
  | _ => .error .opcodeReserved

/-- Row 0xA_ of the opcode map (R220). -/
def decodeRowA (w : Nat) : Except LoadCause Instr :=
  match fld w 56 4 with
  | 0x0 => buildC w (gap w 24 8) fun p ta tb => .lgen p ta tb (BitVec.ofNat 20 (fld w 0 20)) (BitVec.ofNat 3 (fld w 20 3)) (BitVec.ofNat 1 (fld w 23 1))
  | 0x1 => buildC w (gap w 28 4) fun p ta tb => .lgen2 p ta tb (BitVec.ofNat 12 (fld w 0 12)) (BitVec.ofNat 12 (fld w 12 12)) (BitVec.ofNat 3 (fld w 24 3)) (BitVec.ofNat 1 (fld w 27 1))
  | 0x2 => buildC w (gap w 5 27) fun p ta tb => .spscn p ta tb (BitVec.ofNat 1 (fld w 0 1)) (BitVec.ofNat 3 (fld w 1 3)) (BitVec.ofNat 1 (fld w 4 1))
  | 0x3 => buildC w (gap w 24 8) fun p ta tb => .rptc p ta tb (BitVec.ofNat 12 (fld w 0 12)) (BitVec.ofNat 12 (fld w 12 12))
  | 0x4 => buildC w (gap w 24 8) fun p ta tb => .rpte p ta tb (BitVec.ofNat 12 (fld w 0 12)) (BitVec.ofNat 12 (fld w 12 12))
  | 0x5 => buildC w (gap w 4 28) fun p ta tb => .emstp p ta tb (BitVec.ofNat 3 (fld w 0 3)) (BitVec.ofNat 1 (fld w 3 1))
  | 0x6 => buildC w (gap w 4 28) fun p ta tb => .tkind p ta tb (BitVec.ofNat 3 (fld w 0 3)) (BitVec.ofNat 1 (fld w 3 1))
  | 0x7 => buildC w (gap w 10 22) fun p ta tb => .itgate p ta tb (BitVec.ofNat 3 (fld w 0 3)) (BitVec.ofNat 4 (fld w 3 4)) (BitVec.ofNat 3 (fld w 7 3))
  | 0x8 => buildC w (gap w 3 29) fun p ta tb => .take p ta tb (BitVec.ofNat 3 (fld w 0 3))
  | 0x9 => buildC w (gap w 7 25) fun p ta tb => .cnttk p ta tb (BitVec.ofNat 3 (fld w 0 3)) (BitVec.ofNat 3 (fld w 3 3)) (BitVec.ofNat 1 (fld w 6 1))
  | _ => .error .opcodeReserved

/-- Row 0xB_ of the opcode map (R220). -/
def decodeRowB (w : Nat) : Except LoadCause Instr :=
  match fld w 56 4 with
  | 0x0 => buildC w (gap w 0 32) fun p ta tb => .seqrd p ta tb
  | 0x1 => buildC w (gap w 0 32) fun p ta tb => .wgtrd p ta tb
  | 0x2 => buildC w (gap w 0 32) fun p ta tb => .wgtwr p ta tb
  | 0x3 => buildC w (gap w 2 30) fun p ta tb => .isgap p ta tb (BitVec.ofNat 2 (fld w 0 2))
  | 0x4 => buildC w (gap w 4 28) fun p ta tb => .gaprd p ta tb (BitVec.ofNat 2 (fld w 0 2)) (BitVec.ofNat 2 (fld w 2 2))
  | 0x5 => buildC w (gap w 0 32) fun p ta tb => .emgap p ta tb
  | 0x6 => buildC w (gap w 0 32) fun p ta tb => .voidr p ta tb
  | 0x7 => buildQ w (fsSlot w) (gap w 14 18) fun p q ta tb => .wacc p q ta tb (BitVec.ofNat 6 (fld w 0 6)) (BitVec.ofNat 6 (fld w 6 6)) (BitVec.ofNat 1 (fld w 12 1)) (BitVec.ofNat 1 (fld w 13 1))
  | 0x8 => buildQ w (fsSlot w) (gap w 12 20) fun p q ta tb => .wincl p q ta tb (BitVec.ofNat 5 (fld w 0 5)) (BitVec.ofNat 6 (fld w 5 6)) (BitVec.ofNat 1 (fld w 11 1))
  | 0x9 => buildQ w (fsSlot w) (gap w 13 19) fun p q ta tb => .joink p q ta tb (BitVec.ofNat 3 (fld w 0 3)) (BitVec.ofNat 3 (fld w 3 3)) (BitVec.ofNat 6 (fld w 6 6)) (BitVec.ofNat 1 (fld w 12 1))
  | _ => .error .opcodeReserved

/-- Row 0xC_ of the opcode map (R220). -/
def decodeRowC (w : Nat) : Except LoadCause Instr :=
  match fld w 56 4 with
  | 0x0 => buildQ w (fsSlot w) (gap w 8 24) fun p q ta tb => .wld p q ta tb (BitVec.ofNat 5 (fld w 0 5)) (BitVec.ofNat 3 (fld w 5 3))
  | 0x1 => buildQ w (fsSlot w) (gap w 5 27) fun p q ta tb => .wlds p q ta tb (BitVec.ofNat 5 (fld w 0 5))
  | 0x2 => buildC w (gap w 5 27) fun p ta tb => .wsel p ta tb (BitVec.ofNat 5 (fld w 0 5))
  | 0x3 => buildQ w (fsSlot w) (gap w 22 10) fun p q ta tb => .arow p q ta tb (BitVec.ofNat 6 (fld w 0 6)) (BitVec.ofNat 16 (fld w 6 16))
  | 0x4 => buildC w (gap w 7 25) fun p ta tb => .adrn p ta tb (BitVec.ofNat 6 (fld w 0 6)) (BitVec.ofNat 1 (fld w 6 1))
  | 0x5 => buildC w (gap w 12 20) fun p ta tb => .azero p ta tb (BitVec.ofNat 6 (fld w 0 6)) (BitVec.ofNat 6 (fld w 6 6))
  | _ => .error .opcodeReserved

/-- Row 0xD_ of the opcode map (R220). -/
def decodeRowD (w : Nat) : Except LoadCause Instr :=
  match fld w 56 4 with
  | 0x0 => buildQ w (fsSlot w) (gap w 2 30) fun p q ta tb => .xfwd p q ta tb (BitVec.ofNat 2 (fld w 0 2))
  | 0x1 => buildQ w (fsSlot w) (gap w 2 30) fun p q ta tb => .xinv p q ta tb (BitVec.ofNat 2 (fld w 0 2))
  | 0x2 => buildQ w (fsSlot w) (gap w 0 32) fun p q ta tb => .cmac p q ta tb
  | 0x3 => buildQ w (fsSlot w) (gap w 0 32) fun p q ta tb => .cmul p q ta tb
  | 0x4 => buildQ w (fsSlot w) (gap w 0 32) fun p q ta tb => .cconj p q ta tb
  | 0x5 => buildC w (gap w 1 31) fun p ta tb => .dtag p ta tb (BitVec.ofNat 1 (fld w 0 1))
  | 0x6 => buildC w (gap w 0 32) fun p ta tb => .xreq p ta tb
  | 0x7 => buildC w (gap w 7 25) fun p ta tb => .drvk p ta tb (BitVec.ofNat 1 (fld w 0 1)) (BitVec.ofNat 6 (fld w 1 6))
  | 0x8 => buildC w (gap w 0 32) fun p ta tb => .gtatt p ta tb
  | 0x9 => buildC w (gap w 0 32) fun p ta tb => .gtdet p ta tb
  | 0xA => buildC w (gap w 0 32) fun p ta tb => .gtfld p ta tb
  | _ => .error .opcodeReserved

/-- Row 0xE_ of the opcode map (R220). -/
def decodeRowE (w : Nat) : Except LoadCause Instr :=
  match fld w 56 4 with
  | 0x0 => buildN w (gap w 16 16) fun p => .trap p (BitVec.ofNat 16 (fld w 0 16))
  | 0x1 => buildN w (gap w 16 16) fun p => .brk p (BitVec.ofNat 16 (fld w 0 16))
  | 0x2 => buildC w (gap w 12 20) fun p ta tb => .ctlrd p ta tb (BitVec.ofNat 12 (fld w 0 12))
  | 0x3 => buildC w (gap w 12 20) fun p ta tb => .ctlwr p ta tb (BitVec.ofNat 12 (fld w 0 12))
  | 0x4 => buildC w (gap w 8 24) fun p ta tb => .cntrd p ta tb (BitVec.ofNat 3 (fld w 0 3)) (BitVec.ofNat 3 (fld w 3 3)) (BitVec.ofNat 1 (fld w 6 1)) (BitVec.ofNat 1 (fld w 7 1))
  | 0x5 => buildC w (gap w 0 32) fun p ta tb => .rand p ta tb
  | 0x6 => buildC w (gap w 0 32) fun p ta tb => .seed p ta tb
  | 0x7 => buildC w true fun p ta tb => .timer p ta tb (BitVec.ofNat 32 (fld w 0 32))
  | 0x8 => buildC w (gap w 8 24) fun p ta tb => .fwsvc p ta tb (BitVec.ofNat 8 (fld w 0 8))
  | _ => .error .opcodeReserved

/-- Row 0xF_ of the opcode map (R220). -/
def decodeRowF (_ : Nat) : Except LoadCause Instr := .error .opcodeReserved

/-- The instruction of a 64-bit instruction word (R195, R220), or the cause for which the loader refuses it. -/
def decodeTileNat (w : Nat) : Except LoadCause Instr :=
  match fld w 60 4 with
  | 0x0 => decodeRow0 w
  | 0x1 => decodeRow1 w
  | 0x2 => decodeRow2 w
  | 0x3 => decodeRow3 w
  | 0x4 => decodeRow4 w
  | 0x5 => decodeRow5 w
  | 0x6 => decodeRow6 w
  | 0x7 => decodeRow7 w
  | 0x8 => decodeRow8 w
  | 0x9 => decodeRow9 w
  | 0xA => decodeRowA w
  | 0xB => decodeRowB w
  | 0xC => decodeRowC w
  | 0xD => decodeRowD w
  | 0xE => decodeRowE w
  | _ => decodeRowF w

/-- The instruction that eight little-endian bytes of an instruction store hold (R195). -/
def decodeTileBytes (bs : List Byte) : Except LoadCause Instr := decodeTileNat (leNat bs)

/-- The checks of a drove-list command after its fields are read (R339, R352, R403). -/
def checkedD (gaps : Bool) (i : Instr) : Except LoadCause Instr :=
  if !gaps || !WellFormed.immOk i then .error .immField
  else if !WellFormed.formatOk i then .error .formatUse
  else .ok i

/-- The drove-list command of a 128-bit command word (R219, R339).
(DEDUCED, log 53.) -/
def decodeDroveNat (w : Nat) : Except LoadCause Instr :=
  match fld w 120 8 with
  | 0x00 => checkedD (gap w 0 120) (.dnop)
  | 0x01 => checkedD (gap w 0 120) (.dhalt)
  | 0x02 => checkedD (gap w 64 52) (.dset (BitVec.ofNat 4 (fld w 116 4)) (BitVec.ofNat 64 (fld w 0 64)))
  | 0x03 => if fld w 64 1 = 1 then checkedD (gap w 65 47) (.dadd (BitVec.ofNat 4 (fld w 116 4)) (BitVec.ofNat 4 (fld w 112 4)) (.imm (BitVec.ofNat 64 (fld w 0 64))))
      else checkedD (gap w 0 64 && gap w 65 43) (.dadd (BitVec.ofNat 4 (fld w 116 4)) (BitVec.ofNat 4 (fld w 112 4)) (.reg (BitVec.ofNat 4 (fld w 108 4))))
  | 0x04 => checkedD (gap w 0 112) (.dmov (BitVec.ofNat 4 (fld w 116 4)) (BitVec.ofNat 4 (fld w 112 4)))
  | 0x05 => if fld w 80 1 = 1 then checkedD (gap w 81 35) (.dloop (BitVec.ofNat 4 (fld w 116 4)) (.imm (BitVec.ofNat 64 (fld w 0 64))) (BitVec.ofNat 16 (fld w 64 16)))
      else checkedD (gap w 0 64 && gap w 81 31) (.dloop (BitVec.ofNat 4 (fld w 116 4)) (.reg (BitVec.ofNat 4 (fld w 112 4))) (BitVec.ofNat 16 (fld w 64 16)))
  | 0x06 => checkedD (gap w 0 64 && gap w 80 36) (.dnext (BitVec.ofNat 4 (fld w 116 4)) (BitVec.ofNat 16 (fld w 64 16)))
  | 0x07 => checkedD (gap w 0 64 && gap w 80 40) (.djmp (BitVec.ofNat 16 (fld w 64 16)))
  | 0x08 => checkedD (gap w 0 64 && gap w 80 32 && gap w 116 4) (.djz (BitVec.ofNat 4 (fld w 112 4)) (BitVec.ofNat 16 (fld w 64 16)))
  | 0x09 => checkedD (gap w 83 23 && gap w 108 12) (.dpat (BitVec.ofNat 2 (fld w 106 2)) (BitVec.ofNat 2 (fld w 64 2)) (BitVec.ofNat 1 (fld w 66 1)) (BitVec.ofNat 16 (fld w 67 16)) (BitVec.ofNat 32 (fld w 0 32)) (BitVec.ofNat 16 (fld w 32 16)) (BitVec.ofNat 16 (fld w 48 16)))
  | 0x0A => checkedD (gap w 71 35 && gap w 108 4) (.dpush (BitVec.ofNat 2 (fld w 106 2)) (BitVec.ofNat 4 (fld w 112 4)) (BitVec.ofNat 4 (fld w 116 4)) (BitVec.ofNat 4 (fld w 64 4)) (BitVec.ofNat 1 (fld w 68 1)) (BitVec.ofNat 1 (fld w 69 1)) (BitVec.ofNat 1 (fld w 70 1)) (BitVec.ofNat 64 (fld w 0 64)))
  | 0x0B => checkedD (gap w 68 1 && gap w 70 36 && gap w 108 4) (.dpull (BitVec.ofNat 2 (fld w 106 2)) (BitVec.ofNat 4 (fld w 112 4)) (BitVec.ofNat 4 (fld w 116 4)) (BitVec.ofNat 4 (fld w 64 4)) (BitVec.ofNat 1 (fld w 69 1)) (BitVec.ofNat 64 (fld w 0 64)))
  | 0x0C => checkedD (gap w 64 5 && gap w 71 35 && gap w 108 4) (.dgtld (BitVec.ofNat 2 (fld w 106 2)) (BitVec.ofNat 4 (fld w 112 4)) (BitVec.ofNat 4 (fld w 116 4)) (BitVec.ofNat 1 (fld w 69 1)) (BitVec.ofNat 1 (fld w 70 1)) (BitVec.ofNat 64 (fld w 0 64)))
  | 0x0D => checkedD (gap w 68 1 && gap w 71 35) (.dgath (BitVec.ofNat 2 (fld w 106 2)) (BitVec.ofNat 4 (fld w 112 4)) (BitVec.ofNat 4 (fld w 108 4)) (BitVec.ofNat 4 (fld w 116 4)) (BitVec.ofNat 4 (fld w 64 4)) (BitVec.ofNat 1 (fld w 69 1)) (BitVec.ofNat 1 (fld w 70 1)) (BitVec.ofNat 64 (fld w 0 64)))
  | 0x0E => checkedD (gap w 0 64 && gap w 82 38) (.dwick (BitVec.ofNat 13 (fld w 64 13)) (BitVec.ofNat 4 (fld w 77 4)) (BitVec.ofNat 1 (fld w 81 1)))
  | 0x0F => checkedD (gap w 16 48 && gap w 76 44) (.dsig (BitVec.ofNat 12 (fld w 64 12)) (BitVec.ofNat 16 (fld w 0 16)))
  | 0x10 => if fld w 76 1 = 1 then checkedD (gap w 77 43) (.dwaitc (BitVec.ofNat 12 (fld w 64 12)) (.imm (BitVec.ofNat 64 (fld w 0 64))))
      else checkedD (gap w 0 64 && gap w 77 35 && gap w 116 4) (.dwaitc (BitVec.ofNat 12 (fld w 64 12)) (.reg (BitVec.ofNat 4 (fld w 112 4))))
  | 0x11 => checkedD (gap w 0 64 && gap w 67 53) (.dfence (BitVec.ofNat 3 (fld w 64 3)))
  | 0x12 => checkedD (gap w 0 108 && gap w 116 4) (.dfold (BitVec.ofNat 4 (fld w 112 4)) (BitVec.ofNat 4 (fld w 108 4)))
  | 0x13 => checkedD (gap w 68 38 && gap w 108 4) (.dcopy (BitVec.ofNat 2 (fld w 106 2)) (BitVec.ofNat 4 (fld w 112 4)) (BitVec.ofNat 4 (fld w 116 4)) (BitVec.ofNat 4 (fld w 64 4)) (BitVec.ofNat 64 (fld w 0 64)))
  | 0x14 => checkedD (gap w 0 64 && gap w 68 38 && gap w 108 4 && gap w 116 4) (.dpref (BitVec.ofNat 2 (fld w 106 2)) (BitVec.ofNat 4 (fld w 112 4)) (BitVec.ofNat 4 (fld w 64 4)))
  | 0x15 => checkedD (gap w 0 64 && gap w 77 43) (.dconv (BitVec.ofNat 4 (fld w 64 4)) (BitVec.ofNat 4 (fld w 68 4)) (BitVec.ofNat 3 (fld w 72 3)) (BitVec.ofNat 1 (fld w 75 1)) (BitVec.ofNat 1 (fld w 76 1)))
  | _ => .error .immField

/-- The command of a drove list stored as sixteen little-endian bytes (R219). -/
def decodeDroveBytes (bs : List Byte) : Except LoadCause Instr := decodeDroveNat (leNat bs)

/-- Eight 64-bit words of a 64-byte entry, least significant first. -/
def Rec8.ofNat (w : Nat) : Rec8 :=
  ⟨BitVec.ofNat 64 (fld w 0 64), BitVec.ofNat 64 (fld w 64 64), BitVec.ofNat 64 (fld w 128 64), BitVec.ofNat 64 (fld w 192 64),
    BitVec.ofNat 64 (fld w 256 64), BitVec.ofNat 64 (fld w 320 64), BitVec.ofNat 64 (fld w 384 64), BitVec.ofNat 64 (fld w 448 64)⟩

/-- The host command of a command-ring entry (R369, R371); a CODE outside the command set names no command. -/
def decodeCommand (e : Rec8) : Option Instr :=
  match e.w0.toNat % 256 with
  | 0x01 => some .paddockCreate
  | 0x02 => some .paddockDestroy
  | 0x03 => some .chargeLoad
  | 0x04 => some .queueCreate
  | 0x05 => if e.w1.toNat / 2 ^ 8 % 2 = 0 then some .queueTeardownDrain else some .queueTeardownAbort
  | 0x06 => some .launch
  | 0x07 => some .map
  | 0x08 => some .unmap
  | 0x09 => some .faultRead
  | 0x0A => if e.w3.toNat / 2 ^ 0 % 2 = 0 then some .faultResume else some .faultRetire
  | 0x0B => some .handleCreate
  | 0x0C => some .glazeAttach
  | 0x0D => some .glazeDetach
  | 0x0E => some .fold
  | 0x0F => some .snapshot
  | 0x10 => some .setTolerance
  | 0x11 => some .setTier
  | 0x12 => some .powerReport
  | 0x13 => some .linkHealth
  | 0x14 => some .attest
  | 0x15 => some .fwPatch
  | 0x16 => if e.w1.toNat / 2 ^ 0 % 2 = 0 then some .resetPaddock else some .resetPackage
  | 0x17 => some .counterSet
  | 0x18 => some .counterRead
  | 0x19 => some .powerConfig
  | 0x1A => some .snapshotRestore
  | _ => none

/-- The command of a 64-byte entry as bytes (R369). -/
def decodeCommandBytes (bs : List Byte) : Option Instr := decodeCommand (Rec8.ofNat (leNat bs))

/-- The instruction that the decoder reads from `nbits` bits numbered as the opcode table numbers them: a tile
instruction in up to 64 bits, a drove-list command in up to 128, a command entry above. Events have no encoding.
(DESIGN CHOICE, log 21, 106.) -/
def decodeTableWord (nbits w : Nat) : Option Instr :=
  if nbits ≤ 64 then (decodeTileBytes (leBytes 8 (w % 2 ^ nbits))).toOption
  else if nbits ≤ 128 then (decodeDroveBytes (leBytes 16 (w % 2 ^ nbits))).toOption
  else decodeCommandBytes (leBytes 64 (w % 2 ^ nbits))

/-! The encoder. -/

/-- PM of a predicate mode (R196). -/
def Pred.code : Pred → Nat
  | .always => 0
  | .ifNonzero => 1
  | .ifZero => 2

/-- The code of a position (R197). -/
def Pos.code : Pos → Nat
  | .a => 0
  | .b => 1
  | .c => 2
  | .p => 3

/-- The 10-bit code of a target (R197). -/
def Target.code : Target → Nat
  | .slot n pos => n.toNat * 4 + pos.code
  | .null => 0x200
  | .port p v => 0x240 + p.toNat * 8 + v.toNat
  | .keep n => 0x280 + n.toNat
  | .signal n => 0x2C0 + n.toNat

/-- FS of a load qualifier (R198). -/
def LoadQual.code : LoadQual → Nat
  | .plain => 0
  | .waitF => 1
  | .waitC => 2

/-- FS of a store qualifier (R198). -/
def StoreQual.code : StoreQual → Nat
  | .setFull => 0
  | .waitE => 1
  | .noFe => 2

/-- FS of a global qualifier (R198). -/
def GlobalQual.code : GlobalQual → Nat
  | .plain => 0
  | .acq => 1
  | .rel => 2
  | .acqRel => 3

/-- An instruction word from its six fields (R195). -/
def packWord (op pm fs tga tgb imm : Nat) : Nat :=
  op * 2 ^ 56 + pm * 2 ^ 54 + fs * 2 ^ 52 + tga * 2 ^ 42 + tgb * 2 ^ 32 + imm

/-- The word of a tile instruction (R195 to R199, R220); none for anything else. -/
def encodeTile : Instr → Option Nat
  | .nop p => some (packWord 0x00 p.code 0 0x200 0x200 (0))
  | .exit p block => some (packWord 0x01 p.code 0 0x200 0x200 (block.toNat))
  | .exitx p => some (packWord 0x02 p.code 0 0x200 0x200 (0))
  | .halt p => some (packWord 0x03 p.code 0 0x200 0x200 (0))
  | .yield p block dly => some (packWord 0x04 p.code 0 0x200 0x200 (block.toNat + dly.toNat * 2 ^ 5))
  | .ctxend p => some (packWord 0x05 p.code 0 0x200 0x200 (0))
  | .pset p ta tb v => some (packWord 0x06 p.code 0 ta.code tb.code (v.toNat))
  | .pnot p ta tb => some (packWord 0x07 p.code 0 ta.code tb.code (0))
  | .pand p ta tb => some (packWord 0x08 p.code 0 ta.code tb.code (0))
  | .por p ta tb => some (packWord 0x09 p.code 0 ta.code tb.code (0))
  | .pxor p ta tb => some (packWord 0x0A p.code 0 ta.code tb.code (0))
  | .tstz p ta tb => some (packWord 0x0B p.code 0 ta.code tb.code (0))
  | .tstnz p ta tb => some (packWord 0x0C p.code 0 ta.code tb.code (0))
  | .tstneg p ta tb => some (packWord 0x0D p.code 0 ta.code tb.code (0))
  | .tstbit p ta tb n => some (packWord 0x0E p.code 0 ta.code tb.code (n.toNat))
  | .add p ta tb => some (packWord 0x10 p.code 0 ta.code tb.code (0))
  | .sub p ta tb => some (packWord 0x11 p.code 0 ta.code tb.code (0))
  | .mul p ta tb => some (packWord 0x12 p.code 0 ta.code tb.code (0))
  | .mulhs p ta tb => some (packWord 0x13 p.code 0 ta.code tb.code (0))
  | .mulhu p ta tb => some (packWord 0x14 p.code 0 ta.code tb.code (0))
  | .divs p ta tb => some (packWord 0x15 p.code 0 ta.code tb.code (0))
  | .divu p ta tb => some (packWord 0x16 p.code 0 ta.code tb.code (0))
  | .rems p ta tb => some (packWord 0x17 p.code 0 ta.code tb.code (0))
  | .remu p ta tb => some (packWord 0x18 p.code 0 ta.code tb.code (0))
  | .and p ta tb => some (packWord 0x19 p.code 0 ta.code tb.code (0))
  | .or p ta tb => some (packWord 0x1A p.code 0 ta.code tb.code (0))
  | .xor p ta tb => some (packWord 0x1B p.code 0 ta.code tb.code (0))
  | .shl p ta tb => some (packWord 0x1C p.code 0 ta.code tb.code (0))
  | .shr p ta tb => some (packWord 0x1D p.code 0 ta.code tb.code (0))
  | .sar p ta tb => some (packWord 0x1E p.code 0 ta.code tb.code (0))
  | .rol p ta tb => some (packWord 0x1F p.code 0 ta.code tb.code (0))
  | .ceq p ta tb => some (packWord 0x20 p.code 0 ta.code tb.code (0))
  | .cne p ta tb => some (packWord 0x21 p.code 0 ta.code tb.code (0))
  | .clt p ta tb => some (packWord 0x22 p.code 0 ta.code tb.code (0))
  | .cle p ta tb => some (packWord 0x23 p.code 0 ta.code tb.code (0))
  | .cltu p ta tb => some (packWord 0x24 p.code 0 ta.code tb.code (0))
  | .cleu p ta tb => some (packWord 0x25 p.code 0 ta.code tb.code (0))
  | .mins p ta tb => some (packWord 0x26 p.code 0 ta.code tb.code (0))
  | .maxs p ta tb => some (packWord 0x27 p.code 0 ta.code tb.code (0))
  | .minu p ta tb => some (packWord 0x28 p.code 0 ta.code tb.code (0))
  | .maxu p ta tb => some (packWord 0x29 p.code 0 ta.code tb.code (0))
  | .sel ta tb => some (packWord 0x2A 0 0 ta.code tb.code (0))
  | .abs p ta tb => some (packWord 0x2B p.code 0 ta.code tb.code (0))
  | .neg p ta tb => some (packWord 0x2C p.code 0 ta.code tb.code (0))
  | .not p ta tb => some (packWord 0x2D p.code 0 ta.code tb.code (0))
  | .addi p ta tb imm => some (packWord 0x2E p.code 0 ta.code tb.code (imm.toNat))
  | .muli p ta tb imm => some (packWord 0x2F p.code 0 ta.code tb.code (imm.toNat))
  | .movi p ta tb imm => some (packWord 0x30 p.code 0 ta.code tb.code (imm.toNat))
  | .movhi p ta tb imm => some (packWord 0x31 p.code 0 ta.code tb.code (imm.toNat))
  | .copy p ta tb => some (packWord 0x32 p.code 0 ta.code tb.code (0))
  | .andi p ta tb imm => some (packWord 0x33 p.code 0 ta.code tb.code (imm.toNat))
  | .ori p ta tb imm => some (packWord 0x34 p.code 0 ta.code tb.code (imm.toNat))
  | .xori p ta tb imm => some (packWord 0x35 p.code 0 ta.code tb.code (imm.toNat))
  | .shli p ta tb sh => some (packWord 0x36 p.code 0 ta.code tb.code (sh.toNat))
  | .shri p ta tb sh => some (packWord 0x37 p.code 0 ta.code tb.code (sh.toNat))
  | .sari p ta tb sh => some (packWord 0x38 p.code 0 ta.code tb.code (sh.toNat))
  | .popc p ta tb => some (packWord 0x39 p.code 0 ta.code tb.code (0))
  | .clz p ta tb => some (packWord 0x3A p.code 0 ta.code tb.code (0))
  | .ctz p ta tb => some (packWord 0x3B p.code 0 ta.code tb.code (0))
  | .bfx p ta tb lo w sx => some (packWord 0x3C p.code 0 ta.code tb.code (lo.toNat + w.toNat * 2 ^ 6 + sx.toNat * 2 ^ 12))
  | .bfi p ta tb lo w => some (packWord 0x3D p.code 0 ta.code tb.code (lo.toNat + w.toNat * 2 ^ 6))
  | .lea p ta tb sh off => some (packWord 0x3E p.code 0 ta.code tb.code (sh.toNat + off.toNat * 2 ^ 8))
  | .ceqi p ta tb imm => some (packWord 0x3F p.code 0 ta.code tb.code (imm.toNat))
  | .vadd p fs ta tb => some (packWord 0x40 p.code fs.toNat ta.code tb.code (0))
  | .vsub p fs ta tb => some (packWord 0x41 p.code fs.toNat ta.code tb.code (0))
  | .vmul p fs ta tb => some (packWord 0x42 p.code fs.toNat ta.code tb.code (0))
  | .vmad p fs ta tb => some (packWord 0x43 p.code fs.toNat ta.code tb.code (0))
  | .vmin p fs ta tb => some (packWord 0x44 p.code fs.toNat ta.code tb.code (0))
  | .vmax p fs ta tb => some (packWord 0x45 p.code fs.toNat ta.code tb.code (0))
  | .vabs p fs ta tb => some (packWord 0x46 p.code fs.toNat ta.code tb.code (0))
  | .vneg p fs ta tb => some (packWord 0x47 p.code fs.toNat ta.code tb.code (0))
  | .vand p fs ta tb => some (packWord 0x48 p.code fs.toNat ta.code tb.code (0))
  | .vor p fs ta tb => some (packWord 0x49 p.code fs.toNat ta.code tb.code (0))
  | .vxor p fs ta tb => some (packWord 0x4A p.code fs.toNat ta.code tb.code (0))
  | .vshl p fs ta tb sh => some (packWord 0x4B p.code fs.toNat ta.code tb.code (sh.toNat))
  | .vshr p fs ta tb sh => some (packWord 0x4C p.code fs.toNat ta.code tb.code (sh.toNat))
  | .vsar p fs ta tb sh => some (packWord 0x4D p.code fs.toNat ta.code tb.code (sh.toNat))
  | .vadds p fs ta tb => some (packWord 0x4E p.code fs.toNat ta.code tb.code (0))
  | .vsubs p fs ta tb => some (packWord 0x4F p.code fs.toNat ta.code tb.code (0))
  | .vfadd p fs ta tb => some (packWord 0x50 p.code fs.toNat ta.code tb.code (0))
  | .vfsub p fs ta tb => some (packWord 0x51 p.code fs.toNat ta.code tb.code (0))
  | .vfmul p fs ta tb => some (packWord 0x52 p.code fs.toNat ta.code tb.code (0))
  | .vfma p fs ta tb => some (packWord 0x53 p.code fs.toNat ta.code tb.code (0))
  | .vfms p fs ta tb => some (packWord 0x54 p.code fs.toNat ta.code tb.code (0))
  | .vfnma p fs ta tb => some (packWord 0x55 p.code fs.toNat ta.code tb.code (0))
  | .vfmin p fs ta tb => some (packWord 0x56 p.code fs.toNat ta.code tb.code (0))
  | .vfmax p fs ta tb => some (packWord 0x57 p.code fs.toNat ta.code tb.code (0))
  | .vfabs p fs ta tb => some (packWord 0x58 p.code fs.toNat ta.code tb.code (0))
  | .vfneg p fs ta tb => some (packWord 0x59 p.code fs.toNat ta.code tb.code (0))
  | .vfcmp p fs ta tb cc => some (packWord 0x5A p.code fs.toNat ta.code tb.code (cc.toNat))
  | .vsel p fs ta tb => some (packWord 0x5B p.code fs.toNat ta.code tb.code (0))
  | .vfrcp p fs ta tb => some (packWord 0x5C p.code fs.toNat ta.code tb.code (0))
  | .vfrsq p fs ta tb => some (packWord 0x5D p.code fs.toNat ta.code tb.code (0))
  | .vfcls p fs ta tb cls => some (packWord 0x5E p.code fs.toNat ta.code tb.code (cls.toNat))
  | .vfscl p fs ta tb => some (packWord 0x5F p.code fs.toNat ta.code tb.code (0))
  | .vcvt p fs ta tb c part => some (packWord 0x60 p.code fs.toNat ta.code tb.code (c.toNat + part.toNat * 2 ^ 2))
  | .vrint p fs ta tb c => some (packWord 0x61 p.code fs.toNat ta.code tb.code (c.toNat))
  | .vfexp p fs ta tb => some (packWord 0x62 p.code fs.toNat ta.code tb.code (0))
  | .vflog p fs ta tb => some (packWord 0x63 p.code fs.toNat ta.code tb.code (0))
  | .vxexp p fs ta tb => some (packWord 0x64 p.code fs.toNat ta.code tb.code (0))
  | .vred p fs ta tb op => some (packWord 0x65 p.code fs.toNat ta.code tb.code (op.toNat))
  | .vscan p fs ta tb op => some (packWord 0x66 p.code fs.toNat ta.code tb.code (op.toNat))
  | .vshuf p fs ta tb => some (packWord 0x67 p.code fs.toNat ta.code tb.code (0))
  | .vsplat p fs ta tb => some (packWord 0x68 p.code fs.toNat ta.code tb.code (0))
  | .vextr p fs ta tb lane => some (packWord 0x69 p.code fs.toNat ta.code tb.code (lane.toNat))
  | .vinsl p fs ta tb lane => some (packWord 0x6A p.code fs.toNat ta.code tb.code (lane.toNat))
  | .vpack p fs ta tb sat uns => some (packWord 0x6B p.code fs.toNat ta.code tb.code (sat.toNat + uns.toNat * 2 ^ 1))
  | .vunpk p fs ta tb hi => some (packWord 0x6C p.code fs.toNat ta.code tb.code (hi.toNat))
  | .vqnt p fs ta tb src dst c => some (packWord 0x6D p.code fs.toNat ta.code tb.code (src.toNat + dst.toNat * 2 ^ 6 + c.toNat * 2 ^ 12))
  | .vdqnt p fs ta tb src dst c => some (packWord 0x6E p.code fs.toNat ta.code tb.code (src.toNat + dst.toNat * 2 ^ 6 + c.toNat * 2 ^ 12))
  | .vprune p fs ta tb => some (packWord 0x6F p.code fs.toNat ta.code tb.code (0))
  | .lds p q ta tb size sx off => some (packWord 0x70 p.code q.code ta.code tb.code (size.toNat * 2 ^ 27 + sx.toNat * 2 ^ 26 + off.toNat))
  | .ldsv p q ta tb off => some (packWord 0x71 p.code q.code ta.code tb.code (off.toNat))
  | .sts p q ta tb size off => some (packWord 0x72 p.code q.code ta.code tb.code (size.toNat * 2 ^ 27 + off.toNat))
  | .stsv p q ta tb off => some (packWord 0x73 p.code q.code ta.code tb.code (off.toNat))
  | .ldsx p q ta tb size sx off => some (packWord 0x74 p.code q.code ta.code tb.code (size.toNat * 2 ^ 27 + sx.toNat * 2 ^ 26 + off.toNat))
  | .stsx p q ta tb size off => some (packWord 0x75 p.code q.code ta.code tb.code (size.toNat * 2 ^ 27 + off.toNat))
  | .feset p ta tb off => some (packWord 0x76 p.code 0 ta.code tb.code (off.toNat))
  | .feclr p ta tb off => some (packWord 0x77 p.code 0 ta.code tb.code (off.toNat))
  | .fetst p ta tb off => some (packWord 0x78 p.code 0 ta.code tb.code (off.toNat))
  | .krd p ta tb k => some (packWord 0x79 p.code 0 ta.code tb.code (k.toNat))
  | .kwr p ta tb k => some (packWord 0x7A p.code 0 ta.code tb.code (k.toNat))
  | .acrd p ta tb row qr => some (packWord 0x7B p.code 0 ta.code tb.code (row.toNat + qr.toNat * 2 ^ 6))
  | .acwr p ta tb row qr => some (packWord 0x7C p.code 0 ta.code tb.code (row.toNat + qr.toNat * 2 ^ 6))
  | .acclr p ta tb => some (packWord 0x7D p.code 0 ta.code tb.code (0))
  | .wick p ta tb w first n => some (packWord 0x7E p.code 0 ta.code tb.code (w.toNat + first.toNat * 2 ^ 4 + n.toNat * 2 ^ 10))
  | .wadv p ta tb w n => some (packWord 0x7F p.code 0 ta.code tb.code (w.toNat + n.toNat * 2 ^ 4))
  | .gld p q ta tb scope size off => some (packWord 0x80 p.code q.code ta.code tb.code (scope.toNat * 2 ^ 29 + size.toNat * 2 ^ 27 + off.toNat))
  | .gldv p q ta tb scope off => some (packWord 0x81 p.code q.code ta.code tb.code (scope.toNat * 2 ^ 29 + off.toNat))
  | .gst p q ta tb scope size off => some (packWord 0x82 p.code q.code ta.code tb.code (scope.toNat * 2 ^ 29 + size.toNat * 2 ^ 27 + off.toNat))
  | .gstv p q ta tb scope off => some (packWord 0x83 p.code q.code ta.code tb.code (scope.toNat * 2 ^ 29 + off.toNat))
  | .aadd p q ta tb scope size off => some (packWord 0x84 p.code q.code ta.code tb.code (scope.toNat * 2 ^ 29 + size.toNat * 2 ^ 27 + off.toNat))
  | .aand p q ta tb scope size off => some (packWord 0x85 p.code q.code ta.code tb.code (scope.toNat * 2 ^ 29 + size.toNat * 2 ^ 27 + off.toNat))
  | .aor p q ta tb scope size off => some (packWord 0x86 p.code q.code ta.code tb.code (scope.toNat * 2 ^ 29 + size.toNat * 2 ^ 27 + off.toNat))
  | .axor p q ta tb scope size off => some (packWord 0x87 p.code q.code ta.code tb.code (scope.toNat * 2 ^ 29 + size.toNat * 2 ^ 27 + off.toNat))
  | .amin p q ta tb scope size off => some (packWord 0x88 p.code q.code ta.code tb.code (scope.toNat * 2 ^ 29 + size.toNat * 2 ^ 27 + off.toNat))
  | .amax p q ta tb scope size off => some (packWord 0x89 p.code q.code ta.code tb.code (scope.toNat * 2 ^ 29 + size.toNat * 2 ^ 27 + off.toNat))
  | .aminu p q ta tb scope size off => some (packWord 0x8A p.code q.code ta.code tb.code (scope.toNat * 2 ^ 29 + size.toNat * 2 ^ 27 + off.toNat))
  | .amaxu p q ta tb scope size off => some (packWord 0x8B p.code q.code ta.code tb.code (scope.toNat * 2 ^ 29 + size.toNat * 2 ^ 27 + off.toNat))
  | .axch p q ta tb scope size off => some (packWord 0x8C p.code q.code ta.code tb.code (scope.toNat * 2 ^ 29 + size.toNat * 2 ^ 27 + off.toNat))
  | .acas p q ta tb scope size keep off => some (packWord 0x8D p.code q.code ta.code tb.code (scope.toNat * 2 ^ 29 + size.toNat * 2 ^ 27 + keep.toNat * 2 ^ 21 + off.toNat))
  | .afadd p q ta tb scope off => some (packWord 0x8E p.code q.code ta.code tb.code (scope.toNat * 2 ^ 29 + off.toNat + 2 * 2 ^ 27))
  | .atas p q ta tb scope off => some (packWord 0x8F p.code q.code ta.code tb.code (scope.toNat * 2 ^ 29 + off.toNat + 3 * 2 ^ 27))
  | .fence p ta tb scope => some (packWord 0x90 p.code 0 ta.code tb.code (scope.toNat * 2 ^ 29))
  | .ordj p ta tb => some (packWord 0x91 p.code 0 ta.code tb.code (0))
  | .bell p ta tb bell => some (packWord 0x92 p.code 0 ta.code tb.code (bell.toNat))
  | .bella p ta tb bell => some (packWord 0x93 p.code 0 ta.code tb.code (bell.toNat))
  | .abstn p ta tb bell => some (packWord 0x94 p.code 0 ta.code tb.code (bell.toNat))
  | .qpush p ta tb k => some (packWord 0x95 p.code 0 ta.code tb.code (k.toNat))
  | .qpop p ta tb k => some (packWord 0x96 p.code 0 ta.code tb.code (k.toNat))
  | .qlen p ta tb => some (packWord 0x97 p.code 0 ta.code tb.code (0))
  | .lnch p ta tb k => some (packWord 0x98 p.code 0 ta.code tb.code (k.toNat))
  | .sigc p ta tb inc => some (packWord 0x99 p.code 0 ta.code tb.code (inc.toNat))
  | .waitc p ta tb => some (packWord 0x9A p.code 0 ta.code tb.code (0))
  | .bmwait p ta tb off => some (packWord 0x9B p.code 0 ta.code tb.code (off.toNat))
  | .lgen p ta tb step lv dpl => some (packWord 0xA0 p.code 0 ta.code tb.code (step.toNat + lv.toNat * 2 ^ 20 + dpl.toNat * 2 ^ 23))
  | .lgen2 p ta tb step0 step1 lv dpl => some (packWord 0xA1 p.code 0 ta.code tb.code (step0.toNat + step1.toNat * 2 ^ 12 + lv.toNat * 2 ^ 24 + dpl.toNat * 2 ^ 27))
  | .spscn p ta tb op lv dpl => some (packWord 0xA2 p.code 0 ta.code tb.code (op.toNat + lv.toNat * 2 ^ 1 + dpl.toNat * 2 ^ 4))
  | .rptc p ta tb base cap => some (packWord 0xA3 p.code 0 ta.code tb.code (base.toNat + cap.toNat * 2 ^ 12))
  | .rpte p ta tb base cap => some (packWord 0xA4 p.code 0 ta.code tb.code (base.toNat + cap.toNat * 2 ^ 12))
  | .emstp p ta tb lv dpl => some (packWord 0xA5 p.code 0 ta.code tb.code (lv.toNat + dpl.toNat * 2 ^ 3))
  | .tkind p ta tb lv test => some (packWord 0xA6 p.code 0 ta.code tb.code (lv.toNat + test.toNat * 2 ^ 3))
  | .itgate p ta tb vc d lv => some (packWord 0xA7 p.code 0 ta.code tb.code (vc.toNat + d.toNat * 2 ^ 3 + lv.toNat * 2 ^ 7))
  | .take p ta tb vc => some (packWord 0xA8 p.code 0 ta.code tb.code (vc.toNat))
  | .cnttk p ta tb ctr lv dpl => some (packWord 0xA9 p.code 0 ta.code tb.code (ctr.toNat + lv.toNat * 2 ^ 3 + dpl.toNat * 2 ^ 6))
  | .seqrd p ta tb => some (packWord 0xB0 p.code 0 ta.code tb.code (0))
  | .wgtrd p ta tb => some (packWord 0xB1 p.code 0 ta.code tb.code (0))
  | .wgtwr p ta tb => some (packWord 0xB2 p.code 0 ta.code tb.code (0))
  | .isgap p ta tb test => some (packWord 0xB3 p.code 0 ta.code tb.code (test.toNat))
  | .gaprd p ta tb fa fb => some (packWord 0xB4 p.code 0 ta.code tb.code (fa.toNat + fb.toNat * 2 ^ 2))
  | .emgap p ta tb => some (packWord 0xB5 p.code 0 ta.code tb.code (0))
  | .voidr p ta tb => some (packWord 0xB6 p.code 0 ta.code tb.code (0))
  | .wacc p fs ta tb acc wk wen sat => some (packWord 0xB7 p.code fs.toNat ta.code tb.code (acc.toNat + wk.toNat * 2 ^ 6 + wen.toNat * 2 ^ 12 + sat.toNat * 2 ^ 13))
  | .wincl p fs ta tb zl k sat => some (packWord 0xB8 p.code fs.toNat ta.code tb.code (zl.toNat + k.toNat * 2 ^ 5 + sat.toNat * 2 ^ 11))
  | .joink p fs ta tb vcl vcr k gapemit => some (packWord 0xB9 p.code fs.toNat ta.code tb.code (vcl.toNat + vcr.toNat * 2 ^ 3 + k.toNat * 2 ^ 6 + gapemit.toNat * 2 ^ 12))
  | .wld p fs ta tb bank vc => some (packWord 0xC0 p.code fs.toNat ta.code tb.code (bank.toNat + vc.toNat * 2 ^ 5))
  | .wlds p fs ta tb bank => some (packWord 0xC1 p.code fs.toNat ta.code tb.code (bank.toNat))
  | .wsel p ta tb bank => some (packWord 0xC2 p.code 0 ta.code tb.code (bank.toNat))
  | .arow p fs ta tb row off => some (packWord 0xC3 p.code fs.toNat ta.code tb.code (row.toNat + off.toNat * 2 ^ 6))
  | .adrn p ta tb row clr => some (packWord 0xC4 p.code 0 ta.code tb.code (row.toNat + clr.toNat * 2 ^ 6))
  | .azero p ta tb row n => some (packWord 0xC5 p.code 0 ta.code tb.code (row.toNat + n.toNat * 2 ^ 6))
  | .xfwd p fs ta tb c => some (packWord 0xD0 p.code fs.toNat ta.code tb.code (c.toNat))
  | .xinv p fs ta tb c => some (packWord 0xD1 p.code fs.toNat ta.code tb.code (c.toNat))
  | .cmac p fs ta tb => some (packWord 0xD2 p.code fs.toNat ta.code tb.code (0))
  | .cmul p fs ta tb => some (packWord 0xD3 p.code fs.toNat ta.code tb.code (0))
  | .cconj p fs ta tb => some (packWord 0xD4 p.code fs.toNat ta.code tb.code (0))
  | .dtag p ta tb d => some (packWord 0xD5 p.code 0 ta.code tb.code (d.toNat))
  | .xreq p ta tb => some (packWord 0xD6 p.code 0 ta.code tb.code (0))
  | .drvk p ta tb named shelf => some (packWord 0xD7 p.code 0 ta.code tb.code (named.toNat + shelf.toNat * 2 ^ 1))
  | .gtatt p ta tb => some (packWord 0xD8 p.code 0 ta.code tb.code (0))
  | .gtdet p ta tb => some (packWord 0xD9 p.code 0 ta.code tb.code (0))
  | .gtfld p ta tb => some (packWord 0xDA p.code 0 ta.code tb.code (0))
  | .trap p code => some (packWord 0xE0 p.code 0 0x200 0x200 (code.toNat))
  | .brk p code => some (packWord 0xE1 p.code 0 0x200 0x200 (code.toNat))
  | .ctlrd p ta tb idx => some (packWord 0xE2 p.code 0 ta.code tb.code (idx.toNat))
  | .ctlwr p ta tb idx => some (packWord 0xE3 p.code 0 ta.code tb.code (idx.toNat))
  | .cntrd p ta tb cnt task other clr => some (packWord 0xE4 p.code 0 ta.code tb.code (cnt.toNat + task.toNat * 2 ^ 3 + other.toNat * 2 ^ 6 + clr.toNat * 2 ^ 7))
  | .rand p ta tb => some (packWord 0xE5 p.code 0 ta.code tb.code (0))
  | .seed p ta tb => some (packWord 0xE6 p.code 0 ta.code tb.code (0))
  | .timer p ta tb imm => some (packWord 0xE7 p.code 0 ta.code tb.code (imm.toNat))
  | .fwsvc p ta tb svc => some (packWord 0xE8 p.code 0 ta.code tb.code (svc.toNat))
  | _ => none

/-- The word of a drove-list command (R219, R339); none for anything else. -/
def encodeDrove : Instr → Option Nat
  | .dnop => some (0 * 2 ^ 120)
  | .dhalt => some (1 * 2 ^ 120)
  | .dset gd imm => some (2 * 2 ^ 120 + gd.toNat * 2 ^ 116 + imm.toNat)
  | .dadd gd ga (.imm v) => some (3 * 2 ^ 120 + gd.toNat * 2 ^ 116 + ga.toNat * 2 ^ 112 + 2 ^ 64 + v.toNat)
  | .dadd gd ga (.reg gb) => some (3 * 2 ^ 120 + gd.toNat * 2 ^ 116 + ga.toNat * 2 ^ 112 + gb.toNat * 2 ^ 108)
  | .dmov gd ga => some (4 * 2 ^ 120 + gd.toNat * 2 ^ 116 + ga.toNat * 2 ^ 112)
  | .dloop gd (.imm v) tgt => some (5 * 2 ^ 120 + gd.toNat * 2 ^ 116 + tgt.toNat * 2 ^ 64 + 2 ^ 80 + v.toNat)
  | .dloop gd (.reg ga) tgt => some (5 * 2 ^ 120 + gd.toNat * 2 ^ 116 + ga.toNat * 2 ^ 112 + tgt.toNat * 2 ^ 64)
  | .dnext gd tgt => some (6 * 2 ^ 120 + gd.toNat * 2 ^ 116 + tgt.toNat * 2 ^ 64)
  | .djmp tgt => some (7 * 2 ^ 120 + tgt.toNat * 2 ^ 64)
  | .djz ga tgt => some (8 * 2 ^ 120 + ga.toNat * 2 ^ 112 + tgt.toNat * 2 ^ 64)
  | .dpat pr dim circ count stride extent start => some (9 * 2 ^ 120 + pr.toNat * 2 ^ 106 + dim.toNat * 2 ^ 64 + circ.toNat * 2 ^ 66 + count.toNat * 2 ^ 67 + stride.toNat + extent.toNat * 2 ^ 32 + start.toNat * 2 ^ 48)
  | .dpush pr ga gd fmt srcoc dgen dom imm => some (10 * 2 ^ 120 + pr.toNat * 2 ^ 106 + ga.toNat * 2 ^ 112 + gd.toNat * 2 ^ 116 + fmt.toNat * 2 ^ 64 + srcoc.toNat * 2 ^ 68 + dgen.toNat * 2 ^ 69 + dom.toNat * 2 ^ 70 + imm.toNat)
  | .dpull pr ga gd fmt dgen imm => some (11 * 2 ^ 120 + pr.toNat * 2 ^ 106 + ga.toNat * 2 ^ 112 + gd.toNat * 2 ^ 116 + fmt.toNat * 2 ^ 64 + dgen.toNat * 2 ^ 69 + imm.toNat)
  | .dgtld pr ga gd dgen dom imm => some (12 * 2 ^ 120 + pr.toNat * 2 ^ 106 + ga.toNat * 2 ^ 112 + gd.toNat * 2 ^ 116 + dgen.toNat * 2 ^ 69 + dom.toNat * 2 ^ 70 + imm.toNat)
  | .dgath pr ga gb gd fmt dgen dom imm => some (13 * 2 ^ 120 + pr.toNat * 2 ^ 106 + ga.toNat * 2 ^ 112 + gb.toNat * 2 ^ 108 + gd.toNat * 2 ^ 116 + fmt.toNat * 2 ^ 64 + dgen.toNat * 2 ^ 69 + dom.toNat * 2 ^ 70 + imm.toNat)
  | .dwick tile wicket bind => some (14 * 2 ^ 120 + tile.toNat * 2 ^ 64 + wicket.toNat * 2 ^ 77 + bind.toNat * 2 ^ 81)
  | .dsig ctr inc => some (15 * 2 ^ 120 + ctr.toNat * 2 ^ 64 + inc.toNat)
  | .dwaitc ctr (.imm v) => some (16 * 2 ^ 120 + ctr.toNat * 2 ^ 64 + 2 ^ 76 + v.toNat)
  | .dwaitc ctr (.reg ga) => some (16 * 2 ^ 120 + ga.toNat * 2 ^ 112 + ctr.toNat * 2 ^ 64)
  | .dfence scope => some (17 * 2 ^ 120 + scope.toNat * 2 ^ 64)
  | .dfold ga gb => some (18 * 2 ^ 120 + ga.toNat * 2 ^ 112 + gb.toNat * 2 ^ 108)
  | .dcopy pr ga gd fmt imm => some (19 * 2 ^ 120 + pr.toNat * 2 ^ 106 + ga.toNat * 2 ^ 112 + gd.toNat * 2 ^ 116 + fmt.toNat * 2 ^ 64 + imm.toNat)
  | .dpref pr ga fmt => some (20 * 2 ^ 120 + pr.toNat * 2 ^ 106 + ga.toNat * 2 ^ 112 + fmt.toNat * 2 ^ 64)
  | .dconv src dst mode sat on => some (21 * 2 ^ 120 + src.toNat * 2 ^ 64 + dst.toNat * 2 ^ 68 + mode.toNat * 2 ^ 72 + sat.toNat * 2 ^ 75 + on.toNat * 2 ^ 76)
  | _ => none

/-- The eight words of a record as one number, word 0 lowest. -/
def Rec8.toNat (e : Rec8) : Nat :=
  e.w0.toNat + e.w1.toNat * 2 ^ 64 + e.w2.toNat * 2 ^ 128 + e.w3.toNat * 2 ^ 192 + e.w4.toNat * 2 ^ 256 +
    e.w5.toNat * 2 ^ 320 + e.w6.toNat * 2 ^ 384 + e.w7.toNat * 2 ^ 448

/-- The CODE of a host command and the word, bit and value of its mode bit where its code has two rows (R371, R373,
R429); none for anything else. -/
def commandCode : Instr → Option (Nat × Option (Nat × Nat × Nat))
  | .paddockCreate => some (0x01, none)
  | .paddockDestroy => some (0x02, none)
  | .chargeLoad => some (0x03, none)
  | .queueCreate => some (0x04, none)
  | .queueTeardownDrain => some (0x05, some (1, 8, 0))
  | .queueTeardownAbort => some (0x05, some (1, 8, 1))
  | .launch => some (0x06, none)
  | .map => some (0x07, none)
  | .unmap => some (0x08, none)
  | .faultRead => some (0x09, none)
  | .faultResume => some (0x0A, some (3, 0, 0))
  | .faultRetire => some (0x0A, some (3, 0, 1))
  | .handleCreate => some (0x0B, none)
  | .glazeAttach => some (0x0C, none)
  | .glazeDetach => some (0x0D, none)
  | .fold => some (0x0E, none)
  | .snapshot => some (0x0F, none)
  | .setTolerance => some (0x10, none)
  | .setTier => some (0x11, none)
  | .powerReport => some (0x12, none)
  | .linkHealth => some (0x13, none)
  | .attest => some (0x14, none)
  | .fwPatch => some (0x15, none)
  | .resetPaddock => some (0x16, some (1, 0, 0))
  | .resetPackage => some (0x16, some (1, 0, 1))
  | .counterSet => some (0x17, none)
  | .counterRead => some (0x18, none)
  | .powerConfig => some (0x19, none)
  | .snapshotRestore => some (0x1A, none)
  | _ => none

/-- The command entry of a host command whose other bits are all zero: CODE and the mode bit. -/
def commandEntry (i : Instr) : Option Nat :=
  (commandCode i).map fun c =>
    c.1 + match c.2 with
      | none => 0
      | some (word, bit, v) => v * 2 ^ (64 * word + bit)

/-- The words of an instruction: the number of bits and their value, bit 0 the least significant of the first byte.
Events have no encoding; a host command's operands are its entry's, so only its CODE and mode bit stand here. -/
def encode (i : Instr) : Option (Nat × Nat) :=
  match encodeTile i with
  | some w => some (64, w)
  | none =>
    match encodeDrove i with
    | some w => some (128, w)
    | none => (commandEntry i).map fun e => (512, e)

end Sys2Proof
end

