-- ==== Sys2Proof/Config.lean ====
section
/-! DEFINITION. What the spec leaves open: free values, as constants without a body, and what an implementation fixes.
A claim holds whatever these are. The notes/assumptions rows 4 to 9 and 26 name them. -/

namespace Sys2Proof.Config

/-- The latency, in units of the model's clock, that the `n`-th draw gives an event to which the spec gives none.
(DESIGN CHOICE, log 4.) -/
opaque freeDelay : Nat → Nat

/-- The `n`-th draw of any other choice that the spec leaves open (which free frame a slice takes). -/
opaque freeNat : Nat → Nat

/-- The `n`-th draw of bytes that the spec leaves open (the readout of a snapshot record). -/
opaque freeByte : Nat → Byte

/-- The alias classes that contain the instruction at a context, tile, block and slot of a charge image (R178). The image
layout of R209 to R215 does not hold the membership.
(DESIGN CHOICE, log 8.) -/
opaque aliasClasses : List Byte → Nat → Nat → Nat → Nat → List Nat

/-- The reconvergent pairs that an image declares (R60): the control link and the arms, each a list of links in path order from the
steering tile; a link is its index among the image's link words. The image layout does not hold the declarations.
(DESIGN CHOICE, log 8.) -/
opaque reconvPairs : List Byte → List (Nat × List (List Nat))

/-- The 64-byte SHAKE256 output of a byte string (R215, R382). -/
opaque shake256 : List Byte → List Byte

/-- Whether an Ed448 signature of a message verifies against a public key (R435).
(DESIGN CHOICE, log 9.) -/
opaque ed448Verify : List Byte → List Byte → List Byte → Bool

/-- Whether a patch carries an Ed448 signature over its SHAKE256 hash that verifies against Mildiwell's key in ROM (R383). -/
opaque patchSigned : List Byte → Bool

/-- The SPDM response to a request, given the measurement register (R383). -/
opaque spdmResponse : List Byte → BitVec 512 → List Byte

/-- The measurement register after the boot stages have been hashed (R382). -/
opaque measurement : Nat → BitVec 512

/-- The corrected-symbol rate of a lane, as FP32 bits, from the rate measured over a window and the number of flit replays in it:
replays count toward the rate (R425), by a measure that the spec does not give.
(DESIGN CHOICE, log 121.) -/
opaque replayRate : Nat → Nat → Nat

/-- Whether the host's root port advertises AtomicOp support (R192).
(DESIGN CHOICE, log 26.) -/
opaque hostAtomicOps : Bool

/-- Whether the host link runs as CXL with CXL.cache enabled (R192). -/
opaque hostCxlCache : Bool

end Sys2Proof.Config
end

