-- ==== Sys2Proof/Machine/State.lean ====
section
/-! DEFINITION. The state of the package as plain data: on-chip storage and DRAM as one memory, every kiln with its
tiles, tasks, links and bells, every engine, queue and paddock, the fault queues, and the host's registers. -/

namespace Sys2Proof.Machine

/-! Tokens. -/

/-- A control-plane token (R63). `deps` is a ghost: the accesses in flight that are ob before the token (R177). -/
structure CTok where
  kind : BitVec 4
  level : BitVec 3
  val : Word
  deps : List Nat
  deriving DecidableEq, Repr

/-- A data-plane token (R62). `deps` is a ghost, as in `CTok`. -/
structure DTok where
  kind : BitVec 4
  level : BitVec 3
  narrow : Bool
  domain : Bool
  weight : BitVec 16
  seq : BitVec 23
  pay : Payload
  deps : List Nat
  deriving DecidableEq, Repr

/-- A token of either plane. -/
inductive Tok where
  | ctl (t : CTok)
  | data (t : DTok)
  deriving DecidableEq, Repr

/-! Work under way in a tile. -/

/-- A result that waits to be sent to a target, from cycle `due` of the tile on (R32). -/
structure Send where
  tgt : Target
  tok : Tok
  due : Nat
  deriving DecidableEq, Repr

/-- A byte that a translated access reaches: a PA, or byte `vc` of the value-and-coordinate record of the dense chunk at
`pa` (R154); `coh`: through a range-table entry with COHERENT set (R158). -/
structure Loc where
  pa : Nat
  vc : Option Nat
  coh : Bool
  deriving DecidableEq, Repr

/-- Which storage operation an issued scratchpad instruction makes (R283, R284, R286). -/
inductive ScratchOp where
  | load (size : Nat) (sx : Bool)
  | loadVec
  | gather (size : Nat) (sx : Bool)
  | store (bytes : List Byte)
  | storeVec (pay : Payload) (dom : Bool)
  | scatter (size : Nat) (pay : Payload) (dom : Bool)
  | feSet
  | feClr
  | feTst
  deriving DecidableEq, Repr

/-- What a global access does (R292, R293). -/
inductive GlobalOp where
  | read (size : Nat)
  | readVec
  | write (bytes : List Byte)
  | writeVec (pay : Payload) (dom : Bool)
  | atomic (op : BitVec 8) (size : Nat) (operand compare : Word)
  deriving DecidableEq, Repr

/-- A global access before it is issued at the memory port: operation, EA, scope, and the order it waits for. -/
structure GlobalReq where
  op : GlobalOp
  opcode : BitVec 8
  ea : Word
  scope : Nat
  acq : Bool
  rel : Bool
  deps : List Nat
  deriving DecidableEq, Repr

/-- A queue or counter instruction that waits for the queue or counter (R299, R302, R303). -/
inductive QueueOp where
  | push (q : Nat) (rec : Rec8)
  | pop (q : Nat) (k : Nat)
  | len (q : Nat)
  | lnch (q : Nat) (rec : Rec8)
  | sigc (ctr inc : Nat)
  | waitc (ctr : Nat) (th : Word)
  /-- a wait on a queue that has closed meanwhile (R391), with the instruction's OP -/
  | closed (q op : Nat)
  deriving DecidableEq, Repr

/-- A request to an engine or a slice that waits to be accepted (R333 to R336). -/
inductive EngineOp where
  | xreq (packet : BitVec 256)
  | drvk (shelf : Nat) (list : Word) (g0 : Word)
  | gtatt (handle desc : Word)
  | gtdet (handle pos : Word)
  | gtfld (handle desc : Word)
  deriving DecidableEq, Repr

/-- What an issued instruction still has to do before it completes. -/
inductive Work where
  /-- Nothing: only its sends and its latency remain. -/
  | finish
  /-- TRAP: it never completes unless the kiln is resumed (R241, R387). -/
  | trapped
  /-- LGEN at index `i` (R309). -/
  | lgen (i n : Nat) (b step : Word) (lv : BitVec 3) (dpl : Bool)
  /-- LGEN2 at outer `i1`, inner `i0` (R310). -/
  | lgen2 (i1 i0 n1 n0 : Nat) (b s1 s0 : Word) (lv : BitVec 3) (dpl : Bool)
  /-- SPSCN at bit `i`, with `cnt` indices sent (R311). -/
  | spscn (i cnt : Nat) (mask b : Word) (lv : BitVec 3) (dpl : Bool)
  /-- RPTC that waits for an open ring (R313). -/
  | rptc (base cap : Nat) (tok : DTok)
  /-- RPTE: waiting (`run` false) or at entry `e` of repetition `rep` (R314). -/
  | rpte (base cap r rep e : Nat) (run : Bool)
  /-- ADRN at record `t`, with the quarters already captured for it (R126, R329). -/
  | adrn (row t : Nat) (clr : Bool) (got : List Payload)
  /-- A scratchpad access: FS, addresses, operation, the accesses it must wait for, and the cycle it is served from. -/
  | scratch (eas : List Nat) (op : ScratchOp) (fs : BitVec 2) (deps : List Nat) (start : Nat)
  /-- ACRD (`wr` none), ACWR with its token, once the rows are free (R288). -/
  | accum (row qr : Nat) (wr : Option Tok)
  /-- ACCLR (R288). -/
  | acclr
  /-- WICK (R289). -/
  | wick (w first n : Nat)
  /-- WADV (R290). -/
  | wadv (w n : Nat) (deps : List Nat)
  /-- BMWAIT (R304). -/
  | bmwait (ea : Nat) (mask : Word)
  /-- A global access at the memory port, not yet issued (R181, R182, R415): its number and element once the port has taken
  it, and the fault for which it is held. -/
  | portWait (r : GlobalReq) (taken : Option (Nat × Nat)) (held : Option Nat)
  /-- A global access that has been issued at the memory port. -/
  | access (id : Nat)
  /-- FENCE (R182). -/
  | fence (scope : Nat)
  /-- BELL waiting for the release of a generation (R298). -/
  | bell (b gen : Nat)
  /-- A queue or counter instruction (R299 to R303). -/
  | queue (op : QueueOp) (deps : List Nat)
  /-- An engine request (R333 to R336), with the fault for which its slice access is held and whether FAULT_RESUME has
  asked for its retry. -/
  | engine (op : EngineOp) (deps : List Nat) (held : Option (Nat × Bool))
  /-- TAKE (R318). -/
  | take (plane : Bool) (vc : Nat)
  /-- ITGATE with `left` done tokens to take before it sends `tok` (R317). -/
  | itgate (vc left : Nat) (tok : CTok) (last : Bool)
  /-- CNTTK whose add is applied in cycle `at` (R319). -/
  | cnttk (ctr : Nat) (inc : Word) (lv : BitVec 3) (dpl : Bool) (at_ : Nat)
  /-- WACC, whose keeps are read and written in cycle `at` (R322). -/
  | wacc (acc wk : Nat) (wen sat fp : Bool) (tok : DTok) (at_ : Nat)
  /-- WINCL, likewise (R323). -/
  | wincl (zl k : Nat) (sat fp : Bool) (tok : DTok) (at_ : Nat)
  /-- JOINK (R324). -/
  | joink (vcl vcr k : Nat) (emit : Bool)
  /-- WLD at take `j` of `n` (R325). -/
  | wld (bank fmt vc j n : Nat)
  /-- WLDS at granule `j` of `n` from a scratchpad offset (R326). -/
  | wlds (bank fmt ea j n : Nat)
  /-- AROW: row, segment offset, lane format, weight format, bank, granules read so far, cycle of issue (R122), and from
  the consumed event on the group sums not yet added. -/
  | arow (row ea fmt wfmt bank : Nat) (got : List Payload) (c : Nat) (sums : Option (List (List Nat)))
  /-- AZERO with the rows left (R327). -/
  | azero (rows : List Nat)
  /-- CMAC, applied in cycle `at` (R331). -/
  | cmac (fmt : Nat) (pay : Payload) (desc : Word) (at_ : Nat)
  /-- XFWD (`inv` false) or XINV, before or after it has entered the STU's queue (R330, R136). -/
  | stu (queued inv : Bool) (fmt conv src dst : Nat)
  /-- TIMER with a deadline (R248). -/
  | timer (deadline : Word)
  /-- FWSVC, answered at time `at` (R249). -/
  | fwsvc (svc : Nat) (a : Word) (at_ : Nat)
  deriving DecidableEq, Repr

/-- An issued instruction that has not completed (R32): slot, number in issue order, targets, results to be sent, flags
to be ORed in at completion, the earliest cycle of completion, the accesses ob before it, the work left, and the
earliest cycle of its next action. -/
structure Pending where
  slot : Nat
  no : Nat
  ta : Target
  tb : Target
  sends : List Send
  flags : BitVec 5
  sat : Bool
  doneAt : Nat
  deps : List Nat
  work : Work
  next : Nat
  deriving DecidableEq, Repr

/-- A token that a slot position has received, and the cycle in which it did (R29). -/
structure Operand where
  slot : Nat
  pos : Pos
  tok : Tok
  cyc : Nat
  deriving DecidableEq, Repr

/-- How a block execution's exit leaves the task (R227 to R229). -/
inductive ExitKind where
  | to (block : Nat)
  | halt
  | ctxEnd
  | yield (block dly : Nat)
  deriving DecidableEq, Repr

/-- A block execution (R28 to R34): its firing number, the required positions (R30), the tokens received, the slots issued, the instructions under
way, the exit fired with its slot, and SEQ and WEIGHT of the record of binding 0 under KEEPSEQ (R64). -/
structure Exec where
  task : Nat
  block : Nat
  no : Nat
  firedAt : Nat
  need : List (Nat × Pos)
  toks : List Operand
  issued : List Nat
  pend : List Pending
  exit : Option (Nat × ExitKind)
  keepSeq : Option (BitVec 23 × BitVec 16)
  deriving DecidableEq, Repr

/-- The states of a task (R36); `absent`: the context declares no such task. -/
inductive TaskStat where
  | idle
  | active
  | ended
  | halted
  | absent
  deriving DecidableEq, Repr

/-- A task (R36, R37, R243): state, current block, earliest firing cycle (R229), sticky flags (R107), generator (R101),
stall counters (R37), the ITGATE slots whose OUT is 1 (R317), whether it has raised a stop cause (R385), and whether it
has saved for the snapshot under way (R58). -/
structure TaskSt where
  stat : TaskStat
  block : Nat
  notBefore : Nat
  fpflags : BitVec 5
  satflag : Bool
  seedKey : Word
  genCtr : BitVec 128
  stalls : List Nat
  gates : List (Nat × Nat)
  stopped : Bool
  saved : Bool
  deriving DecidableEq, Repr

/-- A wicket (R145, R204): base chunk, chunk count, window, consumed count, and the count that the drover sees (R290). -/
structure Wicket where
  base : Nat
  chunks : Nat
  window : Nat
  consumed : Nat
  seen : Nat
  deriving DecidableEq, Repr

/-- A tick source (R87, R208): period, phase, slots, the first cycle of the context, and the ticks queued with the time
each was delivered. -/
structure TickSt where
  period : Nat
  phase : Nat
  slots : Nat
  fromCyc : Nat
  queue : List (Nat × Nat)
  deriving DecidableEq, Repr

/-- The write or read port of a memory tile (R146 to R149, R205): encoding, base, format, the four (extent, stride)
pairs, the position in the pattern, the state of the encoding, and whether EXPAND_OVERRUN was posted. -/
structure PortSt where
  enc : Nat
  base : Nat
  fmt : Nat
  dims : List (Nat × Int)
  elem : Nat
  header : Option (List Nat × Nat)
  lastIdx : Option Nat
  entries : List (Nat × Nat)
  outq : List DTok
  lanes : List (List DTok)
  overrun : Bool
  deriving DecidableEq, Repr

/-- One tile of a kiln. Spaces 0 to 3 and 6 stand in `State.mem`; here are the tile's clock, its configuration for the
context (R203), its tasks and block executions, the full/empty bits, domain tags and arrival bits that are 1 (R142,
R143), the weight formats of banks (R119), the element count of its memory port (R413), and what R285 has done in the
cycle: the granules full when step 4 began, and those that a WAITC or WAITE access has used; the tasks whose block execution
ended in the cycle (R33, R37); the accumulator rows whose
AROW or CMAC completed in the cycle (R126), the latest cycle of issue of an AROW that has completed (R122), the repeat rings emptied in it (R314), and the keeps written in it, each with the
number of the instruction (R255); `bankAt` is the current bank as the cycle began (R120). -/
structure TileSt where
  id : Nat
  cyc : Nat
  cycAt : Nat
  ctlIssued : Bool
  dataIssued : Bool
  fired : Bool
  ended : List Nat
  mode : Nat
  bsize : Nat
  spine : Nat
  fmt : List Nat
  conv : List Nat
  lastTask : Nat
  bank : Nat
  bankAt : Nat
  bankFmt : List (Nat × Nat × Bool)
  divFree : Nat
  rowsDone : List Nat
  arowAt : Option Nat
  ringsDone : List Nat
  keepNos : List (Nat × Nat)
  wickets : List (Nat × Wicket)
  full : List Nat
  tags : List Nat
  arrived : List Nat
  elems : Nat
  tasks : List TaskSt
  execs : List Exec
  nextNo : Nat
  step4 : Option (List Nat)
  usedC : List Nat
  usedE : List Nat
  tick : Option TickSt
  wport : Option PortSt
  rport : Option PortSt
  tileSaved : Bool
  deriving DecidableEq, Repr

/-! Links. -/

/-- A link word (R206), or the output link of an RSU channel (R207). -/
structure LinkCfg where
  src : Nat
  port : Nat
  plane : Bool
  svc : Nat
  dst : Nat
  dvc : Nat
  slots : Nat
  policy : Nat
  param : Nat
  thresh : Nat
  compress : Bool
  commutative : Bool
  cls : Nat
  deriving DecidableEq, Repr

/-- A run of discarded records (R66, R78). -/
structure Gap where
  lost : Nat
  wlost : Nat
  first : Nat
  last : Nat
  deriving DecidableEq, Repr

/-- A data slot: its tokens in order (several under COMPRESS or NARROW), each with the time it arrived, whether it is a
packed pair with its upper half free (R80), and an uncorrectable error in payload or sideband (R398). -/
structure LSlot where
  toks : List (Nat × Tok)
  half : Bool
  badPay : Bool
  badSide : Bool
  deriving DecidableEq, Repr

/-- Who sent a token on a link: the slot of a block execution, named by its task and firing number; or a unit that is no
instruction (the read port of a memory tile, an RSU channel, a late access). -/
inductive Sender where
  | slot (task no slot : Nat)
  | unit
  deriving DecidableEq, Repr

/-- Who shows a token at the head of a link of SLOTS 0 (R72): an instruction, a lane of a memory tile's read port, an RSU
channel, a late access. -/
inductive OfferBy where
  | instr (task slot : Nat)
  | port (lane : Option Nat)
  | rsu (n : Nat)
  | late
  deriving DecidableEq, Repr

/-- A token in flight (R70): the cycle of the destination tile in which it reaches the tail, and who sent it. -/
structure Flying where
  due : Nat
  tok : Tok
  by_ : Sender
  deriving DecidableEq, Repr

/-- A slot-return delay (R86): the cycle of the consumer in which it ends, and whether it holds a slot (false: only the credit
of a join under COMPRESS, R85). -/
structure Delay where
  due : Nat
  slot : Bool
  deriving DecidableEq, Repr

/-- A link (R70 to R86): hop count, data slots, the gap slot with the number of tokens in the slots before it and an
uncorrectable error in it, the pending gap, the waiting stops each with the gap after it, tokens in flight, credits, the
cycles of the producer in which credits return, slot-return delays, SAMPLE counter, episode flag, weight lost to saturation,
the SEQ counter, the token that a link of SLOTS 0 shows at its head, when the producer last sent, whether a raddle seals the
head (R58), and the stops that met eight waiting ones and wait in their sending instructions (R397). -/
structure LinkSt where
  cfg : LinkCfg
  hops : Nat
  slots : List LSlot
  gap : Option (DTok × Nat)
  gapBad : Bool
  pend : Option Gap
  waiting : List (Tok × Option Gap)
  flight : List Flying
  credits : Nat
  returning : List Nat
  delays : List Delay
  sample : Nat
  episode : Bool
  satLost : Nat
  satGap : Bool
  seqCtr : BitVec 23
  offer : Option (Tok × OfferBy)
  sentAt : Option Nat
  sealed : Bool
  back : List (Tok × Sender)
  deriving DecidableEq, Repr

/-- An RSU channel (R88, R89): die-independent tile row (shelf, row), channel, mask, mode and kind, its result tokens each with
the cycle of the channel's clock in which it leaves, and one more than the cycle in which it last fired. Its input links are
`LinkSt`s from port Y. -/
structure RsuSt where
  shelf : Nat
  row : Nat
  chan : Nat
  mask : Nat
  scan : Bool
  int32 : Bool
  out : List (Nat × DTok)
  lastFire : Nat
  deriving DecidableEq, Repr

/-! Kilns. -/

/-- A bell (R189, R298, R389): count, timeout, generation, tally, the tile, task and time of the entry that opened the
generation, whether that generation has timed out, the accesses ob before its arrivals, and the releases due: generation,
the tile and its cycle, and the accesses that must perform at KILN first. -/
structure BellSt where
  count : Nat
  timeout : Nat
  gen : Nat
  tally : Nat
  opened : Option (Nat × Nat × Nat)
  timedOut : Bool
  deps : List Nat
  releases : List (Nat × Nat × Nat × List Nat)
  deriving DecidableEq, Repr

/-- The STU of a shelf (R136): queued (tile, task, slot), and the transform being served: granules read so far, the
time from which the STU reads on, and the cycle of its tile in which it writes the result. -/
structure StuSt where
  shelf : Nat
  queue : List (Nat × Nat × Nat)
  serving : Option (Nat × Nat × Nat)
  got : List Payload
  nextAt : Nat
  doneAt : Option Nat
  deriving DecidableEq, Repr

/-- The state of one dimension of a drover's pattern register (R337). -/
structure PatDim where
  start : Int
  count : Nat
  extent : Nat
  stride : Int
  circ : Bool
  deriving DecidableEq, Repr

/-- Where a drove list's commands stand (R338): in the charge, or at a VA. -/
inductive ListRef where
  | charge (n : Nat)
  | va (a : Nat)
  deriving DecidableEq, Repr

/-- A drove list, submitted or running (R337): its kiln, where it stands, G0 to G15, P0 to P3, the converter (source,
target, mode, saturate), the binding (tile, wicket), the command index, the word of the command once it has been read
(R395), the next byte of a data command's output (DPULL: the next element), the output bytes read and not yet written, the
DGATH row whose index has been read, with the index, the captured handle entry, whether a push waits for a wicket window
(R344), the accesses ob before its kick (R187), the fault whose access is held, whether FAULT_RESUME has asked for its
retry, and when its next step may come. -/
structure DList where
  kiln : Nat
  shelf : Nat
  ref : ListRef
  g : List Word
  p : List (List PatDim)
  conv : Option (Nat × Nat × Nat × Bool)
  binding : Option (Nat × Nat)
  index : Nat
  word : Option Nat
  pos : Nat
  buf : List Byte
  row : Option (Nat × Nat)
  entry : Option (List Word)
  waits : Bool
  deps : List Nat
  held : Option Nat
  retry : Bool
  at_ : Nat
  deriving DecidableEq, Repr

/-- The drover of a slice (R163): the running list and the lists submitted after it. -/
structure DroverSt where
  die : Nat
  slice : Nat
  run : Option DList
  queue : List DList
  deriving DecidableEq, Repr

/-- A BTU copy (R165, R166): its packet, kiln, the offset from DST of the granule that it moves next, those of the granules that it has
still to move after it, the bytes read for the next one, the held record of its waiting byte, and when its next step may come.
(DESIGN CHOICE, log 126.) -/
structure BtuCopy where
  id : Nat
  kiln : Nat
  shelf : Nat
  packet : BitVec 256
  started : Bool
  pos : Nat
  left : List Nat
  buf : List Byte
  deps : List Nat
  held : Option Nat
  retry : Bool
  at_ : Nat
  deriving DecidableEq, Repr

/-- The BTU of a shelf (R165, R166). -/
structure BtuSt where
  die : Nat
  shelf : Nat
  copies : List BtuCopy
  deriving DecidableEq, Repr

/-- A fold under way (R172): paddock, die and shelf of its request, captured source entry, body VA, format, new handle index, counter, the
next element, and when its next step may come. -/
structure FoldJob where
  id : Nat
  paddock : Nat
  die : Nat
  shelf : Nat
  kiln : Nat
  entry : List Word
  body : Nat
  fmt : Nat
  handle : Nat
  counter : Nat
  pos : Nat
  held : Option Nat
  retry : Bool
  at_ : Nat
  deriving DecidableEq, Repr

/-- Why a kiln leaves its shelves (R50, R53, R59, R385, R424). -/
inductive FreezeWhy where
  | quantum
  | stop
  | trip
  | snapshot
  deriving DecidableEq, Repr

/-- Where a kiln is in its life (R44, R53). -/
inductive KStat where
  /-- placed; step 5 follows once its shelves are awake, at the time given -/
  | starting (at_ : Nat)
  | running
  /-- switching context until the time given (R38) -/
  | switching (until_ next : Nat)
  /-- a stop or a freeze began in the cycle at the time given (R385) -/
  | freezing (since : Nat) (why : FreezeWhy)
  | frozen
  | stopped
  deriving DecidableEq, Repr

/-- A token that stands in a VC without a link: an argument word (R44) or a raddle injected by a snapshot (R58). -/
structure VcTok where
  tile : Nat
  vc : Nat
  tok : Tok
  at_ : Nat
  deriving DecidableEq, Repr

/-- A snapshot under way in a kiln (R58, R59): the command's tag, destination VA and deadline; the tasks saved, as (tile,
task, state), the tiles saved, and the channel state that each VC recorded: a link as it stood behind its raddle, the tokens
of a VC without a link, and a tile's tick source. -/
structure SnapRun where
  tag : Nat
  va : Nat
  deadline : Nat
  tasks : List (Nat × Nat × TaskSt)
  tiles : List TileSt
  links : List (Nat × LinkSt)
  args : List VcTok
  ticks : List (Nat × TickSt)
  deriving DecidableEq, Repr

/-- A cause that a kiln has stopped for, until FAULT_RESUME acts on it: the record, the cause, and what RESUME needs. -/
structure StopCause where
  uid : Nat
  cause : Nat
  tile : Nat
  task : Nat
  slot : Nat
  aux : Nat
  deriving DecidableEq, Repr

/-- What a kiln waits for, with the number of the record (R56, R57): the unit of its storage that cannot be installed, as tile, space and
base; since when; and the kiln whose save slot or snapshot record cannot be reached. -/
structure Paused where
  uid : Nat
  since : Nat
  who : Nat
  tile : Nat
  space : Nat
  base : Nat
  deriving DecidableEq, Repr

/-- A kiln (R26, R44): identity, launch, context, placement, and all its dynamic state; `sinks` are the declared sink VCs
(data plane, tile, VC), each with whether it has received its level-7 stop, `drainedAt` is when the phase's last link drained
(R40), `origin` is when its tiles' cycle 0 began (frozen time taken out), `arrivalsAt` is the instant at which the arrivals of its cycles
that begin then were last taken, after every dequeue of those cycles (R70), and `sigWrites` holds the signal writes under way:
tile and its cycle in which each is seen, signal, value; `paused` is the held access for which the kiln waits (R56); `switchLeft` is what is left of a context switch that a freeze interrupted, and its context (R188). -/
structure Kiln where
  id : Nat
  charge : Nat
  paddock : Nat
  queue : Nat
  record : Rec8
  cols : Nat
  rows : Nat
  stat : KStat
  place : Option (Nat × Nat × Nat)
  lastPlace : Option (Nat × Nat × Nat)
  ctx : Nat
  ctxAt : Nat
  race : Bool
  origin : Nat
  signals : BitVec 16
  sigWrites : List (Nat × Nat × Nat × Bool)
  bells : List BellSt
  counters : List Word
  tiles : List TileSt
  argq : List VcTok
  links : List LinkSt
  sinks : List (Bool × Nat × Nat × Bool)
  drainedAt : Option Nat
  rsus : List RsuSt
  stus : List StuSt
  quantumAt : Nat
  resident : Nat
  startedAt : Nat
  throttle : Nat
  frozenAt : Nat
  waitAt : Nat
  stops : List StopCause
  lists : List DList
  copies : List BtuCopy
  snap : Option SnapRun
  saveSlots : List (Nat × Nat)
  savedUnits : List Nat
  restored : Option (Nat × Nat)
  paused : Option Paused
  switchLeft : Option (Nat × Nat)
  arrivalsAt : Option Nat
  deriving DecidableEq, Repr

/-! Memory accesses of tiles in flight. -/

/-- How far a global access has gone (R156, R162, R175): in the spill queue of a commutative port, held for a fault or
about to be retried; held or about to be retried after its response was lost at a peer port that went down (R426); issued at the
port, with the bytes it reaches; past its die point; or served late, its results waiting for their links. -/
inductive AccStage where
  | spilled (held : Option Nat)
  | lost (locs : List Loc) (held : Option Nat)
  | port (locs : List Loc)
  | flight (locs : List Loc)
  | late (out : List Send)
  deriving DecidableEq, Repr

/-- A tile's global access in flight (R173 to R181, R415): its number, who made it, with the number of its instruction
in issue order, the target of its value and that of an order token it still owes, its die points (two where it crosses a page),
its element, its stage, when it may go on, whether its
instruction has left it to the spill queue, SEQ and WEIGHT of its block execution under KEEPSEQ (R64), and the number of the tile's
next instruction when the port issued it (R177). -/
structure Acc where
  id : Nat
  kiln : Nat
  tile : Nat
  task : Nat
  slot : Nat
  block : Nat
  die : Nat
  shelf : Nat
  no : Nat
  ta : Target
  tb : Target
  req : GlobalReq
  points : List Nat
  elem : Nat
  stage : AccStage
  ready : Nat
  alone : Bool
  ks : Option (BitVec 23 × BitVec 16)
  issuedNo : Nat
  deriving DecidableEq, Repr

/-! Paddocks, queues, charges. -/

/-- A paddock (R158, R371 to R373). -/
structure Paddock where
  index : Nat
  root : Nat
  handles : Nat
  quantum : Nat
  tier : Nat
  breakpoints : Bool
  signedOnly : Bool
  share : List Nat
  key : List Byte
  saveBase : Nat
  saveCount : Nat
  peerMask : BitVec 16
  ranges : List (Nat × BitVec 128)
  counters : List (Nat × Word)
  tolerance : Nat
  slotsUsed : List (Nat × Nat × Nat)
  create : Rec8
  deriving DecidableEq, Repr

/-- What the launch unit keeps beside a queued launch record: whether it became eligible (R44, R372), when it was
enqueued and when it became eligible (R51), the snapshot that it restores as KILNID, TIME and VA (R375), and whether it
was cancelled while it stands in the ring (R392).
(DEDUCED, log 77.) -/
structure LaunchMeta where
  eligible : Bool
  at_ : Nat
  eligAt : Nat
  restore : Option (Nat × Nat × Nat)
  cancelled : Bool
  deriving DecidableEq, Repr

/-- A queue (R217, R300, R356, R357, R391): the on-chip records and the spill ring's head, tail and count, the launch data
of every record in queue order, whether it is closed; and of the queue's present cycle its number, the on-chip entries
that pops have freed in it, the records that entered on-chip in it, whether the ring has held a record in it, and whether
a record has moved from the ring; and the held accesses to its ring (R415, R426): the write of its last record, with that record, and
the read of its first, each under its fault's number. -/
structure QueueSt where
  index : Nat
  record : Bool
  paddock : Nat
  die : Nat
  prio : Nat
  ringVa : Nat
  ringSize : Nat
  onchip : List Rec8
  head : Nat
  tail : Nat
  count : Nat
  metas : List LaunchMeta
  closed : Bool
  cycNo : Nat
  freedNow : Nat
  addedNow : Nat
  ringNow : Bool
  movedNow : Bool
  heldRec : Option (Nat × Rec8)
  heldRead : Option Nat
  deriving DecidableEq, Repr

/-- The configuration record of a compute tile in a context (R203). -/
structure TileCfg where
  ctx : Nat
  id : Nat
  mode : Nat
  bsize : Nat
  spine : Nat
  fmt : List Nat
  conv : List Nat
  entries : List (Option Nat)
  deriving DecidableEq, Repr

/-- The block code of a tile in a context (R200, R201): 32 headers and the instruction words. -/
structure CodeSec where
  ctx : Nat
  id : Nat
  headers : List Nat
  words : List Nat
  deriving DecidableEq, Repr

/-- A record of a data-image section (R215). -/
structure DataRec where
  id : Nat
  space : Nat
  off : Nat
  bytes : List Byte
  deriving DecidableEq, Repr

/-- A drove list of a charge (R215): kick (true for a task kick), shelf, commands. -/
structure ListSec where
  task : Bool
  shelf : Nat
  cmds : List Nat
  deriving DecidableEq, Repr

/-- A memory tile record (R205). -/
structure MTileCfg where
  ctx : Nat
  id : Nat
  word : Nat
  deriving DecidableEq, Repr

/-- A tick word (R208). -/
structure TickCfg where
  ctx : Nat
  id : Nat
  period : Nat
  phase : Nat
  slots : Nat
  deriving DecidableEq, Repr

/-- A wicket word (R204). -/
structure WicketCfg where
  ctx : Nat
  id : Nat
  index : Nat
  base : Nat
  chunks : Nat
  window : Nat
  deriving DecidableEq, Repr

/-- An accepted charge image (R209 to R215), read apart. -/
structure Image where
  cols : Nat
  rows : Nat
  ctxs : Nat
  raceMode : Bool
  signed : Bool
  readout : Nat
  next : List Nat
  bells : List (Nat × Nat)
  aliases : List (Nat × Nat × Nat)
  args : List (Option (Nat × Nat))
  sinks : List (Bool × Nat × Nat)
  tiles : List TileCfg
  mtiles : List MTileCfg
  wickets : List WicketCfg
  links : List (Nat × LinkCfg)
  ticks : List TickCfg
  code : List CodeSec
  images : List DataRec
  lists : List ListSec
  deriving DecidableEq, Repr

/-- A loaded charge (R221). -/
structure Charge where
  id : Nat
  paddock : Nat
  race : Bool
  image : Image
  deriving DecidableEq, Repr

/-! Dies, faults, power. -/

/-- A fault record (R386, R413), as its eight words. -/
abbrev FaultRec := Rec8

/-- A frame that a placed range uses (R159, R160): its PA, the PA of its frame-map entry, and the accesses of the epoch from
its own shelf and from each other shelf. -/
structure FrameSt where
  pa : Nat
  entry : Nat
  local_ : Nat
  remote : List (Nat × Nat)
  deriving DecidableEq, Repr

/-- A migration under way (R160). -/
structure Migration where
  id : Nat
  die : Nat
  old : Nat
  new : Nat
  doneAt : Nat
  deriving DecidableEq, Repr

/-- A shelf (R55, R377, R380): power state (0, 1 or 2), the time until which it wakes, the kiln whose frozen context its
saggar holds, and its rail's telemetry. -/
structure ShelfSt where
  index : Nat
  power : Nat
  wakeAt : Nat
  saggar : Option (Nat × Nat)
  rail : Nat × Nat × Nat
  deriving DecidableEq, Repr

/-- A launch reservation (R51): the queue, the frozen kiln that made it or 0 for the queue's head record, and the origin and shape
reserved. -/
structure Reservation where
  queue : Nat
  kiln : Nat
  col : Nat
  row : Nat
  cols : Nat
  rows : Nat
  prio : Nat
  deriving DecidableEq, Repr

/-- A record that FAULT_RESUME (CLASS 0 and 1) or FAULT_READ (CLASS 2) has still to act on (R414): its number, the fault
it reports, its class, and whether FAULT_READ has read it. -/
structure OutRec where
  recno : Nat
  uid : Nat
  cls : Nat
  read : Bool
  deriving DecidableEq, Repr

/-- A compute die: fault queue, deferred records, how many of each the present instant has brought, overflow counter and event arming (R413, R414, R419), the launch unit
(R48, R51), migration threshold and epoch (R160), cap, clamp and trip (R378, R422 to R424), shelves. -/
structure DieSt where
  index : Nat
  faults : List FaultRec
  deferred : List (Nat × FaultRec)
  newFaults : Nat
  newDeferred : Nat
  overflow : Nat
  overflowArmed : Bool
  nextRec : Nat
  outstanding : List OutRec
  credit : List (Nat × Int)
  lastQueue : List (Nat × Nat × Nat)
  reservations : List Reservation
  threshold : Nat
  epochAt : Nat
  capMw : Nat
  halved : Nat
  powerMw : Nat
  clamped : Bool
  clampConds : List Nat
  tripped : Bool
  allot : List Nat
  shelves : List ShelfSt
  corrected : List (Nat × Nat × Nat × Nat)
  deriving DecidableEq, Repr

/-- A peer port, or with index 16 the host link (R376, R425, R426): lanes up, lanes removed, down, the lanes whose BER reached
FAIL_PREDICTED with its times, when a retrain of the port was last attempted, and every retrain of a lane with its time. -/
structure PeerPort where
  index : Nat
  lanes : Nat
  removed : List Nat
  down : Bool
  retrained : List (Nat × Nat)
  retrainAt : Nat
  trains : List (Nat × Nat)
  deriving DecidableEq, Repr

/-- A quantity of LINK_HEALTH (R374, R381, R427): quantity, port or connector, lane, its latest value, its value at mating, the levels
posted and not re-armed, the highest level posted, and (corrected-symbol rate) the flit replays since its last window. -/
structure Health where
  quantity : Nat
  port : Nat
  lane : Nat
  value : Nat
  base : Nat
  posted : List Nat
  highest : Nat
  replays : Nat
  deriving DecidableEq, Repr

/-- A host command that has begun and not completed (R370). -/
inductive Outstanding where
  | snapshot (tag kiln : Nat)
  | peerLaunch (tag id port : Nat) (paddock queue : Nat) (rec : Rec8) (held : Option Nat)
  | teardown (tag queue : Nat) (code : Nat)
  | resume (tag acc : Nat)
  deriving DecidableEq, Repr

/-- A message on an MSI-X vector (R368). -/
abbrev Msi := Nat

/-- Where boot stands (R382): the time at which BOOTOK is set; BOOTOK set; READY set. -/
inductive Boot where
  | off
  | booting (okAt : Nat)
  | bootOk
  | ready
  deriving DecidableEq, Repr

/-- Which instruction, command or event is executed, and what it acts on.
(DESIGN CHOICE, log 36.) -/
inductive Cursor where
  | idle
  /-- a tile instruction, or an event of a task: kiln, tile, task, slot -/
  | tile (k t task slot : Nat)
  /-- an event of a kiln: kiln, and the link, bell, channel, shelf or unit concerned -/
  | kiln (k n : Nat)
  /-- a drove-list command, or an event of a die: die, slice or shelf, item -/
  | die (d n i : Nat)
  /-- an access, fold, migration or queue by its number -/
  | item (n : Nat)
  /-- a command entry -/
  | command (e : Rec8)
  /-- an input from outside -/
  | input (i : Input)
  deriving DecidableEq, Repr

/-- A 4 KiB unit of on-chip storage that some kiln owns (R56): PA of the unit, its
kiln-relative address (R140), owner, and written since loaded. -/
structure UnitSt where
  pa : Nat
  rel : Nat
  owner : Nat
  dirty : Bool
  deriving DecidableEq, Repr

/-- Bytes whose save write is held (R57): kiln, its shelf, slot offset, bytes, the die and die shelf that they left, and
the fault reported. -/
structure HeldSave where
  kiln : Nat
  shelf : Nat
  off : Nat
  bytes : List Byte
  die : Nat
  at_ : Nat
  uid : Nat
  deriving DecidableEq, Repr

/-- A launch as it retires (R46, R47): its paddock, queue and that queue's home die, its kiln (0: it was never picked), the die and
slice that place an absent unit (no slice: by the rule of folds), its record and its completion word. -/
structure Retiring where
  paddock : Nat
  queue : Nat
  home : Nat
  kiln : Nat
  die : Nat
  slice : Option Nat
  record : Rec8
  word : Nat
  deriving DecidableEq, Repr

/-- A completion word that is held behind a peer port that is down (R426), with the fault's number, and the launches that retire after
it. -/
structure HeldWord where
  uid : Nat
  launch : Retiring
  rest : List Retiring
  deriving DecidableEq, Repr

/-- A captured snapshot (R58, R374): time of capture, the captured kiln, and its accesses that were held or waited. -/
structure Snap where
  kilnId : Nat
  time : Nat
  kiln : Kiln
  accs : List Acc
  deriving DecidableEq, Repr

/-- An on-chip unit that cannot be installed yet (R56, R57): the kiln that needs it, the kiln whose save slot is to be written or
read, where, and the fault of that access. -/
structure UnitMiss where
  kiln : Nat
  who : Nat
  die : Nat
  shelf : Nat
  cause : Nat
  access : Nat
  stage : Nat
  w6 : Nat
  w7 : Nat
  tile : Nat
  space : Nat
  base : Nat
  deriving DecidableEq, Repr

/-- The whole package, the host's registers, and the model's own bookkeeping (`now`, `inbox`, `freeCount`, `cursor`,
`wlog`, the commands, events and answers that wait). -/
structure State where
  mem : List Host.Cell
  wlog : List Host.Cell
  poison : List Nat
  now : Nat
  inbox : List Input
  cursor : Cursor
  freeCount : Nat
  boot : Boot
  bootEnd : Nat
  measure : BitVec 512
  patch : Option (List Byte)
  applied : Option (List Byte)
  cmdBase : Word
  cmdSize : Nat
  cplBase : Word
  cplSize : Nat
  cmdTail : Nat
  cplHead : Nat
  cmdHead : Nat
  cplTail : Nat
  cplWait : List (Word × Word × Nat)
  msix : List Msi
  outstanding : List Outstanding
  replies : List (List Byte)
  paddocks : List Paddock
  queues : List QueueSt
  charges : List Charge
  kilns : List Kiln
  nextKiln : Nat
  nextCharge : Nat
  nextId : Nat
  accs : List Acc
  drovers : List DroverSt
  btus : List BtuSt
  folds : List FoldJob
  units : List UnitSt
  heldSaves : List HeldSave
  heldWords : List HeldWord
  snaps : List Snap
  frames : List FrameSt
  zeroFrames : List Nat
  unitMiss : Option UnitMiss
  migrations : List Migration
  dies : List DieSt
  peers : List PeerPort
  health : List Health
  healthDue : List HealthReading
  frac : Nat
  fluid : Option (Nat × Nat × Nat)
  floors : List (List Nat)
  reading : CapReading
  power : Nat
  modulePower : Bool
  deriving DecidableEq, Repr

/-- Why the model itself stops. -/
inductive Fault where
  /-- An event was executed although it is not due, or names nothing. Raised by the meanings of events; `step` executes
  only events that are due. Safe: no behaviour of the part is claimed for it. -/
  | notDue
  /-- A tile instruction, a drove-list command or a host command was executed with a cursor that names no actor. Raised
  by their shared wrappers; `step` sets the cursor. Safe. -/
  | noActor
  /-- A word fetched for a fired block decodes to no instruction. R403: no accepted charge holds one. Raised by `step`.
  Safe. -/
  | illegalWord
  deriving DecidableEq, Repr

/-- Why the model gives an instruction no meaning. -/
inductive Refusal where
  /-- The instruction has no meaning in this model yet. Raised by `exec` alone. Safe. -/
  | notModelled (mnemonic : String)
  deriving DecidableEq, Repr

/-- A shelf with no power state entered, no telemetry yet and an empty saggar. -/
def ShelfSt.reset (i : Nat) : ShelfSt := ⟨i, 0, 0, none, (0, 0, 0)⟩

/-- A die at power-on: nothing recorded, threshold 1,024 (R160), cap 1,200 W (R378). -/
def DieSt.reset (d : Nat) : DieSt where
  index := d
  faults := []
  deferred := []
  newFaults := 0
  newDeferred := 0
  overflow := 0
  overflowArmed := true
  nextRec := 0
  outstanding := []
  credit := []
  lastQueue := []
  reservations := []
  threshold := 1024
  epochAt := 0
  capMw := 1200000
  halved := 0
  powerMw := 0
  clamped := false
  clampConds := []
  tripped := false
  allot := [0, 0, 0, 0]
  shelves := []
  corrected := []

/-- The package at power-on (R368, R371, R378, R379, R382, R384): nothing booted, no paddock, queue, charge or kiln.
(DESIGN CHOICE, log 17.) -/
def State.reset : State where
  mem := []
  wlog := []
  poison := []
  now := 0
  inbox := []
  cursor := .idle
  freeCount := 0
  boot := .off
  bootEnd := 0
  measure := 0
  patch := none
  applied := none
  cmdBase := 0
  cmdSize := 6
  cplBase := 0
  cplSize := 6
  cmdTail := 0
  cplHead := 0
  cmdHead := 0
  cplTail := 0
  cplWait := []
  msix := []
  outstanding := []
  replies := []
  paddocks := []
  queues := []
  charges := []
  kilns := []
  nextKiln := 1
  nextCharge := 1
  nextId := 1
  accs := []
  drovers := []
  btus := []
  folds := []
  units := []
  heldSaves := []
  heldWords := []
  snaps := []
  frames := []
  zeroFrames := []
  unitMiss := none
  migrations := []
  dies := [DieSt.reset 0, DieSt.reset 1, DieSt.reset 2, DieSt.reset 3]
  peers := []
  health := []
  healthDue := []
  frac := 500
  fluid := none
  floors := []
  reading := ⟨[], [], [], 0, 0, 0, [], []⟩
  power := 0
  modulePower := false

end Sys2Proof.Machine
end

