-- ==== Sys2Proof/Machine/Flags.lean ====
section
/-! DEFINITION. Formats, rounding and the sticky flags: the floating-point formats to the bit (R91 to R93), one rounding
function for every mode (R99, R100, R102), exact sums and products with the special values of R106, and the flags that
each raises (R107). -/

namespace Sys2Proof.Machine

/-- The flags an operation raises: FPFLAGS [0] to [4] and SATFLAG (R107). -/
structure Fl where
  inv : Bool := false
  dz : Bool := false
  ovf : Bool := false
  unf : Bool := false
  inx : Bool := false
  sat : Bool := false
  deriving DecidableEq, Repr

/-- No flag. -/
def Fl.none : Fl := {}

/-- Flags are ORed (R107). -/
def Fl.or (a b : Fl) : Fl :=
  ⟨a.inv || b.inv, a.dz || b.dz, a.ovf || b.ovf, a.unf || b.unf, a.inx || b.inx, a.sat || b.sat⟩

/-- FPFLAGS [4:0] (R107). -/
def Fl.fp (f : Fl) : BitVec 5 :=
  BitVec.ofNat 5 (f.inv.toNat + 2 * f.dz.toNat + 4 * f.ovf.toNat + 8 * f.unf.toNat + 16 * f.inx.toNat)

/-- Only invalid and overflow, as AROW, CMAC and CMUL record (R108, R132). -/
def Fl.invOvf (f : Fl) : Fl := { inv := f.inv, ovf := f.ovf }

/-- The layout of a floating-point format (R91). `ieee`: infinities and NaNs by the all-ones exponent; otherwise E4M3
(`nan` true) or E2M1. -/
structure FF where
  width : Nat
  eb : Nat
  fb : Nat
  bias : Nat
  ieee : Bool
  nan : Bool
  deriving DecidableEq, Repr

def FF.fp16 : FF := ⟨16, 5, 10, 15, true, true⟩
def FF.bf16 : FF := ⟨16, 8, 7, 127, true, true⟩
def FF.fp32 : FF := ⟨32, 8, 23, 127, true, true⟩
def FF.e4m3 : FF := ⟨8, 4, 3, 7, false, true⟩
def FF.e5m2 : FF := ⟨8, 5, 2, 15, true, true⟩
def FF.e2m1 : FF := ⟨4, 2, 1, 1, false, false⟩

/-- The floating-point format of a format code (R91). -/
def FF.ofCode : Nat → Option FF
  | 5 => some .fp16
  | 6 => some .bf16
  | 7 => some .fp32
  | 8 => some .e4m3
  | 9 => some .e5m2
  | _ => none

/-- The width in bits of an element of a format code (R90 to R95); MXFP4 and MXFP8 by their elements (R96). -/
def fmtWidth : Nat → Nat
  | 0 | 1 | 8 | 9 | 0xB | 0xC => 8
  | 2 | 5 | 6 => 16
  | 3 | 7 | 0xD => 32
  | 4 | 0xE => 64
  | 0xA => 4
  | _ => 8

/-- An exact value: a NaN with its sign, quiet bit and fraction, an infinity, or (-1)^s * m * 2^e. -/
inductive FV where
  | nan (s q : Bool) (frac : Nat)
  | inf (s : Bool)
  | fin (s : Bool) (m : Nat) (e : Int)
  deriving DecidableEq, Repr

/-- The sign of a value. -/
def FV.sign : FV → Bool
  | .nan s _ _ | .inf s | .fin s _ _ => s

def FV.isNan : FV → Bool
  | .nan _ _ _ => true
  | _ => false

def FV.isSnan : FV → Bool
  | .nan _ q _ => !q
  | _ => false

def FV.isInf : FV → Bool
  | .inf _ => true
  | _ => false

def FV.isZero : FV → Bool
  | .fin _ 0 _ => true
  | _ => false

/-- The value with its sign inverted (not a NaN's). -/
def FV.neg : FV → FV
  | .nan s q f => .nan s q f
  | .inf s => .inf !s
  | .fin s m e => .fin (!s) m e

/-- The value of a bit pattern (R91). -/
def FF.read (f : FF) (n : Nat) : FV :=
  let s := n / 2 ^ (f.width - 1) % 2 == 1
  let ex := n / 2 ^ f.fb % 2 ^ f.eb
  let fr := n % 2 ^ f.fb
  let top := 2 ^ f.eb - 1
  if f.ieee && ex == top then
    if fr == 0 then .inf s else .nan s (fr / 2 ^ (f.fb - 1) % 2 == 1) fr
  else if !f.ieee && f.nan && ex == top && fr == 2 ^ f.fb - 1 then .nan s true fr
  else if ex == 0 then .fin s fr (1 - (f.bias : Int) - f.fb)
  else .fin s (2 ^ f.fb + fr) ((ex : Int) - f.bias - f.fb)

/-- The sign bit of a format. -/
def FF.sbit (f : FF) (s : Bool) : Nat := if s then 2 ^ (f.width - 1) else 0

/-- The bits below the sign of the largest finite value (R91). -/
def FF.maxMag (f : FF) : Nat :=
  if f.ieee then (2 ^ f.eb - 1) * 2 ^ f.fb - 1
  else if f.nan then 2 ^ (f.eb + f.fb) - 2
  else 2 ^ (f.eb + f.fb) - 1

/-- The default NaN (R91): sign 0, quiet bit set, the rest of the fraction zero; 0x7F in E4M3. -/
def FF.defNan (f : FF) : Nat :=
  if f.ieee then (2 ^ f.eb - 1) * 2 ^ f.fb + 2 ^ (f.fb - 1) else 2 ^ (f.eb + f.fb) - 1

/-- A NaN in a format, from a NaN of a fraction of `srcFb` bits: sign kept, fraction aligned at its top, quiet (R105). -/
def FF.nanFrom (f : FF) (s : Bool) (srcFb frac : Nat) : Nat :=
  if f.ieee then
    let fr := if srcFb ≤ f.fb then frac * 2 ^ (f.fb - srcFb) else frac / 2 ^ (srcFb - f.fb)
    let q := 2 ^ (f.fb - 1)
    f.sbit s + (2 ^ f.eb - 1) * 2 ^ f.fb + (if fr / q % 2 == 1 then fr else fr + q)
  else f.sbit s + (2 ^ (f.eb + f.fb) - 1)

/-- The infinity of a sign. -/
def FF.infBits (f : FF) (s : Bool) : Nat := f.sbit s + (2 ^ f.eb - 1) * 2 ^ f.fb

/-- Whether a truncated magnitude goes up one unit (R99, R100): mode, sign, the truncated value, how the discarded part
compares with half a unit (0: zero, 1: below, 2: half, 3: above), its first 24 bits `d`, and the draw `u`. -/
def roundsUp (mode : Nat) (s : Bool) (t part d u : Nat) : Bool :=
  match mode with
  | 0 => part == 3 || (part == 2 && t % 2 == 1)
  | 1 => false
  | 2 => s && part != 0
  | 3 => !s && part != 0
  | 4 => part == 2 || part == 3
  | _ => d != 0 && 2 ^ 24 - d ≤ u

/-- A positive value m * 2^e (plus less than one unit when `sticky`) truncated to a multiple of 2^q: the multiple, the
class of what is discarded, and its first 24 bits. -/
def truncAt (m : Nat) (e q : Int) (sticky : Bool) : Nat × Nat × Nat :=
  if q ≤ e then (m * 2 ^ (e - q).toNat, if sticky then 1 else 0, 0)
  else
    let k := (q - e).toNat
    let r := m % 2 ^ k
    let part :=
      if r == 0 then (if sticky then 1 else 0)
      else if 2 * r < 2 ^ k then 1
      else if 2 * r == 2 ^ k then (if sticky then 3 else 2)
      else 3
    (m / 2 ^ k, part, r * 2 ^ 24 / 2 ^ k)

/-- What an overflow gives under a mode (R102): an infinity, or the largest finite value. -/
def overflowsToInf (mode : Nat) (s : Bool) : Bool :=
  match mode with
  | 1 => false
  | 2 => s
  | 3 => !s
  | _ => true

/-- The bits and the SATFLAG of an overflow of a sign (R102), for a format, a mode and the saturate bit. -/
def FF.overflow (f : FF) (mode : Nat) (sat s : Bool) : Nat × Bool :=
  let maxv := f.sbit s + f.maxMag
  if f.ieee then
    if overflowsToInf mode s then (if sat then (maxv, true) else (f.infBits s, false)) else (maxv, false)
  else if f.nan then
    if overflowsToInf mode s then (if sat then (maxv, true) else (f.sbit s + (2 ^ (f.eb + f.fb) - 1), false))
    else (maxv, false)
  else (maxv, true)

/-- The unit in the last place of a value of exponent `ex`, in a format with subnormals. -/
def FF.ulp (f : FF) (ex : Int) : Int := max (ex - f.fb) (1 - (f.bias : Int) - f.fb)

/-- RoundToFormat (R99, R100, R102, R106): the exact value (-1)^s * (m * 2^e + sticky) in format `f`. -/
def FF.round (f : FF) (mode : Nat) (sat : Bool) (u : Nat) (s : Bool) (m : Nat) (e : Int) (sticky : Bool) : Nat × Fl :=
  if m == 0 && !sticky then (f.sbit s, {})
  else
    let ex : Int := (Nat.log2 m : Int) + e
    let q := f.ulp ex
    let (t, part, d) := truncAt m e q sticky
    let t' := if roundsUp mode s t part d u then t + 1 else t
    let inx := part != 0
    -- the magnitude rounded with unbounded exponent range (R106)
    let q0 := ex - f.fb
    let (t0, part0, d0) := truncAt m e q0 sticky
    let t0' := if roundsUp mode s t0 part0 d0 u then t0 + 1 else t0
    let emin : Int := 1 - (f.bias : Int)
    let tiny := (Nat.log2 t0' : Int) + q0 < emin
    let bits : Nat :=
      if t' == 0 then 0
      else
        let ex' : Int := (Nat.log2 t' : Int) + q
        if ex' < emin then t'
        else
          let sig := if f.fb ≤ Nat.log2 t' then t' / 2 ^ (Nat.log2 t' - f.fb) else t' * 2 ^ (f.fb - Nat.log2 t')
          (ex' + f.bias).toNat * 2 ^ f.fb + (sig - 2 ^ f.fb)
    if f.maxMag < bits then
      let (b, st) := f.overflow mode sat s
      (b, { ovf := true, inx := true, sat := st })
    else (f.sbit s + bits, { inx := inx, unf := tiny && inx })

/-- RNE without saturation. -/
def FF.rne (f : FF) (s : Bool) (m : Nat) (e : Int) : Nat × Fl := f.round 0 false 0 s m e false

/-- The first NaN among operands, quieted, with the invalid flag of any signalling one (R106). -/
def FF.nanOf (f : FF) (vs : List FV) : Option (Nat × Fl) :=
  match vs.find? FV.isNan with
  | some (.nan s _ fr) => some (f.nanFrom s f.fb fr, { inv := vs.any FV.isSnan })
  | _ => none

/-- The exact sum of two finite values: sign, magnitude and exponent; an exact zero of opposite signs is +0, or -0 when
`rdn` (R106). -/
def exactAdd (rdn : Bool) (s1 : Bool) (m1 : Nat) (e1 : Int) (s2 : Bool) (m2 : Nat) (e2 : Int) : Bool × Nat × Int :=
  if m1 == 0 && m2 == 0 then (if s1 == s2 then s1 else rdn, 0, 0)
  else
    let e := min e1 e2
    let a := m1 * 2 ^ (e1 - e).toNat
    let b := m2 * 2 ^ (e2 - e).toNat
    if s1 == s2 then (s1, a + b, e)
    else if a == b then (rdn, 0, 0)
    else if b < a then (s1, a - b, e)
    else (s2, b - a, e)

/-- The sum of two values that are no NaNs: none for infinity minus infinity. -/
def fvAdd : FV → FV → Option FV
  | .inf s, .inf t => if s == t then some (.inf s) else none
  | .inf s, _ => some (.inf s)
  | _, .inf t => some (.inf t)
  | .fin s1 m1 e1, .fin s2 m2 e2 => let (s, m, e) := exactAdd false s1 m1 e1 s2 m2 e2; some (.fin s m e)
  | a, _ => some a

/-- The product of two values that are no NaNs: none for zero times infinity. -/
def fvMul : FV → FV → Option FV
  | .fin s1 m1 e1, .fin s2 m2 e2 => some (.fin (s1 != s2) (m1 * m2) (e1 + e2))
  | a, b => if a.isZero || b.isZero then none else some (.inf (a.sign != b.sign))

/-- A value that is no NaN, rounded RNE to a format. -/
def FF.ofFV (f : FF) : FV → Nat × Fl
  | .nan s _ fr => (f.nanFrom s f.fb fr, {})
  | .inf s => (if f.ieee then f.infBits s else (f.overflow 0 false s).1, {})
  | .fin s m e => f.rne s m e

/-- The default NaN with invalid. -/
def FF.invalid (f : FF) : Nat × Fl := (f.defNan, { inv := true })

/-- a + b, rounded once (R259, R106); `nb` negates b. -/
def FF.add (f : FF) (nb : Bool) (a b : Nat) : Nat × Fl :=
  let x := f.read a
  let y := f.read b
  match f.nanOf [x, y] with
  | some r => r
  | none =>
    match fvAdd x (if nb then y.neg else y) with
    | some v => f.ofFV v
    | none => f.invalid

/-- a * b, rounded once (R259, R106). -/
def FF.mul (f : FF) (a b : Nat) : Nat × Fl :=
  let x := f.read a
  let y := f.read b
  match f.nanOf [x, y] with
  | some r => r
  | none =>
    match fvMul x y with
    | some v => f.ofFV v
    | none => f.invalid

/-- (np ? -(a*b) : a*b) + (nc ? -c : c), rounded once (R259); zero times infinity sets invalid even beside a NaN
addend (R106). -/
def FF.fma (f : FF) (np nc : Bool) (a b c : Nat) : Nat × Fl :=
  let x := f.read a
  let y := f.read b
  let z := f.read c
  let bad := (x.isZero && y.isInf) || (x.isInf && y.isZero)
  match f.nanOf [x, y, z] with
  | some (r, fl) => (r, { fl with inv := fl.inv || bad })
  | none =>
    match fvMul x y with
    | none => f.invalid
    | some p =>
      match fvAdd (if np then p.neg else p) (if nc then z.neg else z) with
      | some v => f.ofFV v
      | none => f.invalid

/-- The order of two values that are no NaNs: -1, 0 or 1; -0 = +0. -/
def fvCmp (a b : FV) : Int :=
  match a, b with
  | .inf s, .inf t => if s == t then 0 else if s then -1 else 1
  | .inf s, _ => if s then -1 else 1
  | _, .inf t => if t then 1 else -1
  | .fin s1 m1 e1, .fin s2 m2 e2 =>
    let e := min e1 e2
    let x : Int := (m1 * 2 ^ (e1 - e).toNat : Nat)
    let y : Int := (m2 * 2 ^ (e2 - e).toNat : Nat)
    let x := if s1 then -x else x
    let y := if s2 then -y else y
    if x < y then -1 else if x == y then 0 else 1
  | _, _ => 0

/-- VFMIN and VFMAX (R260): one NaN gives the other operand, -0 counts below +0, and the result is an operand. -/
def FF.minMax (f : FF) (isMax : Bool) (a b : Nat) : Nat × Fl :=
  let x := f.read a
  let y := f.read b
  let fl : Fl := { inv := x.isSnan || y.isSnan }
  match x.isNan, y.isNan with
  | true, true => ((f.nanOf [x, y]).map Prod.fst |>.getD f.defNan, fl)
  | true, false => (b, fl)
  | false, true => (a, fl)
  | false, false =>
    let c := fvCmp x y
    let aFirst := if c == 0 then (if isMax then !x.sign else x.sign) else if isMax then c == 1 else c == -1
    (if aFirst then a else b, fl)

/-- The condition of VFCMP and its invalid flag (R262). -/
def FF.cmp (f : FF) (cc : Nat) (a b : Nat) : Bool × Fl :=
  let x := f.read a
  let y := f.read b
  let un := x.isNan || y.isNan
  let sn := x.isSnan || y.isSnan
  let c := fvCmp x y
  match cc with
  | 0 => (!un && c == 0, { inv := sn })
  | 1 => (un || c != 0, { inv := sn })
  | 2 => (!un && c == -1, { inv := un })
  | 3 => (!un && c != 1, { inv := un })
  | 4 => (!un && c == 1, { inv := un })
  | 5 => (!un && c != -1, { inv := un })
  | 6 => (un, { inv := sn })
  | _ => (!un, { inv := sn })

/-- The class bit of a lane (R263). -/
def FF.classOf (f : FF) (a : Nat) : Nat :=
  match f.read a with
  | .nan _ q _ => if q then 1 else 0
  | .inf s => if s then 2 else 9
  | .fin s 0 _ => if s then 5 else 6
  | .fin s _ _ =>
    let sub := a / 2 ^ f.fb % 2 ^ f.eb == 0
    if s then (if sub then 4 else 3) else (if sub then 7 else 8)

end Sys2Proof.Machine
end

