-- ==== Sys2Proof/Machine/Convert.lean ====
section
/-! DEFINITION. Conversions between formats (R99 to R105), P2P8 (R93, R94), MX blocks (R92, R109, R110), integral
rounding (R114), and the generator (R101). -/

namespace Sys2Proof.Machine

/-- An integer format's bounds (R90): INT8, UINT8, INT16, INT32. -/
def intBounds : Nat → Option (Int × Int)
  | 0 => some (-128, 127)
  | 1 => some (0, 255)
  | 2 => some (-32768, 32767)
  | 3 => some (-2147483648, 2147483647)
  | _ => none

/-- A lane of an integer format as a number: UINT8 unsigned, the others signed (R257). -/
def intRead (fmt n : Nat) : Int :=
  if fmt == 1 then (n % 256 : Nat) else sextInt (fmtWidth fmt) n

/-- The low `w` bits of an integer. -/
def intBits (w : Nat) (v : Int) : Nat := (v % (2 ^ w : Nat)).toNat

/-- Clamping to an integer format's range, and whether it clamped. -/
def intClamp (fmt : Nat) (v : Int) : Int × Bool :=
  match intBounds fmt with
  | some (lo, hi) => if v < lo then (lo, true) else if hi < v then (hi, true) else (v, false)
  | none => (v, false)

/-- A finite value rounded to an integer by a mode (R99, R100, R103): the integer and whether it is inexact. -/
def roundInt (mode u : Nat) (s : Bool) (m : Nat) (e : Int) : Int × Bool :=
  let (t, part, d) := truncAt m e 0 false
  let t' := if roundsUp mode s t part d u then t + 1 else t
  (if s then -(t' : Int) else t', part != 0)

/-- The values of R93 in units of 2^-6: a single power of two, a sum, or a difference, each as (S1, K1, S2, K2) for a
positive value, in canonical form (R94); none if the number is no member. -/
def p2Code (n : Nat) : Option Nat :=
  if n == 0 then some 0x77
  else
    let ks := [0, 1, 2, 3, 4, 5, 6]
    let w := fun k : Nat => 2 ^ (6 - k)
    match ks.find? (fun a => w a == n) with
    | some a => some (a * 16 + 7)
    | none =>
      let pairs := ks.flatMap fun a => ks.map fun b => (a, b)
      match pairs.find? (fun p => p.1 ≤ p.2 && w p.1 + w p.2 == n) with
      | some (a, b) => some (a * 16 + b)
      | none =>
        match pairs.find? (fun p => p.1 < p.2 && w p.1 == n + w p.2) with
        | some (a, b) => some (a * 16 + 8 + b)
        | none => none

/-- The value of a P2P8 byte in units of 2^-6 (R93); a term with K = 7 is zero whatever its sign (R409). -/
def p2Val (n : Nat) : Int :=
  let term := fun (s k : Nat) => if k == 7 then (0 : Int) else if s == 1 then -((2 ^ (6 - k) : Nat) : Int) else (2 ^ (6 - k) : Nat)
  term (n / 128 % 2) (n / 16 % 8) + term (n / 8 % 2) (n % 8)

/-- The encoding of a signed member of the P2P8 value set (R94). -/
def p2Encode (s : Bool) (n : Nat) : Nat :=
  match p2Code n with
  | some c =>
    if !s || n == 0 then c
    else
      let k2 := c % 8
      let c1 := c + 128
      if k2 == 7 then c1 else if c / 8 % 2 == 1 then c1 - 8 else c1 + 8
  | none => 0x77

/-- Conversion to P2P8 of a value already divided by the block's scale (R94).
(DEDUCED, log 33.) -/
def p2Convert (mode u : Nat) : FV → Nat × Fl
  | .nan _ _ _ => (0x77, { inv := true })
  | .inf s => (p2Encode s 128, { ovf := true, sat := true })
  | .fin s m e =>
    -- the magnitude in units of 2^-6 is m * 2^(e+6)
    let k := e + 6
    let exact := fun n : Nat => if 0 ≤ k then n == m * 2 ^ k.toNat else n * 2 ^ (-k).toNat == m
    let le := fun n : Nat => if 0 ≤ k then n ≤ m * 2 ^ k.toNat else n * 2 ^ (-k).toNat ≤ m
    if le 128 then (p2Encode s 128, if exact 128 then {} else { inx := true, sat := true })
    else
      let lo := (List.range 128).foldl (fun acc n => if (p2Code n).isSome && le n then n else acc) 0
      if exact lo then (p2Encode s lo, {})
      else
        let hi := ((List.range 129).find? fun n => lo < n && (p2Code n).isSome).getD 128
        -- the position within [lo, hi]: twice the numerator against the width, and the 24-bit fraction
        let sc : Nat := if 0 ≤ k then 1 else 2 ^ (-k).toNat
        let num : Nat := (if 0 ≤ k then m * 2 ^ k.toNat else m) - lo * sc
        let den : Nat := (hi - lo) * sc
        let up : Bool := match mode with
          | 0 => den < 2 * num
          | 1 => false
          | 2 => s
          | 3 => !s
          | 4 => den ≤ 2 * num
          | _ => decide (u < num * 2 ^ 24 / den)
        (p2Encode s (if up then hi else lo), { inx := true })

/-- The floating value of an element of a format code: integers exactly, P2P8 by R93. -/
def fmtRead (fmt n : Nat) : FV :=
  match FF.ofCode fmt with
  | some f => f.read n
  | none =>
    if fmt == 0xC then let v := p2Val n; .fin (v < 0) v.natAbs (-6)
    else if fmt == 0xB then FF.e4m3.read n
    else if fmt == 0xA then FF.e2m1.read n
    else let v := intRead fmt n; .fin (v < 0) v.natAbs 0

/-- The fraction width of a format's NaNs (R92, R105): the elements of MXFP8 are E4M3. -/
def fmtFrac (fmt : Nat) : Nat := (if fmt == 0xB then some FF.e4m3 else FF.ofCode fmt).elim 23 FF.fb

/-- Conversion of a value to a floating-point format (R102, R105); `frac` is the source's fraction width. -/
def toFloat (f : FF) (mode : Nat) (sat : Bool) (u frac : Nat) (v : FV) : Nat × Fl :=
  match v with
  | .nan s q fr => (f.nanFrom s frac fr, { inv := !q })
  | .inf s =>
    if f.ieee then (f.infBits s, {})
    else let (b, st) := f.overflow mode sat s; (b, { ovf := true, sat := st })
  | .fin s m e => f.round mode sat u s m e false

/-- Conversion of a floating value to an integer format (R103). -/
def toInt (fmt mode : Nat) (sat : Bool) (u : Nat) (v : FV) : Nat × Fl :=
  let w := fmtWidth fmt
  match intBounds fmt with
  | none => (0, {})
  | some (lo, hi) =>
    let bad := fun (bound : Int) =>
      if sat then (intBits w bound, ({ inv := true, sat := true } : Fl))
      else (intBits w lo, { inv := true })
    match v with
    | .nan _ _ _ => if sat then (0, { inv := true, sat := true }) else (intBits w lo, { inv := true })
    | .inf s => bad (if s then lo else hi)
    | .fin s m e =>
      let (n, inx) := roundInt mode u s m e
      if n < lo then bad lo else if hi < n then bad hi else (intBits w n, { inx := inx })

/-- Convert one element (R99 to R105): formats, mode, saturate bit, draw. -/
def convert (src dst mode : Nat) (sat : Bool) (u n : Nat) : Nat × Fl :=
  match intBounds src, intBounds dst with
  | some _, some (lo, hi) =>
    let v := intRead src n
    if lo ≤ v && v ≤ hi then (intBits (fmtWidth dst) v, {})
    else if sat then (intBits (fmtWidth dst) (intClamp dst v).1, { sat := true })
    else (intBits (fmtWidth dst) v, {})
  | none, some _ => toInt dst mode sat u (fmtRead src n)
  | _, none =>
    match FF.ofCode dst with
    | some f => toFloat f mode sat u (fmtFrac src) (fmtRead src n)
    | none => if dst == 0xC then p2Convert mode u (fmtRead src n) else (n, {})

/-- Conversion of one element of a drove list or the STU: a complex element part by part (R352).
(DESIGN CHOICE, log 143.) -/
def convertElem (src dst mode : Nat) (sat : Bool) (n : Nat) : Nat :=
  if fmtComplex src then
    let part := fun f => if f == 0xD then 6 else 7
    let ws := fmtWidth (part src)
    let wd := fmtWidth (part dst)
    (convert (part src) (part dst) mode sat 0 (n % 2 ^ ws)).1 + (convert (part src) (part dst) mode sat 0 (n / 2 ^ ws % 2 ^ ws)).1 * 2 ^ wd
  else (convert src dst mode sat 0 n).1

/-- VRINT of a lane (R114): the integral value in its own format, the sign of a zero kept. -/
def FF.rint (f : FF) (mode u a : Nat) : Nat × Fl :=
  match f.read a with
  | .nan s q fr => (f.nanFrom s f.fb fr, { inv := !q })
  | .inf _ => (a, {})
  | .fin s m e =>
    let (n, _) := roundInt mode u s m e
    ((f.round 0 false 0 s n.natAbs 0 false).1, {})

/-- An E8M0 scale as a power of two; none for 0xFF (R92). -/
def e8m0 (n : Nat) : Option Int := if n % 256 == 255 then none else some ((n % 256 : Nat) - 127)

/-- A value times a power of two, exactly. -/
def FV.scale (k : Int) : FV → FV
  | .fin s m e => .fin s m (e + k)
  | v => v

/-- The block scale of VQNT (R109, R409): the scale code and whether the elements are all written +0. -/
def mxScale (emax : Int) (vs : List FV) : Nat × Bool :=
  if vs.any (fun v => v.isNan || v.isInf) then (0xFF, true)
  else if vs.all FV.isZero then (0, true)
  else
    let lg := vs.filterMap fun v => match v with
      | .fin _ 0 _ => none
      | .fin _ m e => some ((Nat.log2 m : Int) + e)
      | _ => none
    let top := lg.foldl max (lg.headD 0)
    ((max 0 (min 254 (top - emax + 127))).toNat, false)

/-- The conversion of one element of an MX block by its target format (R109). -/
def mxElem (dst mode : Nat) (sat : Bool) (u frac : Nat) (v : FV) : Nat × Fl :=
  match dst with
  | 0xA => toFloat .e2m1 mode sat u frac v
  | 0xB => toFloat .e4m3 mode sat u frac v
  | _ => p2Convert mode u v

/-- emax of an MX target (R109). -/
def mxEmax : Nat → Int
  | 0xA => 2
  | 0xB => 8
  | _ => 0

/-- One round of Philox4x32 (R101). -/
def philoxRound (k0 k1 : Nat) (c : Nat × Nat × Nat × Nat) : Nat × Nat × Nat × Nat :=
  let p := 0xD2511F53 * c.1
  let q := 0xCD9E8D57 * c.2.2.1
  (Nat.xor (Nat.xor (q / 2 ^ 32) c.2.1) k0, q % 2 ^ 32, Nat.xor (Nat.xor (p / 2 ^ 32) c.2.2.2) k1, p % 2 ^ 32)

/-- The rounds of Philox4x32 with the key schedule (R101). -/
def philoxRounds : Nat → Nat → Nat → Nat × Nat × Nat × Nat → Nat × Nat × Nat × Nat
  | 0, _, _, c => c
  | n + 1, k0, k1, c => philoxRounds n ((k0 + 0x9E3779B9) % 2 ^ 32) ((k1 + 0xBB67AE85) % 2 ^ 32) (philoxRound k0 k1 c)

/-- One draw: the four 32-bit words (R101). -/
def philox (key : Word) (ctr : BitVec 128) : List Nat :=
  let c := ctr.toNat
  let r := philoxRounds 10 (key.toNat % 2 ^ 32) (key.toNat / 2 ^ 32)
    (c % 2 ^ 32, c / 2 ^ 32 % 2 ^ 32, c / 2 ^ 64 % 2 ^ 32, c / 2 ^ 96)
  [r.1, r.2.1, r.2.2.1, r.2.2.2]

/-- The 24-bit values of `n` draws in order (R101). -/
def drawUs (key : Word) : Nat → BitVec 128 → List Nat
  | 0, _ => []
  | n + 1, ctr => (philox key ctr).map (· % 2 ^ 24) ++ drawUs key n (ctr + 1)

end Sys2Proof.Machine
end

