-- ==== Sys2Proof/Machine/Operands.lean ====
section
/-! DEFINITION. Tokens and lanes: how an operand of either plane is read (R62, R63, R223), the lanes of a payload (R96),
and the tokens that results travel in (R224, R253, R278). -/

namespace Sys2Proof.Machine

/-! Control-plane tokens. -/

/-- A value token (KIND 0). -/
def CTok.value (v : Word) : CTok := ⟨0, 0, v, []⟩
/-- A stop token (KIND 1) of a level. -/
def CTok.stop (lv : BitVec 3) : CTok := ⟨1, lv, 0, []⟩
/-- An order token (KIND 2). -/
def CTok.order : CTok := ⟨2, 0, 0, []⟩
/-- A raddle (KIND 3). -/
def CTok.raddle : CTok := ⟨3, 0, 0, []⟩
/-- A predicate token (KIND 4). -/
def CTok.pred (b : Bool) : CTok := ⟨4, 0, if b then 1 else 0, []⟩

/-! Data-plane tokens. -/

/-- A record of WEIGHT 1, SEQ 0 and NARROW 0 (R64). -/
def DTok.record (pay : Payload) (domain : Bool) : DTok := ⟨0, 0, false, domain, 1, 0, pay, []⟩
/-- A stop token. -/
def DTok.stop (lv : BitVec 3) : DTok := ⟨1, lv, false, false, 0, 0, 0, []⟩
/-- A raddle. -/
def DTok.raddle : DTok := ⟨3, 0, false, false, 0, 0, 0, []⟩
/-- A void record (R67). -/
def DTok.void (err domain : Bool) (seq : BitVec 23) : DTok := ⟨4, 0, false, domain, 0, seq, if err then 1 else 0, []⟩
/-- A gap token (R66). -/
def DTok.gap (g : Gap) : DTok :=
  ⟨2, 0, false, false, 0, BitVec.ofNat 23 g.first,
    BitVec.ofNat 128 (min g.lost (2 ^ 32 - 1) * 2 ^ 96 + min g.wlost (2 ^ 32 - 1) * 2 ^ 64 + g.first % 2 ^ 23 * 2 ^ 41 + g.last % 2 ^ 23 * 2 ^ 18), []⟩

/-- The fields of a gap token's payload (R66). -/
def DTok.gapFields (t : DTok) : Gap :=
  let n := t.pay.toNat
  ⟨fld n 96 32, fld n 64 32, fld n 41 23, fld n 18 23⟩

def DTok.isRecord (t : DTok) : Bool := t.kind == 0
def DTok.isStop (t : DTok) : Bool := t.kind == 1
def DTok.isGap (t : DTok) : Bool := t.kind == 2
def DTok.isRaddle (t : DTok) : Bool := t.kind == 3
def DTok.isVoid (t : DTok) : Bool := t.kind == 4
def CTok.isStop (t : CTok) : Bool := t.kind == 1
def CTok.isRaddle (t : CTok) : Bool := t.kind == 3

/-- The 48-bit sideband of a data-plane token (R62). -/
def DTok.side (t : DTok) : Nat :=
  t.kind.toNat * 2 ^ 44 + t.level.toNat * 2 ^ 41 + t.narrow.toNat * 2 ^ 40 + t.domain.toNat * 2 ^ 39 + t.weight.toNat * 2 ^ 23 + t.seq.toNat

/-- A data-plane token from its payload and sideband (R62, R312). -/
def DTok.ofSide (pay : Payload) (n : Nat) : DTok :=
  ⟨BitVec.ofNat 4 (fld n 44 4), BitVec.ofNat 3 (fld n 41 3), fld n 40 1 == 1, fld n 39 1 == 1, BitVec.ofNat 16 (fld n 23 16), BitVec.ofNat 23 n, pay, []⟩

/-! Tokens of either plane. -/

def Tok.deps : Tok → List Nat
  | .ctl t => t.deps
  | .data t => t.deps

/-- The token with other ghost dependences (R177). -/
def Tok.withDeps (d : List Nat) : Tok → Tok
  | .ctl t => .ctl { t with deps := d }
  | .data t => .data { t with deps := d }

/-- True for the data plane. -/
def Tok.plane : Tok → Bool
  | .ctl _ => false
  | .data _ => true

def Tok.kind : Tok → BitVec 4
  | .ctl t => t.kind
  | .data t => t.kind

def Tok.level : Tok → BitVec 3
  | .ctl t => t.level
  | .data t => t.level

def Tok.isStop (t : Tok) : Bool := t.kind == 1
def Tok.isRaddle (t : Tok) : Bool := t.kind == 3

/-- A stop token of level 7. -/
def Tok.isStop7 (t : Tok) : Bool := t.isStop && t.level == 7

/-- The value that a keep register or a signal takes from a token (R25): the 64-bit value, or the payload. -/
def Tok.value : Tok → Payload
  | .ctl t => t.val.setWidth 128
  | .data t => t.pay

/-- The low 64 bits of a token's value, as fault records show it. -/
def Tok.word (t : Tok) : Word := t.value.setWidth 64

/-- An order token. -/
def Tok.order : Tok := .ctl CTok.order
/-- A value token. -/
def Tok.val (v : Word) : Tok := .ctl (CTok.value v)
/-- A predicate token. -/
def Tok.pred (b : Bool) : Tok := .ctl (CTok.pred b)
/-- A stop token in a plane. -/
def Tok.stop (data : Bool) (lv : BitVec 3) : Tok := if data then .data (DTok.stop lv) else .ctl (CTok.stop lv)

/-! Lanes. -/

/-- Lane `i` of width `w` (R96). -/
def lane (w : Nat) (p : Payload) (i : Nat) : Nat := fld p.toNat (w * i) w

/-- All lanes of width `w`, lane 0 first. -/
def lanes (w : Nat) (p : Payload) : List Nat := (List.range (128 / w)).map (lane w p)

/-- The number whose lanes of width `w` are given, lane 0 lowest. -/
def packLanes (w : Nat) : List Nat → Nat
  | [] => 0
  | x :: xs => x % 2 ^ w + 2 ^ w * packLanes w xs

/-- The payload with these lanes. -/
def ofLanes (w : Nat) (xs : List Nat) : Payload := BitVec.ofNat 128 (packLanes w xs)

/-- The payload with lane `i` replaced. -/
def setLane (w : Nat) (p : Payload) (i v : Nat) : Payload := ofLanes w ((lanes w p).set i v)

/-- The little-endian bytes of a payload. -/
def payBytes (p : Payload) : List Byte := leBytes 16 p.toNat

/-- The payload that sixteen bytes make. -/
def payOf (bs : List Byte) : Payload := BitVec.ofNat 128 (leNat bs)

/-- Lane-wise results with their flags ORed. -/
def foldFlags (rs : List (Nat × Fl)) : List Nat × Fl :=
  (rs.map Prod.fst, rs.foldl (fun acc r => acc.or r.2) {})

/-- Signed(x) (R226). -/
def signed (x : Word) : Int := x.toInt

/-- Sext of a `w`-bit field to 64 bits (R226). -/
def sext {w : Nat} (x : BitVec w) : Word := x.signExtend 64

/-- Win(s) comparison of R65: `a` precedes `b`. -/
def seqBefore (a b : Nat) : Bool :=
  let d := (b + 2 ^ 23 - a % 2 ^ 23) % 2 ^ 23
  1 ≤ d && d ≤ 2 ^ 22 - 1

end Sys2Proof.Machine
end

