-- ==== Sys2Proof/Machine/Ops.lean ====
section
/-! DEFINITION. The named operations over the state: memory and the step's store log, kilns and tiles, on-chip storage
and its units (R56, R57), translation and frame placement (R155 to R159), fault records (R413, R414, R419), stopping a
kiln (R385, R386), which is how this machine takes an exception, and completion entries (R369, R370). -/

namespace Sys2Proof.Machine

/-! Memory. -/

/-- The byte at an address; an address that is not listed reads 0.
(DESIGN CHOICE, log 1.) -/
def Mem.read : List Host.Cell → Nat → Byte
  | [], _ => 0
  | (x, b) :: r, a => if x = a then b else Mem.read r a

/-- Write one byte, keeping the canonical form: writing 0 removes the entry. -/
def Mem.write : List Host.Cell → Nat → Byte → List Host.Cell
  | [], a, b => if b = 0 then [] else [(a, b)]
  | (x, v) :: r, a, b =>
    if a < x then (if b = 0 then (x, v) :: r else (a, b) :: (x, v) :: r)
    else if a = x then (if b = 0 then r else (a, b) :: r)
    else (x, v) :: Mem.write r a b

/-- Every address is above `lo`, addresses rise strictly, and no entry is 0. -/
def Mem.wfFrom (lo : Nat) : List Host.Cell → Bool
  | [] => true
  | (x, b) :: r => decide (lo ≤ x) && b != 0 && Mem.wfFrom (x + 1) r

/-- The canonical form of memory. -/
def Mem.wf (m : List Host.Cell) : Bool := Mem.wfFrom 0 m

/-- A log of writes, newest first, applied oldest first. -/
def Mem.apply (m : List Host.Cell) : List Host.Cell → List Host.Cell
  | [] => m
  | (a, b) :: r => Mem.write (Mem.apply m r) a b

/-- The byte at a PA as the step under way sees it: its own writes over memory. -/
def State.byte (s : State) (a : Nat) : Byte :=
  match s.wlog.find? (fun c => c.1 == a) with
  | some c => c.2
  | none => Mem.read s.mem a

/-- Store one byte. -/
def State.poke (s : State) (a : Nat) (b : Byte) : State := { s with wlog := (a, b) :: s.wlog }

/-- `n` bytes from an address. -/
def State.bytes (s : State) (a n : Nat) : List Byte := (List.range n).map fun i => s.byte (a + i)

/-- A little-endian number of `n` bytes. -/
def State.num (s : State) (a n : Nat) : Nat := leNat (s.bytes a n)

/-- Store bytes at listed addresses. -/
def State.pokeAt (s : State) : List (Nat × Byte) → State
  | [] => s
  | (a, b) :: r => (s.poke a b).pokeAt r

/-- Store bytes from an address on; a granule written whole loses its poison (R421). -/
def State.pokes (s : State) (a : Nat) (bs : List Byte) : State :=
  let s := s.pokeAt ((List.range bs.length).zip bs |>.map fun p => (a + p.1, p.2))
  { s with poison := s.poison.filter fun g => !(a ≤ 16 * g && 16 * g + 16 ≤ a + bs.length) }

/-- Granules that one write covers whole lose their poison (R421). -/
def State.cleanse (s : State) (as : List Nat) : State :=
  { s with poison := s.poison.filter fun g => !((List.range 16).all fun i => as.contains (16 * g + i)) }

/-- Whether any granule of `n` bytes from `a` is poisoned (R421). -/
def State.poisoned (s : State) (a n : Nat) : Bool := s.poison.any fun g => a < 16 * g + 16 && 16 * g < a + n

/-- The first poisoned granule that `n` bytes from `a` reach: its address (R421). -/
def State.poisonIn (s : State) (a n : Nat) : Option Nat :=
  ((List.range ((a + n - 1) / 16 + 1 - a / 16)).map fun i => 16 * (a / 16 + i)).find? fun g => s.poisoned g 16

/-- The addresses in [lo, hi) at which something is listed or has been written in this step. -/
def State.cellsIn (s : State) (lo hi : Nat) : List Nat :=
  (s.mem ++ s.wlog).filterMap fun c => if lo ≤ c.1 && c.1 < hi then some c.1 else none

/-- Zero a range. -/
def State.wipe (s : State) (lo hi : Nat) : State :=
  { s.pokeAt ((s.cellsIn lo hi).map fun a => (a, 0)) with poison := s.poison.filter fun g => !(lo ≤ 16 * g && 16 * g + 16 ≤ hi) }

/-- The end of a step: its writes go to memory, the log is empty. -/
def State.commit (s0 s1 : State) : State := { s1 with mem := Mem.apply s0.mem s1.wlog, wlog := [] }

/-- Run a total effect as one step. -/
def State.run (s : State) (f : State → State) : Host.Outcome State Fault Refusal :=
  .next (s.commit (f { s with wlog := [] }))

/-! Time. One unit is 1/504 ns. -/

/-- Units of time in one nanosecond and one microsecond.
(DESIGN CHOICE, log 2.) -/
def tNs : Nat := 504
def tUs : Nat := 504000

/-- The period of a clock spine (R10, R203): 1.8 GHz - 0.2 GHz x code. -/
def spinePeriod (s : Nat) : Nat := 2520 / (9 - min 7 s)

/-- A free latency of the next draw. -/
def State.draw (s : State) : Nat × State := (Config.freeDelay s.freeCount, { s with freeCount := s.freeCount + 1 })

/-- A fresh number for an access, record, fold or migration.
(DESIGN CHOICE, log 6.) -/
def State.fresh (s : State) : Nat × State := (s.nextId, { s with nextId := s.nextId + 1 })

/-- FWSVC TIME: ns since the end of boot (R249, R382). -/
def State.timeNs (s : State) : Nat := (s.now - s.bootEnd) / tNs

/-! Lookups and updates. -/

def updateWhere {α : Type} (p : α → Bool) (f : α → α) (l : List α) : List α := l.map fun x => if p x then f x else x

def State.kiln? (s : State) (k : Nat) : Option Kiln := s.kilns.find? fun x => x.id == k
def State.setKiln (s : State) (kl : Kiln) : State := { s with kilns := updateWhere (fun x => x.id == kl.id) (fun _ => kl) s.kilns }
def State.modKiln (s : State) (k : Nat) (f : Kiln → Kiln) : State := { s with kilns := updateWhere (fun x => x.id == k) f s.kilns }

/-- A task with nothing declared (R37, R101, R107 give the zeros of placement). -/
def TaskSt.blank : TaskSt := ⟨.absent, 0, 0, 0, false, 0, 0, [0, 0, 0, 0, 0, 0, 0, 0], [], false, false⟩

/-- A tile at placement, unconfigured: VECTOR mode, spine 0, no tasks (R203). -/
def TileSt.fresh (id now : Nat) : TileSt where
  id := id
  cyc := 0
  cycAt := now
  ctlIssued := false
  dataIssued := false
  fired := false
  ended := []
  mode := 0
  bsize := 0
  spine := 0
  fmt := [0, 0, 0, 0]
  conv := [0, 0, 0, 0]
  lastTask := 7
  bank := 0
  bankAt := 0
  bankFmt := []
  divFree := 0
  rowsDone := []
  arowAt := none
  ringsDone := []
  keepNos := []
  wickets := []
  full := []
  tags := []
  arrived := []
  elems := 0
  tasks := List.replicate 8 TaskSt.blank
  execs := []
  nextNo := 0
  step4 := none
  usedC := []
  usedE := []
  tick := none
  wport := none
  rport := none
  tileSaved := false

def Kiln.tile? (k : Kiln) (t : Nat) : Option TileSt := k.tiles.find? fun x => x.id == t
def Kiln.tileD (k : Kiln) (t : Nat) : TileSt := (k.tile? t).getD (TileSt.fresh t k.startedAt)
def Kiln.setTile (k : Kiln) (t : TileSt) : Kiln :=
  if k.tiles.any fun x => x.id == t.id then { k with tiles := updateWhere (fun x => x.id == t.id) (fun _ => t) k.tiles }
  else { k with tiles := k.tiles ++ [t] }
def TileSt.task (t : TileSt) (i : Nat) : TaskSt := t.tasks.getD i TaskSt.blank
def TileSt.setTask (t : TileSt) (i : Nat) (x : TaskSt) : TileSt := { t with tasks := t.tasks.set i x }
def TileSt.exec? (t : TileSt) (task : Nat) : Option Exec := t.execs.find? fun e => e.task == task
def TileSt.setExec (t : TileSt) (e : Exec) : TileSt := { t with execs := updateWhere (fun x => x.task == e.task) (fun _ => e) t.execs }
def Exec.pend? (e : Exec) (slot : Nat) : Option Pending := e.pend.find? fun p => p.slot == slot
def Exec.setPend (e : Exec) (p : Pending) : Exec := { e with pend := updateWhere (fun x => x.slot == p.slot) (fun _ => p) e.pend }

def State.modTile (s : State) (k t : Nat) (f : TileSt → TileSt) : State := s.modKiln k fun kl => kl.setTile (f (kl.tileD t))
def State.modExec (s : State) (k t task : Nat) (f : Exec → Exec) : State :=
  s.modTile k t fun tl => { tl with execs := updateWhere (fun x => x.task == task) f tl.execs }
def State.modPend (s : State) (k t task slot : Nat) (f : Pending → Pending) : State :=
  s.modExec k t task fun e => { e with pend := updateWhere (fun x => x.slot == slot) f e.pend }
def State.modTask (s : State) (k t task : Nat) (f : TaskSt → TaskSt) : State :=
  s.modTile k t fun tl => tl.setTask task (f (tl.task task))
def State.modLink (s : State) (k l : Nat) (f : LinkSt → LinkSt) : State :=
  s.modKiln k fun kl => { kl with links := kl.links.modify l f }

def State.paddock? (s : State) (p : Nat) : Option Paddock := s.paddocks.find? fun x => x.index == p
def State.modPaddock (s : State) (p : Nat) (f : Paddock → Paddock) : State :=
  { s with paddocks := updateWhere (fun x => x.index == p) f s.paddocks }
def State.queue? (s : State) (q : Nat) : Option QueueSt := s.queues.find? fun x => x.index == q
def State.modQueue (s : State) (q : Nat) (f : QueueSt → QueueSt) : State :=
  { s with queues := updateWhere (fun x => x.index == q) f s.queues }
def State.charge? (s : State) (c : Nat) : Option Charge := s.charges.find? fun x => x.id == c
def State.image? (s : State) (c : Nat) : Option Image := (s.charge? c).map Charge.image
def State.die (s : State) (d : Nat) : DieSt := (s.dies.find? fun x => x.index == d).getD (DieSt.reset d)
def State.modDie (s : State) (d : Nat) (f : DieSt → DieSt) : State := { s with dies := updateWhere (fun x => x.index == d) f s.dies }
def DieSt.shelf (d : DieSt) (i : Nat) : ShelfSt := (d.shelves.find? fun x => x.index == i).getD (ShelfSt.reset i)
def DieSt.setShelf (d : DieSt) (x : ShelfSt) : DieSt :=
  if d.shelves.any fun y => y.index == x.index then { d with shelves := updateWhere (fun y => y.index == x.index) (fun _ => x) d.shelves }
  else { d with shelves := d.shelves ++ [x] }

/-- The value of a counter; one that is not listed is zero (R372). -/
def Paddock.counter (p : Paddock) (c : Nat) : Word := ((p.counters.find? fun x => x.1 == c).map Prod.snd).getD 0
def Paddock.setCounter (p : Paddock) (c : Nat) (v : Word) : Paddock :=
  let rest := p.counters.filter fun x => x.1 != c
  { p with counters := if v = 0 then rest else rest ++ [(c, v)] }

def State.drover (s : State) (d n : Nat) : DroverSt := (s.drovers.find? fun x => x.die == d && x.slice == n).getD ⟨d, n, none, []⟩
def State.setDrover (s : State) (x : DroverSt) : State :=
  let rest := s.drovers.filter fun y => !(y.die == x.die && y.slice == x.slice)
  { s with drovers := if x.run.isNone && x.queue.isEmpty then rest else rest ++ [x] }
def State.btu (s : State) (d n : Nat) : BtuSt := (s.btus.find? fun x => x.die == d && x.shelf == n).getD ⟨d, n, []⟩
def State.setBtu (s : State) (x : BtuSt) : State :=
  let rest := s.btus.filter fun y => !(y.die == x.die && y.shelf == x.shelf)
  { s with btus := if x.copies.isEmpty then rest else rest ++ [x] }

/-! Where a kiln stands. -/

/-- The die of a kiln's placement. -/
def Kiln.die (k : Kiln) : Nat := (k.place.map fun p => p.1).getD 0

/-- The die shelf of a kiln-relative shelf (R49). -/
def Kiln.shelfAt (k : Kiln) (p : Nat × Nat × Nat) (rel : Nat) : Nat := 9 * (p.2.2 + rel / max 1 k.cols) + (p.2.1 + rel % max 1 k.cols)
def Kiln.shelf (k : Kiln) (rel : Nat) : Nat := match k.place with | some p => k.shelfAt p rel | none => 0
def Kiln.shelves (k : Kiln) : Nat := k.cols * k.rows
def Kiln.holds (k : Kiln) (d shelf : Nat) : Bool :=
  match k.place with
  | some p => p.1 == d && (List.range k.shelves).any fun r => k.shelfAt p r == shelf
  | none => false

/-- The effective spine of a tile, and its period (R379). -/
def Kiln.spineOf (k : Kiln) (t : TileSt) : Nat := min 7 (t.spine + k.throttle)
def Kiln.period (k : Kiln) (t : TileSt) : Nat := spinePeriod (k.spineOf t)

/-- When a tile's next cycle begins: at the first edge of its spine once the present cycle is over. The spine multiplexer switches
at a cycle boundary (R379), so that tiles of one spine run in step.
(DEDUCED, log 111.) -/
def Kiln.nextEdge (k : Kiln) (t : TileSt) : Nat :=
  let p := k.period t
  let x := t.cycAt + p
  x + (p - (x - k.origin) % p) % p

/-- Whether the kiln's tiles run at this time: running, or in the cycle in which a stop cause arose (R385), and not waiting for a
unit of storage (R56). -/
def Kiln.runs (k : Kiln) (now : Nat) : Bool :=
  k.paused.isNone && (match k.stat with
  | .running => true
  | .freezing since _ => since == now
  | _ => false)

/-- Whether a kiln is placed, started, and neither frozen nor stopped (R53, R54): the time that its bells count (R389). -/
def Kiln.awake (k : Kiln) (now : Nat) : Bool :=
  match k.stat with
  | .running | .switching _ _ => true
  | .freezing since _ => since == now
  | _ => false

/-- Whether a kiln's clocks run: it is awake, and not waiting for a unit of storage (R56). -/
def Kiln.clocked (k : Kiln) (now : Nat) : Bool := k.paused.isNone && k.awake now

/-- Whether the kiln's engines run: it is placed, no freeze has begun, and it does not wait for a unit of storage (R56). -/
def Kiln.enginesRun (k : Kiln) : Bool :=
  k.paused.isNone && (match k.stat with
  | .running | .switching _ _ => true
  | _ => false)

/-- Whether a kiln is frozen, about to freeze, or has not gone on from its captured state yet: what is retried for it waits until it
does (R415). -/
def Kiln.asleep (k : Kiln) : Bool :=
  match k.stat with
  | .starting _ | .freezing _ _ | .frozen | .stopped => true
  | .running | .switching _ _ => false

/-! On-chip storage. -/

/-- An on-chip PA (R139); `tile` is die-relative shelf and tile. -/
def ocPa (die shelf tile space off : Nat) : Nat :=
  0xF * 2 ^ 48 + die * 2 ^ 46 + shelf * 2 ^ 39 + tile * 2 ^ 32 + space * 2 ^ 29 + off

/-- The PA of an offset of a space of a kiln's tile (13-bit tile code, R202). -/
def Kiln.pa (k : Kiln) (t space off : Nat) : Nat := ocPa k.die (k.shelf (t / 128)) (t % 128) space off

/-- The size of a space (R139); 0 where the tile kind does not have it. -/
def spaceSize (tile space : Nat) : Nat :=
  if tile < 64 then
    match space with
    | 0 => 0x18000
    | 1 => 0x4000
    | 2 => 0x33000
    | 3 => 0x400
    | 4 => 0x4200
    | 5 => 0x8000
    | _ => 0
  else if tile < 72 then (if space == 6 then 0x80000 else 0)
  else 0

/-- The place of a unit in a save slot (R57). -/
def slotOff (tile space off : Nat) : Nat :=
  match space with
  | 0 => 0x00200000 + 0x18000 * tile + off
  | 1 => 0x00800000 + 0x4000 * tile + off
  | 2 => 0x01000000 + 0x40000 * tile + off
  | 3 => 0x00900000 + 0x400 * tile + off
  | _ => 0x00A00000 + 0x80000 * (tile - 64) + off

/-- The kiln-relative address of an on-chip byte (R140), without its KIND. -/
def relAddr (t space off : Nat) : Nat := t / 128 * 2 ^ 39 + t % 128 * 2 ^ 32 + space * 2 ^ 29 + off

/-- What a data image puts at a byte (R215). -/
def Image.byteAt (im : Image) (t space off : Nat) : Option Byte :=
  match im.images.find? fun r => r.id == t && r.space == space && r.off ≤ off && off < r.off + r.bytes.length with
  | some r => r.bytes[off - r.off]?
  | none => none

/-! Physical addresses of DRAM. -/

/-- Frames of a slice (R138). -/
def framesOf (slice : Nat) : Nat := if slice < 24 then 21846 else if slice < 72 then 21845 else 0

/-- The PA of a frame (R138). -/
def framePa (die slice frame : Nat) : Nat := die * 2 ^ 46 + slice * 2 ^ 39 + frame * 2 ^ 16

/-- The task and register index that an offset of the control space names (R139, R243). -/
def controlReg (off : Nat) : Option (Nat × Nat) :=
  if off < 0x8000 && ctlRegKnown (off % 0x1000 / 8) then some (off / 0x1000, off % 0x1000 / 8) else none

/-- Whether an offset of a space of a tile names storage (R139). -/
def ocExists (tile space off : Nat) : Bool := off < spaceSize tile space && (space != 5 || (controlReg off).isSome)

/-- Whether a PA names storage (R137 to R139). -/
def paExists (pa : Nat) : Bool :=
  match pa / 2 ^ 48 with
  | 0 => fld pa 31 8 == 0 && fld pa 16 15 < framesOf (fld pa 39 7)
  | 8 | 9 => true
  | 0xF => fld pa 39 7 < 72 && ocExists (fld pa 32 7) (fld pa 29 3) (fld pa 0 29)
  | _ => false

/-! Translation. -/

/-- What an access needs: READ, WRITE or ATOMIC. -/
inductive Need where
  | read
  | write
  | atomic
  deriving DecidableEq, Repr

/-- ACCESS of a fault record (R413). -/
def Need.code : Need → Nat
  | .read => 0
  | .write => 1
  | .atomic => 2

/-- Who makes an access, for the placement of frames (R159). -/
inductive Placer where
  | slice (die slice : Nat)
  | fold (die : Nat)
  | outside
  | never
  deriving DecidableEq, Repr

/-- The translation tile of a VA: its shelf (R156). -/
def xlateTile (va : Nat) : Nat := (fld va 12 12 ^^^ fld va 24 12 ^^^ fld va 36 12) % 72

/-- The node from which an access counts for migration, as die and shelf; die 4 stands for an agent on no shelf (R160).
(DEDUCED, log 123.) -/
def Placer.node : Placer → Nat × Nat
  | .slice d n => (d, n)
  | _ => (4, 0)

/-- The node from which a page walk's reads count: the translation tile that owns the VPN (R156, R160). -/
def Placer.walker (w : Placer) (va : Nat) : Nat × Nat :=
  match w with
  | .slice d _ | .fold d => (d, xlateTile va)
  | _ => (4, 0)

/-- A fault of translation (R412, R413). -/
structure XFault where
  cause : Nat
  access : Nat
  stage : Nat
  w6 : Nat
  w7 : Nat
  deriving DecidableEq, Repr

/-- Whether a fixed range reaches a byte of the frame at `pa`: its PAs run on modulo 2^52 from any first byte (R158), which may lie
within the frame. -/
def rangeFixedCovers (e : BitVec 128) (pa : Nat) : Bool :=
  let n := e.toNat
  let lo := (fld n 0 27 * 2 ^ 21 + fld n 64 52) % 2 ^ 52
  let past := (pa + 2 ^ 52 - lo) % 2 ^ 52
  fld n 54 1 == 1 && fld n 58 1 == 0 && (past < (fld n 27 27 + 1 - fld n 0 27) * 2 ^ 21 || 2 ^ 52 - 2 ^ 16 < past)

/-- Where the frame map of a placed range entry stands: its first byte and the first byte after it (R159). -/
def mapSpan (r : BitVec 128) : Nat × Nat :=
  let n := r.toNat
  (fld n 64 52, fld n 64 52 + 8 * 32 * (fld n 27 27 + 1 - fld n 0 27))

/-- Whether a range entry is valid and placed (R158). -/
def rangePlaced (r : BitVec 128) : Bool := fld r.toNat 54 1 == 1 && fld r.toNat 58 1 == 1

/-- Whether an entry of a frame map names a frame as PRESENT (R159). -/
def State.mapped (s : State) (pa : Nat) : Bool :=
  s.paddocks.any fun p => p.ranges.any fun r => rangePlaced r.2 &&
    s.mem.any fun c => (mapSpan r.2).1 ≤ c.1 && c.1 < (mapSpan r.2).2 && (c.1 - (mapSpan r.2).1) % 8 == 0 && s.num c.1 8 == pa + 1

/-- A free frame: no placed unit, migration, fixed range or frame map uses it, and no frame map names it. -/
def State.frameFree (s : State) (pa : Nat) : Bool :=
  !(s.frames.any fun f => f.pa == pa) && !s.mapped pa && !(s.migrations.any fun m => m.new == pa || m.old == pa) &&
  !(s.paddocks.any fun p => p.ranges.any fun r =>
    rangeFixedCovers r.2 pa ||
      (rangePlaced r.2 && (mapSpan r.2).1 < pa + 2 ^ 16 && pa < (mapSpan r.2).2))

/-- The first free frame of a slice from a start on, cyclically.
(DESIGN CHOICE, log 7.) -/
def State.scanFrames (s : State) (die slice : Nat) : Nat → Nat → Option Nat
  | 0, _ => none
  | n + 1, start =>
    let pa := framePa die slice (start % max 1 (framesOf slice))
    if s.frameFree pa then some pa else s.scanFrames die slice n (start + 1)

/-- How many frames of a slice are in use. -/
def State.framesUsed (s : State) (die slice : Nat) : Nat :=
  ((List.range (framesOf slice)).filter fun i => !s.frameFree (framePa die slice i)).length

/-- The slice of a die with the most free frames, the lowest index on ties (R159, R417). -/
def State.roomiest (s : State) (die : Nat) : Nat :=
  (List.range 72).foldl (fun best i =>
    if framesOf best - s.framesUsed die best < framesOf i - s.framesUsed die i then i else best) 0

/-- The die whose slices hold the most free frames, the lowest index on ties (R159). -/
def State.roomiestDie (s : State) : Nat :=
  let used := fun d => ((List.range 72).map (s.framesUsed d)).sum
  (List.range 4).foldl (fun best i => if used i < used best then i else best) 0

/-- A frame for a placed unit (R159, R417): the frame, or the slice chosen where the die has none. -/
def State.takeFrame (s : State) (w : Placer) : Except Nat (Nat × State) :=
  let (die, slice) := match w with
    | .slice d n => (d, n)
    | .fold d => (d, s.roomiest d)
    | _ => let d := s.roomiestDie; (d, s.roomiest d)
  let start := Config.freeNat s.freeCount
  let s := { s with freeCount := s.freeCount + 1 }
  match s.scanFrames die slice (framesOf slice) start with
  | some pa => .ok (pa, s)
  | none =>
    let alt := s.roomiest die
    match s.scanFrames die alt (framesOf alt) start with
    | some pa => .ok (pa, s)
    | none => .error slice

/-- The range entry that covers an IA (R158). -/
def Paddock.range? (p : Paddock) (ia : Nat) : Option Nat :=
  (p.ranges.find? fun r => let n := r.2.toNat
    fld n 54 1 == 1 && fld n 0 27 ≤ ia / 2 ^ 21 && ia / 2 ^ 21 ≤ fld n 27 27).map fun r => r.2.toNat

/-- A frame that a frame map names is counted for migration from its first use on (R160). -/
def State.trackFrame (s : State) (pa entry : Nat) : State :=
  if s.frames.any fun f => f.pa == pa then s else { s with frames := s.frames ++ [⟨pa, entry, 0, []⟩] }

/-- A frame after one more access from a node, as 128 x die + shelf (R160). -/
def FrameSt.count (f : FrameSt) (node : Nat) : FrameSt :=
  if node == f.pa / 2 ^ 39 then { f with local_ := f.local_ + 1 }
  else
    let n := ((f.remote.find? fun x => x.1 == node).map Prod.snd).getD 0
    { f with remote := (f.remote.filter fun x => x.1 != node) ++ [(node, n + 1)] }

/-- Count an access from a node to each frame of a placed range that it reaches (R160). -/
def State.countAt (s : State) (node : Nat × Nat) (pas : List Nat) : State :=
  let hit := fun f : FrameSt => pas.any fun a => a / 2 ^ 16 == f.pa / 2 ^ 16
  { s with frames := updateWhere hit (fun f => f.count (node.1 * 128 + node.2)) s.frames }

/-- The peer port behind which a PA lies, if it is down (R426). -/
def State.portDown (s : State) (pa : Nat) : Option Nat :=
  if pa / 2 ^ 48 == 9 && s.peers.any fun p => p.index == fld pa 44 4 && p.down then some (fld pa 44 4) else none

/-- Stage 2 (R158, R159): the PA of an IA, with frame placement; an access that must cross a down port is held (R426). `acc` is the
ACCESS code for faults.
(DESIGN CHOICE, log 90.) -/
def State.stage2 (s : State) (p : Paddock) (w : Placer) (need : Need) (acc ia : Nat) : Except XFault (Nat × State) :=
  match p.range? ia with
  | none => .error ⟨0x21, acc, 1, 0, ia⟩
  | some n =>
    let granted := match need with
      | .read => fld n 55 1
      | .write => fld n 56 1
      | .atomic => fld n 57 1
    if granted == 0 then .error ⟨0x22, acc, 1, fld n 55 3, ia⟩
    else if fld n 58 1 == 0 then
      match s.portDown ((ia + fld n 64 52) % 2 ^ 52) with
      | some q => .error ⟨0x58, acc, 0, q, (ia + fld n 64 52) % 2 ^ 52⟩
      | none => .ok ((ia + fld n 64 52) % 2 ^ 52, s)
    else
      let unit := (ia - fld n 0 27 * 2 ^ 21) / 2 ^ 16
      let ea := fld n 64 52 + 8 * unit
      let e := s.num ea 8
      let pa := e / 2 ^ 16 * 2 ^ 16
      if fld e 1 15 != 0 || fld e 48 16 != 0 || (fld e 0 1 == 1 && !paExists pa) then .error ⟨0x23, 4, 1, 0, e⟩
      else if fld e 0 1 == 1 then .ok (pa + ia % 2 ^ 16, s.trackFrame pa ea)
      else
        match w with
        | .never => .error ⟨0x21, acc, 1, 0, ia⟩
        | _ =>
          match s.takeFrame w with
          | .error slice => .error ⟨0x24, acc, 1, slice, ia⟩
          | .ok (pa, s) =>
            let s := s.wipe pa (pa + 2 ^ 16)
            let s := s.pokes ea (leBytes 8 (pa + 1))
            .ok (pa + ia % 2 ^ 16, s.trackFrame pa ea)

/-- Whether a stage-1 entry is malformed at its level (R157); the C64K group is checked apart. -/
def pteBad (level e : Nat) : Bool :=
  let leaf := fld e 1 1 == 1
  fld e 9 3 != 0 || fld e 48 16 != 0 || (level == 1 && leaf) || (level == 4 && !leaf) ||
  (!leaf && fld e 2 7 != 0) ||
  (leaf && level == 2 && (fld e 6 1 == 1 || fld e 12 18 != 0)) ||
  (leaf && level == 3 && (fld e 6 1 == 1 || fld e 12 9 != 0))

/-- What a stage-1 walk finds: the PA of the leaf entry, the entry, and the IA of the page and the offset in it. -/
structure Leaf where
  entPa : Nat
  entry : Nat
  base : Nat
  off : Nat
  level : Nat
  deriving DecidableEq, Repr

/-- Whether the 16 entries of a C64K group, the first at `g`, agree (R157): the same attributes, consecutive ADDR, the first
aligned. -/
def State.c64kOk (s : State) (g : Nat) : Bool :=
  let e0 := s.num g 8
  let attr := fun e => (fld e 0 7, fld e 9 3, fld e 48 16)
  fld e0 12 4 == 0 &&
    (List.range 16).all fun i => let e := s.num (g + 8 * i) 8
      attr e == attr e0 && fld e 12 36 == fld e0 12 36 + i

/-- The stage-1 walk (R155, R157) from a table at `table` on `level`, with `fuel` levels left. Like every translation below it answers the
state after it also where it ends in a fault: what its reads placed and counted stays (R159, R160).
(DESIGN CHOICE, log 25.) -/
def State.walk (s : State) (p : Paddock) (w : Placer) (va : Nat) : Nat → Nat → Nat → Except XFault Leaf × State
  | 0, _, _ => (.error ⟨0x21, 3, 0, 3, 0⟩, s)
  | fuel + 1, level, table =>
    let ia := table + 8 * (va / 2 ^ (48 - 9 * level) % 512)
    match s.stage2 p w .read 3 ia with
    | .error f => (.error f, s)
    | .ok (pa, s) =>
      let s := s.countAt (w.walker va) [pa]
      let e := s.num pa 8
      -- the 16 entries of a C64K group are read together
      let group := level == 4 && fld e 6 1 == 1
      let g := pa - 8 * (va / 4096 % 16)
      if s.poisoned pa 8 then (.error ⟨0x3F, 3, 0, 0, pa / 16 * 16⟩, s)
      else if fld e 0 1 == 0 then (.error ⟨0x21, 0, 0, level - 1, 0⟩, s)
      else if pteBad level e then (.error ⟨0x23, 0, 0, level - 1, e⟩, s)
      else if group && s.poisoned g 128 then (.error ⟨0x3F, 3, 0, 0, (s.poisonIn g 128).getD g⟩, s)
      else if group && !s.c64kOk g then (.error ⟨0x23, 0, 0, level - 1, e⟩, s)
      else if fld e 1 1 == 1 then
        -- a C64K group maps one page of 64 KiB (R157)
        let bits := if level == 4 && fld e 6 1 == 1 then 16 else 48 - 9 * level
        (.ok ⟨pa, e, fld e bits (48 - bits) * 2 ^ bits, va % 2 ^ bits, level⟩, s)
      else s.walk p w va fuel (level + 1) (fld e 12 36 * 4096)

/-- The dense offset of a byte of the swizzled view (R153). -/
def swizzle (v : Nat) : Nat :=
  let u := v % 4096
  let l := u / 64
  let q := u % 64 / 16
  v / 4096 * 4096 + 256 * (4 * (l / 16) + q) + 16 * (l % 16) + u % 16

/-- The value-and-coordinate record of 512 dense bytes (R154). -/
def vcRecord (chunk : List Byte) : List Byte :=
  let els := (List.range 128).map fun i => leNat ((chunk.drop (4 * i)).take 4)
  let mask := (els.zipIdx.map fun x => if x.1 == 0 then 0 else 2 ^ x.2).sum
  let nz := els.filter (· != 0)
  let out := leBytes 16 mask ++ leBytes 4 nz.length ++ List.replicate 12 0 ++ nz.flatMap (leBytes 4)
  out ++ List.replicate (1024 - out.length) 0

/-- The byte at a location. -/
def State.locByte (s : State) (l : Loc) : Byte :=
  match l.vc with
  | none => s.byte l.pa
  | some j => (vcRecord (s.bytes l.pa 512)).getD j 0

/-- The leaf's own permissions as PERMISSION reports them (R412). -/
def leafGrants (e : Nat) : Nat :=
  let w := if fld e 4 2 == 1 then 0 else fld e 3 1
  fld e 2 1 + 2 * w + 4 * w

/-- Translate one byte of an access in two stages (R155, R157); ACCESSED and DIRTY are set once both stages grant.
(DEDUCED, log 101.) -/
def State.xlate1 (s : State) (p : Paddock) (w : Placer) (need : Need) (va : Nat) : Except XFault Leaf × State :=
  match s.walk p w va 4 1 p.root with
  | (.error f, s) => (.error { f with access := if f.access == 0 && f.stage == 0 then need.code else f.access }, s)
  | (.ok l, s) =>
    let view := fld l.entry 4 2
    if view == 3 then (.error ⟨0x21, need.code, 0, l.level - 1, 0⟩, s)
    else
      let ok := match need with
        | .read => fld l.entry 2 1 == 1
        | _ => fld l.entry 3 1 == 1 && view != 1
      if !ok then (.error ⟨0x22, need.code, 0, leafGrants l.entry + 16 * (l.level - 1), l.base + l.off⟩, s)
      else (.ok l, s)

/-- The locations of `n` bytes within one page, from a leaf (R152 to R154); sets ACCESSED and DIRTY, in a C64K group in the entry that
the walk reached.
(DESIGN CHOICE, log 124.) -/
def State.pageLocs (s : State) (p : Paddock) (w : Placer) (need : Need) (l : Leaf) : List Nat → Except XFault (List Loc) × State
  | [] => (.ok [], s)
  | i :: is =>
    let v := l.off + i
    let view := fld l.entry 4 2
    let ia := match view with
      | 1 => l.base + v / 1024 * 512
      | 2 => l.base + swizzle v
      | _ => l.base + v
    match s.stage2 p w need need.code ia with
    | .error f => (.error f, s)
    | .ok (pa, s) =>
      let e := s.num l.entPa 8
      let s := if fld e 7 1 == 0 then s.poke l.entPa (BitVec.ofNat 8 (e % 256 + 128)) else s
      let s := if need != .read && fld e 8 1 == 0 then s.poke (l.entPa + 1) (BitVec.ofNat 8 (e / 256 % 256 + 1)) else s
      match s.pageLocs p w need l is with
      | (.error f, s) => (.error f, s)
      | (.ok rest, s) => (.ok ((⟨pa, if view == 1 then some (v % 1024) else none,
        ((p.range? ia).map fun n => fld n 59 1 == 1).getD false⟩ : Loc) :: rest), s)

/-- Translate an access of `n` bytes at a VA (R155): each 4 KiB page it touches is walked once. -/
def State.xlate (s : State) (p : Paddock) (w : Placer) (need : Need) (va n : Nat) : Except XFault (List Loc) × State :=
  let va := va % 2 ^ 48
  let first := min n (4096 - va % 4096)
  match s.xlate1 p w need va with
  | (.error f, s) => (.error f, s)
  | (.ok l, s) =>
    match s.pageLocs p w need l (List.range first) with
    | (.error f, s) => (.error f, s)
    | (.ok a, s) =>
      if first == n then (.ok a, s)
      else
        match s.xlate1 p w need ((va + first) % 2 ^ 48) with
        | (.error f, s) => (.error f, s)
        | (.ok l, s) =>
          match s.pageLocs p w need l (List.range (n - first)) with
          | (.error f, s) => (.error f, s)
          | (.ok b, s) => (.ok (a ++ b), s)

/-- The poisoned granules that a read of a location meets (R421): through the value-and-coordinate view, any of its chunk's. -/
def State.locBad (s : State) (l : Loc) : List Nat :=
  match l.vc with
  | none => if s.poisoned l.pa 1 then [l.pa / 16 * 16] else []
  | some _ => ((List.range 32).map fun i => l.pa + 16 * i).filter fun a => s.poisoned a 16

/-- Whether every location of a translated access names storage. -/
def locsExist (ls : List Loc) : Bool := ls.all fun l => paExists l.pa

/-- Read a VA as an engine or firmware does, at the owner. -/
def State.vaRead (s : State) (p : Paddock) (w : Placer) (va n : Nat) : Except XFault (List Byte) × State :=
  match s.xlate p w .read va n with
  | (.error f, s) => (.error f, s)
  | (.ok ls, s) =>
    if locsExist ls then (.ok (ls.map s.locByte), s.countAt w.node (ls.map Loc.pa)) else (.error ⟨0x20, 0, 0, 0, va⟩, s)

/-- Write a VA at the owner. -/
def State.vaWrite (s : State) (p : Paddock) (w : Placer) (va : Nat) (bs : List Byte) : Except XFault Unit × State :=
  match s.xlate p w .write va bs.length with
  | (.error f, s) => (.error f, s)
  | (.ok ls, s) =>
    if locsExist ls then
      (.ok (), ((s.countAt w.node (ls.map Loc.pa)).pokeAt ((ls.map Loc.pa).zip bs)).cleanse (ls.map Loc.pa))
    else (.error ⟨0x20, 1, 0, 0, va⟩, s)

/-! Host memory and completion entries. -/

/-- The PA of a host address (R137). -/
def hostPa (a : Nat) : Nat := 8 * 2 ^ 48 + a % 2 ^ 48

/-- Write a completion entry where the ring has a place, else keep it until one is free; then signal its vector.
(DESIGN CHOICE, log 18.) -/
def State.pushCpl (s : State) (w0 w1 : Word) (vec : Nat) : State :=
  if (s.cplTail + 2 ^ 16 - s.cplHead) % 2 ^ 16 < 2 ^ s.cplSize then
    let a := hostPa (s.cplBase.toNat + 16 * (s.cplTail % 2 ^ s.cplSize))
    let s := s.pokes a (leBytes 8 w0.toNat ++ leBytes 8 w1.toNat)
    { s with cplTail := (s.cplTail + 1) % 2 ^ 16, msix := s.msix ++ [vec] }
  else { s with cplWait := s.cplWait ++ [(w0, w1, vec)] }

/-- The completion entry of a command (R369). -/
def State.complete (s : State) (tag code status : Nat) (result : Word) : State :=
  s.pushCpl (BitVec.ofNat 64 (tag % 2 ^ 16 + status * 2 ^ 16 + code * 2 ^ 24)) result 0

/-- An event entry (R369): TAG 0xFFFF. -/
def State.event (s : State) (code : Nat) (result : Word) (vec : Nat) : State :=
  s.pushCpl (BitVec.ofNat 64 (0xFFFF + code * 2 ^ 24)) result vec

/-! Fault records. -/

/-- The fields of a fault record that its cause gives (R386, R413). -/
structure FaultReq where
  cause : Nat
  cls : Nat
  access : Nat := 0
  stage : Nat := 0
  va : Nat := 0
  die : Nat
  shelf : Nat := 0
  tile : Nat := 0
  task : Nat := 0
  block : Nat := 0
  slot : Nat := 0
  agent : Nat := 0
  w3 : Nat := 0
  paddock : Nat := 0
  kiln : Nat := 0
  queue : Nat := 0
  w6 : Nat := 0
  w7 : Nat := 0
  vec : Nat := 1
  deriving DecidableEq, Repr

/-- The record of a fault at a time, without its RECNO (R413). -/
def FaultReq.toRec (f : FaultReq) (time : Nat) : FaultRec where
  w0 := BitVec.ofNat 64 (f.cause % 256 + f.cls * 2 ^ 8 + f.access * 2 ^ 12 + f.stage * 2 ^ 16)
  w1 := BitVec.ofNat 64 (f.va % 2 ^ 48)
  w2 := BitVec.ofNat 64 (f.die % 4 + f.shelf % 128 * 2 ^ 2 + f.tile % 128 * 2 ^ 9 + f.task % 8 * 2 ^ 16 + f.block % 32 * 2 ^ 19 +
    f.slot % 128 * 2 ^ 24 + f.agent % 4 * 2 ^ 31)
  w3 := BitVec.ofNat 64 f.w3
  w4 := BitVec.ofNat 64 (time % 2 ^ 52)
  w5 := BitVec.ofNat 64 (f.paddock % 16 + f.kiln % 2 ^ 32 * 2 ^ 4 + f.queue % 256 * 2 ^ 36)
  w6 := BitVec.ofNat 64 f.w6
  w7 := BitVec.ofNat 64 f.w7

/-- The CLASS of a record. -/
def recClass (r : FaultRec) : Nat := fld r.w0.toNat 8 4

/-- The next RECNO that no outstanding record holds (R414), from `n` on. -/
def DieSt.recno (d : DieSt) : Nat → Nat → Nat
  | 0, n => n % 4096
  | fuel + 1, n => if d.outstanding.any fun o => o.recno == n % 4096 then d.recno fuel (n + 1) else n % 4096

/-- Put a record into a die's fault queue, numbering it (R414). -/
def DieSt.post (d : DieSt) (uid : Nat) (r : FaultRec) : DieSt :=
  let n := d.recno 4096 d.nextRec
  { d with
    faults := d.faults ++ [{ r with w4 := BitVec.ofNat 64 (r.w4.toNat % 2 ^ 52 + n * 2 ^ 52) }]
    newFaults := d.newFaults + 1
    nextRec := (n + 1) % 4096
    outstanding := d.outstanding ++ [⟨n, uid, recClass r, false⟩] }

/-- Post a fault record, or defer it when the queue is full (R419); answers the fault's own number. -/
def State.postFault (s : State) (f : FaultReq) : Nat × State :=
  let (uid, s) := s.fresh
  let r := f.toRec s.timeNs
  let d := s.die f.die
  if d.faults.length < 512 && d.deferred.isEmpty then
    (uid, { s.modDie f.die (fun d => d.post uid r) with msix := s.msix ++ [f.vec] })
  else
    let n := min (d.overflow + 1) (2 ^ 32 - 1)
    let armed := d.overflowArmed
    let s := s.modDie f.die fun d => { d with
      deferred := d.deferred ++ [(uid, r)], newDeferred := d.newDeferred + 1, overflow := n, overflowArmed := false }
    (uid, if armed then s.event 0x09 (BitVec.ofNat 64 (f.die % 4 + n * 2 ^ 32)) 1 else s)

/-- Where a record stands among those of one instant (R390, R419): by agent kind, die shelf, tile, task and slot. -/
def recRank (r : FaultRec) : List Nat :=
  let w := r.w2.toNat
  [fld w 31 2, fld w 2 7, fld w 9 7, fld w 16 3, fld w 24 7]

/-- Whether one list of numbers comes strictly before another. -/
def ranksBefore : List Nat → List Nat → Bool
  | a :: r, b :: q => a < b || (a == b && ranksBefore r q)
  | _, _ => false

/-- Insert a record behind every one that it does not precede. -/
def insertRec (x : Nat × FaultRec) : List (Nat × FaultRec) → List (Nat × FaultRec)
  | [] => [x]
  | y :: r => if ranksBefore (recRank x.2) (recRank y.2) then x :: y :: r else y :: insertRec x r

/-- The records that an instant brought to a die, posted or deferred, in the order of R390 and R419; the numbers of those posted go
with their places. -/
def DieSt.sortNew (d : DieSt) : DieSt :=
  let old := d.faults.take (d.faults.length - d.newFaults)
  let new := d.faults.drop (d.faults.length - d.newFaults)
  let no := fun r : FaultRec => fld r.w4.toNat 52 12
  let uid := fun r : FaultRec => ((d.outstanding.find? fun o => o.recno == no r).map OutRec.uid).getD 0
  let kept := d.deferred.take (d.deferred.length - d.newDeferred)
  let all := ((new.map fun r => (uid r, r)) ++ d.deferred.drop (d.deferred.length - d.newDeferred)).foldl (fun l x => insertRec x l) []
  let posted := (all.take new.length).zip (new.map no)
  { d with
    faults := old ++ posted.map fun x => { x.1.2 with w4 := BitVec.ofNat 64 (x.1.2.w4.toNat % 2 ^ 52 + x.2 * 2 ^ 52) }
    deferred := kept ++ all.drop new.length
    outstanding := (d.outstanding.filter fun o => !(new.any fun r => no r == o.recno)) ++
      posted.map fun x => ⟨x.2, x.1.1, recClass x.1.2, false⟩
    newFaults := 0
    newDeferred := 0 }

/-- The fault request of a task of a kiln. -/
def Kiln.faultReq (k : Kiln) (t task block slot cause cls w6 w7 : Nat) : FaultReq where
  cause := cause
  cls := cls
  die := k.die
  shelf := k.shelf (t / 128)
  tile := t % 128
  task := task
  block := block
  slot := slot
  paddock := k.paddock
  kiln := k.id
  queue := k.queue
  w6 := w6
  w7 := w7

/-! Taking an exception: a kiln stops (R385). -/

/-- What is left of a context switch that a freeze interrupts: its time and the next context (R38, R188).
(DESIGN CHOICE, log 72.) -/
def Kiln.leftOver (k : Kiln) (now : Nat) : Option (Nat × Nat) :=
  match k.stat with
  | .switching t next => some (t - now, next)
  | _ => k.switchLeft

/-- A stop cause arises in a kiln: the record is posted (R386) and the kiln freezes as stopped from the next cycle on. -/
def State.stopBy (s : State) (k : Nat) (f : FaultReq) (t task slot aux : Nat) : State :=
  let (uid, s) := s.postFault f
  s.modKiln k fun kl =>
    { kl with
      stops := kl.stops ++ [⟨uid, f.cause, t, task, slot, aux⟩]
      switchLeft := kl.leftOver s.now
      stat := match kl.stat with
        | .freezing since _ => .freezing since .stop
        | _ => .freezing s.now .stop }

/-- A stop cause that a task raises: the task issues nothing further. -/
def State.stopKiln (s : State) (k : Nat) (f : FaultReq) (t task slot aux : Nat) : State :=
  (s.stopBy k f t task slot aux).modTask k t task fun x => { x with stopped := true }

/-- Post an event of CLASS 2 (R386). -/
def State.postEvent (s : State) (f : FaultReq) : State := (s.postFault f).2

/-! Poison (R421). -/

/-- The event of a poisoned granule at a PA (R413, R421): `who` gives the fields of the agent that read it. -/
def State.poisonSeen (s : State) (who : FaultReq) (pa : Nat) (scrub : Bool := false) : State :=
  s.postEvent { who with cause := 0x29, cls := 2, access := 0, stage := 0, va := 0, w6 := scrub.toNat, w7 := pa }

/-- The bytes at some locations as a drover, BTU or fold engine takes them: +0 for poisoned granules, each of which is reported (R421). -/
def State.cleanBytes (s : State) (who : FaultReq) (ls : List Loc) : List Byte × State :=
  (ls.map fun l => if (s.locBad l).isEmpty then s.locByte l else 0,
    (ls.flatMap s.locBad).eraseDups.foldl (fun (s : State) pa => s.poisonSeen who pa) s)

/-- The same of `n` bytes at a PA. -/
def State.cleanAt (s : State) (who : FaultReq) (pa n : Nat) : List Byte × State :=
  s.cleanBytes who ((List.range n).map fun i => ⟨pa + i, none, false⟩)

/-- The fields of a record of the drover of a slice that acts for a kiln (R413). -/
def Kiln.droverReq (k : Kiln) (die shelf : Nat) : FaultReq :=
  { k.faultReq 0 0 0 0 0x29 2 0 0 with die := die, shelf := shelf, agent := 1 }

/-! Units of on-chip storage (R56, R57). -/

/-- The save slot of a kiln's shelf, assigned if it has none (R57): the free slot of the lowest index; none when the paddock has no
free slot.
(DESIGN CHOICE, log 115.) -/
def State.saveSlot (s : State) (k rel : Nat) : Option (Nat × State) :=
  match s.kiln? k with
  | none => none
  | some kl =>
    match kl.saveSlots.find? fun x => x.1 == rel with
    | some x => some (x.2, s)
    | none =>
      match s.paddock? kl.paddock with
      | none => none
      | some p =>
        match (List.range p.saveCount).find? fun i => !(p.slotsUsed.any fun u => u.1 == i) with
        | none => none
        | some i =>
          some (i, (s.modKiln k fun kl => { kl with saveSlots := kl.saveSlots ++ [(rel, i)] }).modPaddock kl.paddock
            fun p => { p with slotsUsed := p.slotsUsed ++ [(i, k, rel)] })

/-- The IA of an offset in a save slot (R57). -/
def Paddock.saveIa (p : Paddock) (slot off : Nat) : Nat := (p.saveBase * 2 ^ 21 + slot * 2 ^ 25 + off) % 2 ^ 48

/-- Translate bytes of a save slot through stage 2 alone, 4 KiB by 4 KiB at most one frame (R57). -/
def State.saveXlate (s : State) (p : Paddock) (w : Placer) (need : Need) (ia : Nat) : Except XFault (Nat × State) :=
  s.stage2 p w need need.code ia

/-- Write bytes to a kiln's save slot; a write that does not translate is held with a record of AGENT 1 (R57). -/
def State.saveWrite (s : State) (k rel off die shelf : Nat) (bs : List Byte) : State :=
  match s.saveSlot k rel with
  | none => s
  | some (slot, s) =>
    match s.kiln? k with
    | none => s
    | some kl =>
      match s.paddock? kl.paddock with
      | none => s
      | some p =>
        match s.saveXlate p (.slice die shelf) .write (p.saveIa slot off) with
        | .ok (pa, s) => (s.countAt (die, shelf) [pa]).pokes pa bs
        | .error x =>
          let (uid, s) := s.postFault
            { cause := x.cause, cls := 1, access := x.access, stage := x.stage, die := die, shelf := shelf, agent := 1,
              paddock := kl.paddock, kiln := k, queue := kl.queue, w6 := x.w6, w7 := x.w7 }
          { s with heldSaves := s.heldSaves ++ [⟨k, rel, off, bs, die, shelf, uid⟩] }

/-- Why an access to a kiln's save slot does not translate, if it does not (R57). -/
def State.saveFault (s : State) (k rel off die shelf : Nat) (need : Need) : Option XFault :=
  match s.saveSlot k rel with
  | none => none
  | some (slot, s) =>
    match (s.kiln? k).bind fun kl => s.paddock? kl.paddock with
    | none => none
    | some p =>
      match s.saveXlate p (.slice die shelf) need (p.saveIa slot off) with
      | .ok _ => none
      | .error x => some x

/-- The miss of a unit of a kiln, at tile, space and base, for a fault of the save slot or snapshot record of `who`. -/
def missOf (k who die shelf : Nat) (at_ : Nat × Nat × Nat) (x : XFault) : UnitMiss :=
  ⟨k, who, die, shelf, x.cause, x.access, x.stage, x.w6, x.w7, at_.1, at_.2.1, at_.2.2⟩

/-- Read bytes of a kiln's save slot: a held save's bytes, else memory, with +0 for poisoned granules (R421). -/
def State.saveRead (s : State) (k rel off n die shelf : Nat) : List Byte × State :=
  match s.heldSaves.find? fun h => h.kiln == k && h.shelf == rel && h.off == off with
  | some h => (h.bytes, s)
  | none =>
    match s.kiln? k with
    | none => ([], s)
    | some kl =>
      match s.paddock? kl.paddock, kl.saveSlots.find? fun x => x.1 == rel with
      | some p, some x =>
        match s.saveXlate p (.slice die shelf) .read (p.saveIa x.2 off) with
        | .ok (pa, s) => (s.countAt (die, shelf) [pa]).cleanAt (kl.droverReq die shelf) pa n
        | .error _ => ([], s)
      | _, _ => ([], s)

/-- The bytes of a unit that end with its space. -/
def unitLen (tile space base : Nat) : Nat := min 4096 (spaceSize tile space - base)

/-- Write an owner's unit to its save slot if it was written, with +0 for poisoned granules (R421), and take it out of the table
(R56). -/
def State.evict (s : State) (u : UnitSt) : State :=
  let tile := fld u.rel 32 7
  let rel := fld u.rel 39 6
  let space := fld u.rel 29 3
  let off := fld u.rel 0 29
  let s := { s with units := s.units.filter fun x => x.pa != u.pa }
  match s.kiln? u.owner with
  | none => s
  | some kl =>
    if u.dirty then
      let die := fld u.pa 46 2
      let shelf := fld u.pa 39 7
      let (bs, s) := s.cleanAt (kl.droverReq die shelf) u.pa (unitLen tile space off)
      (s.saveWrite u.owner rel (slotOff tile space off) die shelf bs).modKiln u.owner fun kl =>
        { kl with savedUnits := if kl.savedUnits.contains u.rel then kl.savedUnits else kl.savedUnits ++ [u.rel] }
    else s

/-- Why a unit cannot be written back for its earlier owner now, on behalf of a kiln that needs the unit `at_` there (R56, R57). -/
def State.evictMiss (s : State) (k : Nat) (at_ : Nat × Nat × Nat) (u : UnitSt) : Option UnitMiss :=
  if u.dirty && (s.kiln? u.owner).isSome then
    let tile := fld u.rel 32 7
    let die := fld u.pa 46 2
    let shelf := fld u.pa 39 7
    (s.saveFault u.owner (fld u.rel 39 6) (slotOff tile (fld u.rel 29 3) (fld u.rel 0 29)) die shelf .write).map (missOf k u.owner die shelf at_)
  else none

/-- Where a unit of a restored kiln stands in its snapshot record, and as what it is read there: by the drover of the slice (R374,
R375). -/
def State.recordRead (s : State) (kl : Kiln) (p va t space base n : Nat) : Except XFault (List Byte) × State :=
  match s.paddock? p with
  | none => (.error ⟨0x21, 0, 1, 0, 0⟩, s)
  | some pd =>
    let shelf := kl.shelf (t / 128)
    match s.xlate pd (.slice kl.die shelf) .read (va + 0x1000 + 0x2000000 * (t / 128) + slotOff (t % 128) space base) n with
    | (.error f, s) => (.error f, s)
    | (.ok ls, s) =>
      let (bs, s) := (s.countAt (kl.die, shelf) (ls.map Loc.pa)).cleanBytes (kl.droverReq kl.die shelf) ls
      (.ok bs, s)

/-- Why a unit's own earlier content cannot be read now (R56, R57), or a restored kiln's in its record (R375, R426). -/
def State.contentMiss (s : State) (kl : Kiln) (t space base : Nat) : Option UnitMiss :=
  let rel := relAddr t space base
  let off := slotOff (t % 128) space base
  let shelf := kl.shelf (t / 128)
  if s.units.any fun u => u.owner == kl.id && u.rel == rel then none
  else if kl.savedUnits.contains rel then
    if s.heldSaves.any fun h => h.kiln == kl.id && h.shelf == t / 128 && h.off == off then none
    else (s.saveFault kl.id (t / 128) off kl.die shelf .read).map (missOf kl.id kl.id kl.die shelf (t, space, base))
  else
    match kl.restored with
    | none => none
    | some (p, va) =>
      match (s.recordRead kl p va t space base (unitLen (t % 128) space base)).1 with
      | .ok _ => none
      | .error x => some (missOf kl.id kl.id kl.die shelf (t, space, base) x)

/-- What a kiln finds in a unit it does not yet own (R56): its own earlier content from where it was placed before or
from its save slot, the captured snapshot's, the charge's data image, or zeros; with the unit that it came from, and the state after
the reads. The drover that reads puts +0 in the place of poisoned granules (R421). -/
def State.unitContent (s : State) (kl : Kiln) (t space base : Nat) : List Byte × List Nat × State :=
  let n := unitLen (t % 128) space base
  let rel := relAddr t space base
  match s.units.find? fun u => u.owner == kl.id && u.rel == rel with
  | some u =>
    let (bs, s) := s.cleanAt (kl.droverReq kl.die (kl.shelf (t / 128))) u.pa n
    (bs, [u.pa], s)
  | none =>
    if kl.savedUnits.contains rel then
      let (bs, s) := s.saveRead kl.id (t / 128) (slotOff (t % 128) space base) n kl.die (kl.shelf (t / 128))
      (bs, [], s)
    else
      match kl.restored with
      | some (p, va) =>
        -- a restored kiln's units stand in its snapshot record (R374, R375)
        match s.recordRead kl p va t space base n with
        | (.ok bs, s) => (bs, [], s)
        | (.error _, s) => ([], [], s)
      | none =>
        match s.image? kl.charge with
        | some im => (if space == 0 || space == 6 then (List.range n).map fun i => (im.byteAt t space (base + i)).getD 0 else [], [], s)
        | none => ([], [], s)

/-- A save slot whose units have all been read back is free again, once the kiln stands on shelves (R57). -/
def State.slotFreed (s : State) (k rel : Nat) : State :=
  match s.kiln? k with
  | none => s
  | some kl =>
    if kl.place.isSome && !(kl.savedUnits.any fun u => fld u 39 6 == rel) && !(s.heldSaves.any fun h => h.kiln == k && h.shelf == rel) then
      (s.modKiln k fun kl => { kl with saveSlots := kl.saveSlots.filter fun x => x.1 != rel }).modPaddock kl.paddock fun p =>
        { p with slotsUsed := p.slotsUsed.filter fun u => !(u.2.1 == k && u.2.2 == rel) }
    else s

/-- A kiln's saved unit has been read back. -/
def State.readBack (s : State) (k rel : Nat) : State :=
  (s.modKiln k fun kl => { kl with savedUnits := kl.savedUnits.filter (· != rel) }).slotFreed k (fld rel 39 6)

/-- A kiln waits, as a whole, for a unit of storage whose save slot or snapshot record cannot be reached: the drover's access is held
with a record of AGENT 1 (R57, R426).
(DESIGN CHOICE, log 120.) -/
def State.pause (s : State) (m : UnitMiss) : State :=
  let who := s.kiln? m.who
  let (uid, s) := s.postFault
    { cause := m.cause, cls := 1, access := m.access, stage := m.stage, die := m.die, shelf := m.shelf, agent := 1,
      paddock := (who.map Kiln.paddock).getD 0, kiln := m.who, queue := (who.map Kiln.queue).getD 0, w6 := m.w6, w7 := m.w7 }
  s.modKiln m.kiln fun k => { k with paused := some ⟨uid, s.now, m.who, m.tile, m.space, m.base⟩ }

/-- Whether a kiln may be made to wait for a unit: it stands on shelves, and does not wait already. -/
def Kiln.holdable (k : Kiln) : Bool := k.paused.isNone && k.place.isSome

/-- What has come of `s` by an act that led to `t`: where it would have reached a unit that cannot be installed, it has not taken
place, and its kiln waits (R56, R57). -/
def State.attempt (s t : State) : State :=
  match t.unitMiss with
  | none => t
  | some m => if (s.kiln? m.kiln).any Kiln.holdable then s.pause m else { t with unitMiss := none }

/-- Whether a kiln waits for a unit of storage (R56). -/
def State.waitsUnit (s : State) (k : Nat) : Bool := (s.kiln? k).any fun kl => kl.paused.isSome

/-- Install a unit for a kiln (R56): the earlier owner's content is written back if it was written, then the incoming
content is placed. A unit that came from a save slot counts as written, since the slot may be freed (R57). An access to a save slot
that does not translate is noted for the end of the step.
(DEDUCED, log 59.) -/
def State.install (s : State) (k t space base : Nat) : State :=
  match s.kiln? k with
  | none => s
  | some kl =>
    let pa := kl.pa t space base
    let owner := s.units.find? fun u => u.pa == pa
    let miss := (owner.bind fun u => s.evictMiss k (t, space, base) u).orElse fun _ => s.contentMiss kl t space base
    let s := { s with unitMiss := s.unitMiss.orElse fun _ => miss }
    let (content, drop, s) := s.unitContent kl t space base
    let s := match s.units.find? fun u => u.pa == pa with
      | some u => s.evict u
      | none => s
    let s := s.wipe pa (pa + unitLen (t % 128) space base)
    let s := s.pokeAt (((List.range content.length).zip content).filterMap fun x => if x.2 = 0 then none else some (pa + x.1, x.2))
    let rel := relAddr t space base
    let back := drop.isEmpty && kl.savedUnits.contains rel
    let s := { s with units := (s.units.filter fun u => !(drop.contains u.pa)) ++ [⟨pa, rel, k, !drop.isEmpty || back || kl.restored.isSome⟩] }
    if back then s.readBack k rel else s

/-- Whether a kiln owns the unit of an on-chip byte. -/
def State.owns (s : State) (kl : Kiln) (t space off : Nat) : Bool :=
  s.units.any fun u => u.pa == kl.pa t space (off / 4096 * 4096) && u.owner == kl.id

/-- Make sure that a kiln owns the unit of an on-chip byte. -/
def State.ensure (s : State) (k t space off : Nat) : State :=
  match s.kiln? k with
  | none => s
  | some kl => if s.owns kl t space off then s else s.install k t space (off / 4096 * 4096)

/-- Read on-chip bytes of a kiln, within one unit. -/
def State.ocRead (s : State) (k t space off n : Nat) : List Byte × State :=
  let s := s.ensure k t space off
  match s.kiln? k with
  | none => ([], s)
  | some kl => (s.bytes (kl.pa t space off) n, s)

/-- Write on-chip bytes of a kiln, within one unit; the unit counts as written. -/
def State.ocWrite (s : State) (k t space off : Nat) (bs : List Byte) : State :=
  let s := s.ensure k t space off
  match s.kiln? k with
  | none => s
  | some kl =>
    let pa := kl.pa t space off
    let s := s.pokes pa bs
    { s with units := updateWhere (fun u => u.pa == kl.pa t space (off / 4096 * 4096)) (fun u => { u with dirty := true }) s.units }

/-- Whether on-chip bytes of a kiln, within one unit, are poisoned once the unit is its own (R56, R421). -/
def State.ocPoisoned (s : State) (k t space off n : Nat) : Bool :=
  let s := s.ensure k t space off
  match s.kiln? k with
  | none => false
  | some kl => s.poisoned (kl.pa t space off) n

/-- A keep register (R255). -/
def State.keepRead (s : State) (k t n : Nat) : Payload × State :=
  let (bs, s) := s.ocRead k t 3 (16 * (n % 64)) 16
  (payOf bs, s)

/-- Write a keep register. -/
def State.keepWrite (s : State) (k t n : Nat) (v : Payload) : State := s.ocWrite k t 3 (16 * (n % 64)) (payBytes v)

/-- An instruction writes a keep register: of the writes that land in one cycle that of the instruction issued last stands (R255).
`no` is the instruction's number in issue order. -/
def State.keepPut (s : State) (k t no n : Nat) (v : Payload) : State :=
  let n := n % 64
  if ((s.kiln? k).any fun kl => (kl.tileD t).keepNos.any fun x => x.1 == n && no < x.2) then s
  else (s.keepWrite k t n v).modTile k t fun tl => { tl with keepNos := (n, no) :: tl.keepNos.filter fun x => x.1 != n }

/-! Full/empty bits, domain tags and arrival bits (R142, R143). -/

/-- Insert into a sorted list without repeats. -/
def insertNat (x : Nat) : List Nat → List Nat
  | [] => [x]
  | y :: r => if x < y then x :: y :: r else if x == y then y :: r else y :: insertNat x r

def TileSt.isFull (t : TileSt) (g : Nat) : Bool := t.full.contains g
def TileSt.setFull (t : TileSt) (g : Nat) (b : Bool) : TileSt :=
  { t with full := if b then insertNat g t.full else t.full.filter (· != g) }
def TileSt.setTag (t : TileSt) (c : Nat) (d : Bool) : TileSt :=
  { t with tags := if d then insertNat c t.tags else t.tags.filter (· != c) }
def TileSt.setArrived (t : TileSt) (c : Nat) (b : Bool) : TileSt :=
  { t with arrived := if b then insertNat c t.arrived else t.arrived.filter (· != c) }

/-- An engine's or a global store's bytes into a kiln's window (R141, R291): data, and in a scratchpad the full bit of
each granule and the tag of each chunk that it writes. -/
def State.windowWrite (s : State) (k t space off : Nat) (bs : List Byte) (dom : Bool) : State :=
  let s := s.ocWrite k t space off bs
  if space == 0 && !bs.isEmpty then
    s.modTile k t fun tl =>
      let last := off + bs.length - 1
      let tl := (List.range (last / 16 - off / 16 + 1)).foldl (fun tl i => tl.setFull (off / 16 + i) true) tl
      (List.range (last / 512 - off / 512 + 1)).foldl (fun tl i => tl.setTag (off / 512 + i) dom) tl
  else s

end Sys2Proof.Machine
end

