-- ==== Sys2Proof/Machine/Links.lean ====
section
/-! DEFINITION. Links (R68 to R86): sending, arrival under each policy, the head, dequeues and credits, as functions on
one link; and the same operations on a kiln, with the times of R70 and R71. -/

namespace Sys2Proof.Machine

/-! The account of discarded records. -/

/-- A count that saturates at 2^32 - 1 (R66): the value and what saturation lost. -/
def addSat32 (a b : Nat) : Nat × Nat := (min (a + b) (2 ^ 32 - 1), a + b - min (a + b) (2 ^ 32 - 1))

/-- A weight that saturates at 65,535, and what was lost (R76, R77). -/
def satWeight (w : Nat) : Nat × Nat := (min w 65535, w - min w 65535)

/-- What a link loses to saturation, for the report of R400. -/
def LinkSt.noteLoss (l : LinkSt) (lost : Nat) (gapSat : Bool) : LinkSt :=
  { l with satLost := l.satLost + lost, satGap := l.satGap || gapSat }

/-- A gap with one more record discarded (R78), and the weight lost and whether a count saturated (R400). -/
def Gap.drop (g : Option Gap) (seq w : Nat) : Gap × Nat × Bool :=
  match g with
  | none => (⟨1, (addSat32 0 w).1, seq, seq⟩, (addSat32 0 w).2, (addSat32 0 w).2 != 0)
  | some g =>
    let n := addSat32 g.lost 1
    let x := addSat32 g.wlost w
    (⟨n.1, x.1, g.first, seq⟩, x.2, n.2 != 0 || x.2 != 0)

/-- Discard a record into the pending gap, or into the gap after the last waiting stop (R78, R79). -/
def LinkSt.discard (l : LinkSt) (t : DTok) (w : Nat) : LinkSt :=
  match l.waiting.reverse with
  | [] =>
    let (g, lost, sat) := Gap.drop l.pend t.seq.toNat w
    { l with pend := some g }.noteLoss lost sat
  | (x, after) :: r =>
    let (g, lost, sat) := Gap.drop after t.seq.toNat w
    { l with waiting := ((x, some g) :: r).reverse }.noteLoss lost sat

/-- A gap that takes in a later one (R78): the counts add, saturating, and LAST is the later; with the weight lost and whether a
count saturated (R400). -/
def Gap.plus (o g : Gap) : Gap × Nat × Bool :=
  let n := addSat32 o.lost g.lost
  let x := addSat32 o.wlost g.wlost
  (⟨n.1, x.1, o.first, g.last⟩, x.2, n.2 != 0 || x.2 != 0)

/-- The tokens in a link's data slots. -/
def LinkSt.tokens (l : LinkSt) : Nat := (l.slots.map fun s => s.toks.length).sum

/-- The pending gap enters the gap slot before the token about to be enqueued, or merges into the gap there (R78). -/
def LinkSt.placeGap (l : LinkSt) : LinkSt :=
  match l.pend with
  | none => l
  | some g =>
    match l.gap with
    | none => { l with gap := some (DTok.gap g, l.tokens), pend := none }
    | some (t, i) =>
      let (x, lost, sat) := t.gapFields.plus g
      { l with gap := some (DTok.gap x, i), pend := none }.noteLoss lost sat

/-- Put a token into a new data slot, with the pending gap before it; a raddle leaves the gap pending (R78). -/
def LinkSt.enqueue (l : LinkSt) (now : Nat) (t : Tok) (half : Bool) : LinkSt :=
  let l := if t.isRaddle then l else l.placeGap
  { l with slots := l.slots ++ [⟨[(now, t)], half, false, false⟩] }

/-- The data slots that hold a token, and those in slot-return delay (R74, R86). -/
def LinkSt.occupancy (l : LinkSt) : Nat := l.slots.length + l.delays.countP Delay.slot

/-- The report of R400, if any weight was lost, and the link with its total cleared. -/
def LinkSt.report (l : LinkSt) : LinkSt × Option (Nat × Bool) :=
  ({ l with satLost := 0, satGap := false }, if l.satLost != 0 then some (l.satLost, l.satGap) else none)

/-! Arrival. -/

/-- MERGE of two payloads (R77): integer add wraps at the lane width, FP32 add rounds RNE, minimum and maximum signed. -/
def mergePay (param : Nat) (a b : Payload) : Payload :=
  let op := param % 4
  let w := if op == 1 then 32 else 8 * 2 ^ fld param 2 2
  ofLanes w (((lanes w a).zip (lanes w b)).map fun x =>
    match op with
    | 0 => (x.1 + x.2) % 2 ^ w
    | 1 => (FF.fp32.add false x.1 x.2).1
    | 2 => if sextInt w x.1 ≤ sextInt w x.2 then x.1 else x.2
    | _ => if sextInt w x.1 ≤ sextInt w x.2 then x.2 else x.1)

/-- A converter slot's word (R203): source, target, mode, saturate. -/
def convFields (c : Nat) : Nat × Nat × Nat × Bool := (fld c 8 4, fld c 4 4, fld c 1 3, fld c 0 1 == 1)

/-- A payload narrowed by a converter slot and widened back (R80). -/
def narrowPay (conv : Nat) (p : Payload) : Payload :=
  let (src, dst, mode, sat) := convFields conv
  let w := fmtWidth src
  ofLanes w ((lanes w p).map fun x => (convert dst src 0 false 0 (convert src dst mode sat 0 x).1).1)

/-- Replace the last slot of a link. -/
def LinkSt.setLast (l : LinkSt) (f : LSlot → LSlot) : LinkSt := { l with slots := l.slots.modify (l.slots.length - 1) f }

/-- A void record in place of a record whose payload is lost (R398). -/
def DTok.voided (t : DTok) : DTok := { DTok.void true t.domain t.seq with deps := t.deps }

/-- What an arrival reports: weight lost to saturation (R400), or a voided tail (R399). -/
structure LinkReport where
  sat : Option (Nat × Bool)
  voided : Option (Nat × Nat × Bool)
  deriving DecidableEq, Repr

/-- An arrival that only enqueues or discards reports nothing. -/
def LinkReport.nothing : LinkReport := ⟨none, none⟩

/-- Whether a token counts as a record for a link (R67). -/
def DTok.recordLike (t : DTok) : Bool := t.isRecord || t.isVoid

/-- A record that arrives with T ≤ o < N under MERGE (R77, R399). A void record is no merge target; one that arrives is
combined like any record, payload and ERR included.
(DEDUCED, log 110.) -/
def LinkSt.merge (l : LinkSt) (now : Nat) (t : DTok) : LinkSt × LinkReport :=
  match l.slots.getLast? with
  | none => (l.enqueue now (.data t) false, .nothing)
  | some s =>
    match s.toks.getLast? with
    | some (a, .data x) =>
      if s.badPay && x.recordLike then
        let v := { s with toks := s.toks.dropLast ++ [(a, .data x.voided)], badPay := false }
        ((l.setLast fun _ => v).discard t t.weight.toNat, ⟨none, some (x.seq.toNat, x.weight.toNat, false)⟩)
      else if x.isRecord then
        let (w, lost) := satWeight (x.weight.toNat + t.weight.toNat)
        let y := { x with pay := mergePay l.cfg.param x.pay t.pay, weight := BitVec.ofNat 16 w, deps := x.deps ++ t.deps }
        ((l.setLast fun s => { s with toks := s.toks.dropLast ++ [(a, .data y)] }).noteLoss lost false, .nothing)
      else (l.discard t t.weight.toNat, .nothing)
    | _ => (l.discard t t.weight.toNat, .nothing)

/-- A record that arrives with T ≤ o < N under NARROW (R80, R398). A void record keeps its payload (R67).
(DEDUCED, log 110.) -/
def LinkSt.narrow (l : LinkSt) (conv now : Nat) (t : DTok) : LinkSt × LinkReport :=
  let y : DTok := { t with pay := if t.isVoid then t.pay else narrowPay conv t.pay, narrow := true }
  match l.slots.getLast? with
  | some ⟨[(a, .data x)], true, bp, bs⟩ =>
    if bp && x.recordLike then
      ((l.setLast fun _ => ⟨[(a, .data x.voided)], false, false, bs⟩).enqueue now (.data y) true,
        ⟨none, some (x.seq.toNat, x.weight.toNat, true)⟩)
    else if (x.seq + 1 == t.seq) && x.weight == t.weight then
      (l.placeGap.setLast fun _ => ⟨[(a, .data x), (now, .data y)], false, bp, bs⟩, .nothing)
    else (l.enqueue now (.data y) true, .nothing)
  | _ => (l.enqueue now (.data y) true, .nothing)

/-- A record or void record arrives at a culled link's tail (R75 to R80). -/
def LinkSt.cull (l : LinkSt) (conv now : Nat) (t : DTok) : LinkSt × LinkReport :=
  let o := l.occupancy
  let k := l.cfg.param + 1
  if o < l.cfg.thresh then
    let e := l.episode
    let l := { l with episode := false }.enqueue now (.data t) false
    let (l, r) := if e then l.report else (l, none)
    (l, ⟨r, none⟩)
  else
    let c := if l.episode then (l.sample + 1) % k else k % k
    let l := { l with episode := true, sample := if l.cfg.policy == 2 then c else l.sample }
    if o ≥ l.cfg.slots then
      let w := if l.cfg.policy == 2 then (if c == 0 then (satWeight (t.weight.toNat * k)).1 else 0) else t.weight.toNat
      (l.discard t w, .nothing)
    else
      match l.cfg.policy with
      | 1 => (l.discard t t.weight.toNat, .nothing)
      | 2 =>
        if c == 0 then
          let (w, lost) := satWeight (t.weight.toNat * k)
          ((l.noteLoss lost false).enqueue now (.data { t with weight := BitVec.ofNat 16 w }) false, .nothing)
        else (l.discard t 0, .nothing)
      | 3 => l.merge now t
      | _ => l.narrow conv now t

/-- A stop, producer's gap or raddle enters a culled link (R79); the gap that belongs after it becomes the pending gap, or joins
the one that a raddle has left pending. -/
def LinkSt.enterStop (l : LinkSt) (now : Nat) (t : Tok) (after : Option Gap) : LinkSt × LinkReport :=
  let l := l.enqueue now t false
  let l := match l.pend, after with
    | some g, some x =>
      let (y, lost, sat) := g.plus x
      { l with pend := some y }.noteLoss lost sat
    | none, x => { l with pend := x }
    | some _, none => l
  let (l, r) := if t.isStop then l.report else (l, none)
  (l, ⟨r, none⟩)

/-- A culled link. -/
def LinkSt.culled (l : LinkSt) : Bool := l.cfg.policy != 0

/-- In how many of 16 bytes two payloads differ. -/
def byteDiff (a b : Payload) : Nat := ((payBytes a).zip (payBytes b)).countP fun x => x.1 != x.2

/-- Whether an arriving record joins a slot (R85). -/
def LSlot.joins (s : LSlot) (t : DTok) : Bool :=
  match s.toks.getLast? with
  | some (_, .data x) =>
    s.toks.length < 4 && t.recordLike && x.kind == t.kind && x.domain == t.domain && x.narrow == t.narrow &&
    x.weight == t.weight && (t.pay == 0 || byteDiff x.pay t.pay ≤ 4)
  | _ => false

/-- Whether an arriving record joins the last slot of a COMPRESS link (R85). -/
def LinkSt.joinsLast (l : LinkSt) (t : Tok) : Bool :=
  match t, l.slots.getLast? with
  | .data d, some s => l.cfg.compress && l.occupancy ≥ l.cfg.thresh && s.joins d
  | _, _ => false

/-- A token arrives at the tail (R70, R75, R79, R85); true when it joins a slot and so returns a credit at once. -/
def LinkSt.arrive (l : LinkSt) (conv now : Nat) (t : Tok) : LinkSt × LinkReport × Bool :=
  if l.culled then
    match t with
    | .data d =>
      if d.recordLike then let (l, r) := l.cull conv now d; (l, r, false)
      else if l.occupancy < l.cfg.slots && l.waiting.isEmpty then
        let (l, r) := l.enterStop now t none
        (l, r, false)
      else ({ l with waiting := l.waiting ++ [(t, none)] }, .nothing, false)
    | .ctl _ => (l.enqueue now t false, .nothing, false)
  else if l.joinsLast t then (l.setLast fun s => { s with toks := s.toks ++ [(now, t)] }, .nothing, true)
  else (l.enqueue now t false, .nothing, false)

/-- A stop or a producer's gap token. -/
def Tok.stopLike : Tok → Bool
  | .data d => d.isStop || d.isGap
  | .ctl _ => false

/-- Whether eight stops or gaps wait, so that no other can (R79). -/
def LinkSt.waitsFull (l : LinkSt) : Bool := 8 ≤ l.waiting.countP fun x => x.1.stopLike

/-- A ninth stop or gap that reaches the tail cannot wait (R79, R397). -/
def LinkSt.overruns (l : LinkSt) (t : Tok) : Bool := l.culled && l.waitsFull && t.stopLike

/-! The head. -/

/-- The token at a link's head that may be dequeued at a time (R70, R72, R81). -/
def LinkSt.head? (l : LinkSt) (now : Nat) : Option Tok :=
  match l.offer with
  | some (t, _) => some t
  | none =>
    match l.slots with
    | [] => none
    | s :: _ =>
      match s.toks with
      | [] => none
      | (a, t) :: _ => if a < now then (match l.gap with | some (g, 0) => some (.data g) | _ => some t) else none

/-- What a dequeue does to a link without an offer: the token, the link, whether a slot was freed (and not only the gap
slot or a place in a slot), and the event of R398. -/
structure Popped where
  tok : Tok
  link : LinkSt
  freed : Bool
  voided : Option (Nat × Nat × Bool)
  sideError : Bool
  deriving DecidableEq, Repr

/-- Dequeue the head (R81, R398): an uncorrectable payload of a record, or of both records of a packed slot, becomes a void
record; in any other token, and in a sideband, the error is reported. -/
def LinkSt.pop (l : LinkSt) : Option Popped :=
  match l.slots with
  | [] => none
  | s :: rest =>
    match s.toks with
    | [] => none
    | (_, t) :: more =>
      match l.gap with
      | some (g, 0) => some ⟨.data g, { l with gap := none, gapBad := false }, false, none, l.gapBad⟩
      | _ =>
        let void := fun (x : Nat × Tok) => match x with
          | (a, .data d) => if d.recordLike then (a, Tok.data d.voided) else x
          | _ => x
        let (t, v, more) : Tok × Option (Nat × Nat × Bool) × List (Nat × Tok) := match t with
          | .data d =>
            if s.badPay && d.recordLike then
              let packed := l.cfg.policy == 4 && d.narrow
              let lost := d.weight.toNat + (if packed then (more.map fun x => match x.2 with | .data y => y.weight.toNat | .ctl _ => 0).sum else 0)
              (.data d.voided, some (d.seq.toNat, lost, packed), if packed then more.map void else more)
            else (t, none, more)
          | .ctl _ => (t, none, more)
        let bad := s.badSide || (s.badPay && v.isNone)
        let packed := v.any fun x => x.2.2
        let l := { l with gap := l.gap.map fun (x : DTok × Nat) => (x.1, x.2 - 1) }
        let link := if more.isEmpty then { l with slots := rest }
          else { l with slots := { s with toks := more, badPay := s.badPay && !packed, half := false } :: rest }
        some ⟨t, link, more.isEmpty, v, bad⟩

/-! Drained and free. -/

/-- Whether a link has drained (R45). -/
def LinkSt.drained (l : LinkSt) : Bool :=
  l.slots.isEmpty && l.gap.isNone && l.waiting.isEmpty && l.flight.isEmpty && l.back.isEmpty && l.offer.isNone &&
  (l.culled || (l.credits == l.cfg.slots && l.returning.isEmpty))

/-- Whether an output guard on the link counts as free (R28, R71, R72). -/
def LinkSt.guardFree (l : LinkSt) : Bool := l.culled || (if l.cfg.slots == 0 then l.offer.isNone else l.credits > 0)

/-! A kiln's links. -/

/-- The link that leaves a tile by a port and VC; a target `Y.v` reaches the implied link into the channel, which the
model numbers port 8 (R88, R207). -/
def Kiln.linkFrom (k : Kiln) (t port vc : Nat) (plane : Bool) : Option Nat :=
  let port := if port == 7 then 8 else port
  k.links.findIdx? fun l => l.cfg.src == t && l.cfg.port == port && l.cfg.svc == vc && l.cfg.plane == plane

/-- The link whose tail an input VC is. -/
def Kiln.linkInto (k : Kiln) (t vc : Nat) (plane : Bool) : Option Nat :=
  k.links.findIdx? fun l => l.cfg.dst == t && l.cfg.port != 8 && l.cfg.dvc == vc && l.cfg.plane == plane

/-- Hops of a route in the die's grid of 81 columns and 64 rows (R69); a link to its own tile takes one. -/
def gridCol (cols t : Nat) : Nat := 9 * (t / 128 % max 1 cols) + (if t % 128 < 64 then t % 8 else 8)
def gridRow (cols t : Nat) : Nat := 8 * (t / 128 / max 1 cols) + (if t % 128 < 64 then t % 64 / 8 else t % 8)
def hopsOf (cols a b : Nat) : Nat :=
  max 1 (((gridCol cols a : Int) - gridCol cols b).natAbs + ((gridRow cols a : Int) - gridRow cols b).natAbs)

/-- A link at placement or at the start of a context (R64, R71, R74). -/
def LinkSt.start (cfg : LinkCfg) (hops : Nat) : LinkSt where
  cfg := cfg
  hops := hops
  slots := []
  gap := none
  gapBad := false
  pend := none
  waiting := []
  flight := []
  credits := cfg.slots
  returning := []
  delays := []
  sample := 0
  episode := false
  satLost := 0
  satGap := false
  seqCtr := 0
  offer := none
  sentAt := none
  sealed := false
  back := []

/-- Whether a cycle of a tile has begun. -/
def Kiln.begun (k : Kiln) (now t cyc : Nat) : Bool :=
  let t := k.tileD t
  cyc < t.cyc || (cyc == t.cyc && t.cycAt ≤ now)

/-- The first cycle of a tile that begins at or after a time.
(DEDUCED, log 12.) -/
def Kiln.boundary (k : Kiln) (t : TileSt) (x : Nat) : Nat :=
  let p := k.period t
  if x ≤ t.cycAt then t.cyc else t.cyc + (x - t.cycAt + p - 1) / p

/-- The cycle of the destination in which a token sent in the source's present cycle reaches the tail (R70): on one spine, as
the tiles run now (R379), `h` cycles on. -/
def Kiln.arriveAt (k : Kiln) (src dst : TileSt) (h : Nat) : Nat :=
  if k.spineOf src == k.spineOf dst then dst.cyc + h
  else k.boundary dst (src.cycAt + k.period src) + h + 2

/-- The slot-return delay of a link (R86, R379). -/
def Kiln.delayOf (k : Kiln) (l : LinkSt) : Nat := min 255 (k.throttle * l.cfg.cls)

/-- The producer's cycle from which the credit is usable that leaves the consumer in its present cycle (R71). -/
def Kiln.creditAt (k : Kiln) (src dst : TileSt) (h : Nat) : Nat :=
  if k.spineOf src == k.spineOf dst then src.cyc + h
  else k.boundary src (dst.cycAt + k.period dst) + h + 2

/-- Send `n` credits to the producer. -/
def Kiln.sendCredits (k : Kiln) (l : LinkSt) (n : Nat) : LinkSt :=
  if l.culled then l
  else { l with returning := l.returning ++ List.replicate n (k.creditAt (k.tileD l.cfg.src) (k.tileD l.cfg.dst) l.hops) }

/-- A dequeue, or a join under COMPRESS (`slot` false), gives its credit or slot back after the slot-return delay (R71, R85,
R86). -/
def Kiln.giveBack (k : Kiln) (l : LinkSt) (slot : Bool) : LinkSt :=
  let d := k.delayOf l
  if d == 0 then k.sendCredits l 1 else { l with delays := l.delays ++ [⟨(k.tileD l.cfg.dst).cyc + d, slot⟩] }

/-- The slot-return delays that have ended give back their credits. -/
def Kiln.endDelays (k : Kiln) (now : Nat) (l : LinkSt) : LinkSt :=
  let ended := fun x : Delay => k.begun now l.cfg.dst x.due
  k.sendCredits { l with delays := l.delays.filter fun x => !ended x } (l.delays.countP ended)

/-- The credits that have reached the producer become usable (R71). -/
def Kiln.takeCredits (k : Kiln) (now : Nat) (l : LinkSt) : LinkSt :=
  let here := fun x => k.begun now l.cfg.src x
  { l with credits := l.credits + l.returning.countP here, returning := l.returning.filter fun x => !here x }

/-- The fault request of a link event (R397): word 2 names the consumer tile, word 3 the SEQ. -/
def Kiln.linkReq (k : Kiln) (dst cause cls seq w6 w7 : Nat) : FaultReq :=
  { k.faultReq dst 0 0 0 cause cls w6 w7 with w3 := seq }

/-- Post the events of an arrival or a dequeue (R398, R400). -/
def State.postLink (s : State) (k dst : Nat) (r : LinkReport) : State :=
  match s.kiln? k with
  | none => s
  | some kl =>
    let s := match r.voided with
      | some (seq, w, packed) => s.postEvent (kl.linkReq dst 0x3D 2 seq (seq + packed.toNat * 2 ^ 23) w)
      | none => s
    match r.sat with
    | some (w, g) => s.postEvent (kl.linkReq dst 0x3E 2 0 g.toNat w)
    | none => s

/-- The converter slot a NARROW link uses, on its source tile (R73). -/
def Kiln.narrowConv (k : Kiln) (l : LinkSt) : Nat := (k.tileD l.cfg.src).conv.getD (l.cfg.param % 4) 0

/-! Sending. -/

/-- Whether a link takes a token sent in its source's present cycle (R32, R70 to R72). -/
def Kiln.canSend (k : Kiln) (l : LinkSt) : Bool :=
  l.sentAt != some (k.tileD l.cfg.src).cycAt && l.guardFree

/-- Send a token on a link with a buffer: numbering (R64), credit, flight (R70). -/
def Kiln.launchTok (k : Kiln) (l : LinkSt) (t : Tok) (keepSeq : Bool) (by_ : Sender) : LinkSt :=
  let src := k.tileD l.cfg.src
  let number := l.culled && !keepSeq && (t.kind == 0 || t.kind == 4)
  let t := match t with
    | .data d => if number then .data { d with seq := l.seqCtr } else t
    | .ctl _ => t
  { l with
    seqCtr := if number then l.seqCtr + 1 else l.seqCtr
    credits := if l.culled then l.credits else l.credits - 1
    flight := l.flight ++ [⟨k.arriveAt src (k.tileD l.cfg.dst) l.hops, t, by_⟩]
    sentAt := some src.cycAt }

end Sys2Proof.Machine
end

