-- ==== Sys2Proof/Machine/Tile.lean ====
section
/-! DEFINITION. How a tile runs blocks: headers and fetching (R195, R200, R201), VC heads, firing (R28 to R30, R35),
readiness (R30, R32), the context in which an instruction is executed, and the one way in which its results are recorded
(R31, R32), sent (R25) and completed (R33, R107). Every tile instruction's meaning is an `Issue` of its operands. -/

namespace Sys2Proof.Machine

/-! Block headers. -/

/-- An input binding (R200). -/
structure Bind where
  isLazy : Bool
  plane : Bool
  vc : Nat
  slot : Nat
  pos : Pos
  deriving DecidableEq, Repr

/-- An output guard (R200). -/
structure Guard where
  plane : Bool
  port : Nat
  vc : Nat
  deriving DecidableEq, Repr

/-- A block header (R200), position by position. -/
structure Header where
  count : Nat
  keepSeq : Bool
  noGuard : Bool
  anyIn : Bool
  task : Nat
  binds : List (Option Bind)
  guards : List (Option Guard)
  deriving DecidableEq, Repr

/-- Read 16 bits as a binding. -/
def Bind.ofNat (n : Nat) : Option Bind :=
  if fld n 15 1 == 1 then some ⟨fld n 14 1 == 1, fld n 13 1 == 1, fld n 10 3, fld n 3 7, Pos.ofCode (fld n 1 2)⟩ else none

/-- Read 8 bits as a guard. -/
def Guard.ofNat (n : Nat) : Option Guard :=
  if fld n 7 1 == 1 then some ⟨fld n 6 1 == 1, fld n 3 3, fld n 0 3⟩ else none

/-- Read a 128-bit header. -/
def Header.ofNat (n : Nat) : Header where
  count := fld n 117 7 + 1
  keepSeq := fld n 111 1 == 1
  noGuard := fld n 110 1 == 1
  anyIn := fld n 109 1 == 1
  task := fld n 96 3
  binds := (List.range 4).map fun i => Bind.ofNat (fld n (32 + 16 * i) 16)
  guards := (List.range 4).map fun i => Guard.ofNat (fld n (8 * i) 8)

/-- A header in the instruction store (R200). -/
def State.headerWord (s : State) (k : Kiln) (t b : Nat) : Nat := s.num (k.pa t 4 (0x4000 + 16 * b)) 16
def State.header (s : State) (k : Kiln) (t b : Nat) : Header := Header.ofNat (s.headerWord k t b)

/-- Whether a block is used (R200). -/
def State.blockUsed (s : State) (k : Kiln) (t b : Nat) : Bool := b < 32 && fld (s.headerWord k t b) 124 4 == 0xB

/-- The word at which a block starts (R201). -/
def State.blockStart (s : State) (k : Kiln) (t : Nat) : Nat → Nat
  | 0 => 0
  | b + 1 => s.blockStart k t b + (s.header k t b).count

/-- The instruction word at a slot of a block (R195, R201). -/
def State.slotWord (s : State) (k : Kiln) (t b slot : Nat) : Nat := s.num (k.pa t 4 (8 * (s.blockStart k t b + slot))) 8

/-- The position that a target code of a word names in the same block, if it names one (R197). -/
def slotTarget (code : Nat) : Option (Nat × Pos) := if code < 512 then some (fld code 2 7, Pos.ofCode (fld code 0 2)) else none

/-- The required positions of a block (R30). -/
def State.required (s : State) (k : Kiln) (t b : Nat) : List (Nat × Pos) :=
  let h := s.header k t b
  (h.binds.filterMap fun x => x.bind fun y => if y.isLazy then none else some (y.slot, y.pos)) ++
  (List.range h.count).flatMap fun i =>
    let w := s.slotWord k t b i
    (slotTarget (fld w 42 10)).toList ++ (slotTarget (fld w 32 10)).toList

/-! VC heads. -/

/-- Where the head token of an input VC stands. -/
inductive VcSrc where
  | arg (i : Nat)
  | tick
  | link (l : Nat)
  deriving DecidableEq, Repr

/-- The head token of an input VC (R29, R44, R70, R87), a raddle included. -/
def Kiln.vcRaw (k : Kiln) (t : TileSt) (vc : Nat) (plane : Bool) (now : Nat) : Option (Tok × VcSrc) :=
  match if plane then none else k.argq.findIdx? fun a => a.tile == t.id && a.vc == vc with
  | some i => (k.argq[i]?).bind fun a => if a.at_ < now then some (a.tok, .arg i) else none
  | none =>
    match if plane || vc != 7 then none else t.tick with
    | some tk => tk.queue.head?.bind fun x => if x.2 < now then some (Tok.val (BitVec.ofNat 64 x.1), .tick) else none
    | none => (k.linkInto t.id vc plane).bind fun l => (k.links[l]?).bind fun x => (x.head? now).map fun y => (y, .link l)

/-- Whether a VC is a declared sink (R44). -/
def Kiln.isSink (k : Kiln) (t vc : Nat) (plane : Bool) : Bool := k.sinks.any fun x => x.1 == plane && x.2.1 == t && x.2.2.1 == vc

/-- The head that a task may dequeue: a VC whose head is a raddle, or that is sealed, counts as empty (R58); so does a sink
VC whose head is a level-7 stop (R45). -/
def Kiln.vcHead (k : Kiln) (t : TileSt) (vc : Nat) (plane : Bool) (now : Nat) : Option (Tok × VcSrc) :=
  match k.vcRaw t vc plane now with
  | none => none
  | some (x, src) => if x.isRaddle || (x.isStop7 && k.isSink t.id vc plane) then none else some (x, src)

/-- Take a waiting send of an instruction out once its SLOTS 0 link has passed it (R72). -/
def Pending.sentOn (p : Pending) (port vc : Nat) (plane : Bool) : Pending :=
  let hit := fun x : Send => x.tok.plane == plane && x.tgt == .port (BitVec.ofNat 3 port) (BitVec.ofNat 3 vc)
  match p.sends.findIdx? hit with
  | some i => { p with sends := p.sends.eraseIdx i }
  | none => p

/-- A memory tile's read port after lane `v`, or its only queue, has sent its first token. -/
def TileSt.portSent (t : TileSt) (v : Option Nat) : TileSt :=
  { t with rport := t.rport.map fun p =>
      match v with
      | some v => { p with lanes := p.lanes.modify v fun q => q.drop 1 }
      | none => { p with outq := p.outq.drop 1 } }

/-- What sent a token that a link of SLOTS 0 has passed has it no longer (R72). -/
def State.offerTaken (s : State) (k : Nat) (c : LinkCfg) : OfferBy → State
  | .instr task slot => s.modPend k c.src task slot fun p => p.sentOn c.port c.svc c.plane
  | .port v => s.modTile k c.src fun t => t.portSent v
  | .rsu n => s.modKiln k fun kl => { kl with rsus := kl.rsus.modify n fun r => { r with out := r.out.drop 1 } }
  | .late => s

/-- Dequeue a head token (R29, R71, R72, R398): the token that is delivered, if any, and the state after.
(DEDUCED, log 40.) -/
def State.vcPop (s : State) (k t : Nat) (src : VcSrc) : Option Tok × State :=
  match s.kiln? k with
  | none => (none, s)
  | some kl =>
    match src with
    | .arg i => ((kl.argq[i]?).map VcTok.tok, s.modKiln k fun kl => { kl with argq := kl.argq.eraseIdx i })
    | .tick =>
      let tl := kl.tileD t
      ((tl.tick.bind fun x => x.queue.head?).map fun x => Tok.val (BitVec.ofNat 64 x.1),
        s.modTile k t fun tl => { tl with tick := tl.tick.map fun x => { x with queue := x.queue.drop 1 } })
    | .link l =>
      match kl.links[l]? with
      | none => (none, s)
      | some x =>
        match x.offer with
        | some (tok, by_) => (some tok, (s.modLink k l fun y => { y with offer := none }).offerTaken k x.cfg by_)
        | none =>
          match x.pop with
          | none => (none, s)
          | some p =>
            let y := if p.freed then kl.giveBack p.link true else p.link
            let s := s.modLink k l fun _ => y
            let s := s.postLink k x.cfg.dst ⟨none, p.voided⟩
            if p.sideError then
              (none, s.stopBy k (kl.linkReq x.cfg.dst 0x3F 0 (match p.tok with | .data d => d.seq.toNat | .ctl _ => 0)
                (x.cfg.dst + x.cfg.dvc * 2 ^ 13 + x.cfg.plane.toNat * 2 ^ 16) 0) x.cfg.dst 0 0 0)
            else (some p.tok, s)

/-! Firing. -/

/-- Whether a valid output guard counts as free (R28, R37). `back` gives back the credit or place that a send of the
present cycle has taken, for the count of R37 at the end of the cycle. -/
def Kiln.guardOk (k : Kiln) (t : TileSt) (back : Bool) (g : Guard) : Bool :=
  match k.linkFrom t.id g.port g.vc g.plane with
  | none => true
  | some l => ((k.links[l]?).map fun x => x.guardFree || (back && x.sentAt == some t.cycAt)).getD true

/-- Whether the input and guard conditions of a block hold (R28). -/
def Kiln.fireCond (k : Kiln) (t : TileSt) (h : Header) (now : Nat) (back : Bool) : Bool :=
  let binds := h.binds.filterMap fun x => x
  let has := fun b : Bind => (k.vcHead t b.vc b.plane now).isSome
  let eager := binds.filter fun b => !b.isLazy
  (if h.anyIn then eager.any has else eager.all has) &&
  (h.noGuard || (h.guards.filterMap fun x => x).all (k.guardOk t back))

/-- Whether an idle task's block may fire now (R28, R33, R229). -/
def State.mayFire (s : State) (k : Kiln) (t : TileSt) (task : Nat) : Bool :=
  let x := t.task task
  x.stat == .idle && !x.stopped && x.notBefore ≤ t.cyc && (t.exec? task).isNone &&
  t.execs.length + t.ended.length < 2 && !t.fired && k.fireCond t (s.header k t.id x.block) s.now false

/-- The task that fires, in ascending index after the one that fired last (R35). -/
def State.nextToFire (s : State) (k : Kiln) (t : TileSt) : Option Nat :=
  ((List.range 8).map fun i => (t.lastTask + 1 + i) % 8).find? (s.mayFire k t)

/-- Dequeue one token for each eager binding whose VC holds one, and deliver it to its position (R29); with the SEQ and WEIGHT of
the token of binding 0, whatever its KIND (R64).
(DEDUCED, log 27.) -/
def State.fireBinds (s : State) (k t : Nat) : List (Option Bind × Nat) → State × List Operand × Option (BitVec 23 × BitVec 16)
  | [] => (s, [], none)
  | (none, _) :: r => s.fireBinds k t r
  | (some b, i) :: r =>
    if b.isLazy then s.fireBinds k t r
    else
      match s.kiln? k with
      | none => (s, [], none)
      | some kl =>
        let tl := kl.tileD t
        match kl.vcHead tl b.vc b.plane s.now with
        | none => s.fireBinds k t r
        | some (_, src) =>
          let (got, s) := s.vcPop k t src
          let (s, ops, ks) := s.fireBinds k t r
          match got with
          | none => (s, ops, ks)
          | some x =>
            (s, ⟨b.slot, b.pos, x, tl.cyc⟩ :: ops,
              match i, x with
              | 0, .data d => some (d.seq, d.weight)
              | _, _ => ks)

/-- Of the tokens delivered at firing, the first at each position, and those that reach a position already filled (R30). -/
def splitTwice : List Operand → List Operand × List Operand
  | [] => ([], [])
  | o :: r =>
    let (a, b) := splitTwice r
    let same := fun x : Operand => x.slot == o.slot && x.pos == o.pos
    (o :: a.filter (fun x => !same x), a.filter same ++ b)

/-- A second token reaches a position: OPERAND_TWICE (R387). -/
def State.operandTwice (s : State) (k t task block slot : Nat) (pos : Pos) (tok : Tok) : State :=
  match s.kiln? k with
  | none => s
  | some kl => s.stopKiln k (kl.faultReq t task block slot 0x05 0 (slot + pos.code * 2 ^ 8) tok.word.toNat) t task slot 0

/-- A task's current block fires (R29, R35). -/
def State.fire (s : State) (k t task : Nat) : State :=
  match s.kiln? k with
  | none => s
  | some kl =>
    let tl := kl.tileD t
    let b := (tl.task task).block
    let h := s.header kl t b
    let need := s.required kl t b
    let (s, ops, ks) := s.fireBinds k t (h.binds.zip (List.range 4))
    let (ops, twice) := splitTwice ops
    let s := s.modTile k t fun tl =>
      { (tl.setTask task { tl.task task with stat := .active }) with
        fired := true
        lastTask := task
        nextNo := tl.nextNo + 1
        execs := tl.execs ++ [⟨task, b, tl.nextNo, tl.cyc, need, ops, [], [], none, if h.keepSeq then some (ks.getD (0, 1)) else none⟩] }
    twice.foldl (fun s o => s.operandTwice k t task b o.slot o.pos o.tok) s

/-! Readiness. -/

/-- Whether the executing slot's required positions all hold a token from an earlier cycle (R29, R30). -/
def Exec.filled (x : Exec) (slot cyc : Nat) : Bool :=
  x.firedAt < cyc && (x.need.filter fun n => n.1 == slot).all fun n =>
    x.toks.any fun o => o.slot == slot && o.pos == n.2 && o.cyc < cyc

/-- G and D of R121 for a lane format. -/
def arowTiming (fmt : Nat) : Nat × Nat :=
  match fmt with
  | 0xA | 0xB => (9, 16)
  | 0 => (16, 8)
  | _ => (8, 16)

/-- The AROWs under way: the cycle of issue of each, and whether its row buffer is taken: up to the end of the cycle of its consumed
event (R122).
(DESIGN CHOICE, log 130.) -/
def TileSt.arows (t : TileSt) : List (Nat × Bool) :=
  t.execs.flatMap fun x => x.pend.filterMap fun p => match p.work with
    | .arow _ _ f _ _ _ c sums => some (c, sums.isNone || t.cyc < c + (arowTiming f).2 + 2)
    | _ => none

/-- Whether a free row buffer and the row period let an AROW issue (R122). -/
def TileSt.arowFits (t : TileSt) (d : Nat) : Bool :=
  (t.arows.countP Prod.snd) < 2 && (t.arows.map Prod.fst ++ t.arowAt.toList).all fun c => c + d ≤ t.cyc

/-- What else an instruction needs to be ready: the divider (R225) and the row buffers (R122).
(DESIGN CHOICE, log 134.) -/
def TileSt.fits (t : TileSt) : Instr → Bool
  | .divs _ _ _ | .divu _ _ _ | .rems _ _ _ | .remu _ _ _ => t.divFree ≤ t.cyc
  | .arow _ fs _ _ _ _ => t.arowFits (arowTiming (t.fmt.getD fs.toNat 0)).2
  | _ => true

/-- The plane on which an instruction word issues, from its opcode (R198); TAKE's follows its VC. -/
def dataPlaneOp (op : Nat) : Bool :=
  match op / 16 with
  | 4 | 5 | 6 => true
  | 7 => op == 0x71 || op == 0x73 || op == 0x74 || op == 0x75 || (0x79 ≤ op && op ≤ 0x7C)
  | 8 => op == 0x81 || op == 0x83
  | 0xA => op == 0xA3 || op == 0xA4
  | 0xB => true
  | 0xC => op == 0xC0 || op == 0xC1 || op == 0xC3 || op == 0xC4
  | 0xD => op ≤ 0xD6
  | _ => false

/-- The plane on which the instruction in a slot issues (R198). -/
def slotPlane (h : Header) (slot w : Nat) : Bool :=
  let op := fld w 56 8
  if op == 0xA8 then (h.binds.filterMap fun x => x).any fun b => b.isLazy && b.plane && b.slot == slot && b.vc == fld w 0 3
  else dataPlaneOp op

/-- The slots of an execution that are ready on a plane, with their words, in ascending order (R32). -/
def State.readySlots (s : State) (k : Kiln) (t : TileSt) (x : Exec) (plane : Bool) : List (Nat × Nat) :=
  if (t.task x.task).stopped then []
  else
    let h := s.header k t.id x.block
    let start := s.blockStart k t.id x.block
    (List.range h.count).filterMap fun i =>
      if x.issued.contains i || !x.filled i t.cyc then none
      else
        let w := s.num (k.pa t.id 4 (8 * (start + i))) 8
        if slotPlane h i w == plane then some (i, w) else none

/-- An instruction, or a word that decodes to none, that issues next on a plane of a tile (R32): task, slot, instruction. -/
def State.nextIssue (s : State) (k : Kiln) (t : TileSt) (plane : Bool) : Option (Nat × Nat × Option Instr) :=
  t.execs.findSome? fun x =>
    (s.readySlots k t x plane).findSome? fun y =>
      match decodeTileNat y.2 with
      | .ok i => if t.fits i then some (x.task, y.1, some i) else none
      | .error _ => some (x.task, y.1, none)

/-! The context of an instruction. -/

/-- What a tile instruction acts on: the actor that the cursor names, and the tokens at the slot's positions. -/
structure Ctx where
  k : Kiln
  t : TileSt
  x : Exec
  task : Nat
  slot : Nat
  a : Option Tok
  b : Option Tok
  c : Option Tok
  p : Option Tok
  deriving DecidableEq, Repr

/-- The token that a position of a slot has received. -/
def Exec.operand (x : Exec) (slot : Nat) (pos : Pos) : Option Tok := (x.toks.find? fun o => o.slot == slot && o.pos == pos).map Operand.tok

/-- The context that the cursor names. -/
def State.ctx? (s : State) : Option Ctx :=
  match s.cursor with
  | .tile k t task slot =>
    match s.kiln? k with
    | none => none
    | some kl =>
      match kl.tile? t with
      | none => none
      | some tl =>
        match tl.exec? task with
        | none => none
        | some x => some ⟨kl, tl, x, task, slot, x.operand slot .a, x.operand slot .b, x.operand slot .c, x.operand slot .p⟩
  | _ => none

/-- The value of a control operand; a position that nothing names reads 0 (R223, R278, R306). -/
def ctlVal (o : Option Tok) : Word :=
  match o with
  | some t => t.word
  | none => 0

/-- A data operand; a position that nothing names reads as a record of payload 0.
(DESIGN CHOICE, log 24.) -/
def dataVal (o : Option Tok) : DTok :=
  match o with
  | some (.data d) => d
  | some (.ctl t) => DTok.record (t.val.setWidth 128) false
  | none => DTok.record 0 false

def Ctx.av (c : Ctx) : Word := ctlVal c.a
def Ctx.bv (c : Ctx) : Word := ctlVal c.b
def Ctx.cv (c : Ctx) : Word := ctlVal c.c
def Ctx.pv (c : Ctx) : Word := ctlVal c.p
def Ctx.ad (c : Ctx) : DTok := dataVal c.a
def Ctx.bd (c : Ctx) : DTok := dataVal c.b
def Ctx.cd (c : Ctx) : DTok := dataVal c.c

/-- The task's registers. -/
def Ctx.tsk (c : Ctx) : TaskSt := c.t.task c.task

/-- The accesses in flight that are ob before what the instruction sends (R177). -/
def Ctx.deps (c : Ctx) : List Nat := ((c.a.toList ++ c.b.toList ++ c.c.toList ++ c.p.toList).flatMap Tok.deps).eraseDups

/-- Whether PM nullifies the instruction (R31, R196). -/
def Ctx.nullified (c : Ctx) : Pred → Bool
  | .always => false
  | .ifNonzero => c.pv == 0
  | .ifZero => c.pv != 0

/-- The format code in a format slot (R97), and a converter slot (R98). -/
def Ctx.fmt (c : Ctx) (fs : BitVec 2) : Nat := c.t.fmt.getD fs.toNat 0
def Ctx.conv (c : Ctx) (i : BitVec 2) : Nat × Nat × Nat × Bool := convFields (c.t.conv.getD i.toNat 0)

/-! Issuing. -/

/-- A stop cause that an instruction raises when it issues (R385, R387, R397). -/
structure Cause where
  code : Nat
  w6 : Nat
  w7 : Nat
  deriving DecidableEq, Repr

/-- What an instruction does at issue: its sends with the cycles in which they are due, the cycle of completion, flags,
the accesses ob before its results, the work left and the cycle of its first action, an exit, the task's registers, the
current bank and the divider's time, a stop cause, and whether an instruction that raised one stays issued. -/
structure Issue where
  sends : List Send
  doneAt : Nat
  fl : Fl
  deps : List Nat
  work : Work
  next : Nat
  exit : Option ExitKind
  tsk : TaskSt
  bank : Nat
  divFree : Nat
  cause : Option Cause
  stays : Bool

/-- An instruction that does nothing and completes in the cycle in which it issues. -/
def Ctx.nothing (c : Ctx) : Issue where
  sends := []
  doneAt := c.t.cyc
  fl := {}
  deps := c.deps
  work := .finish
  next := c.t.cyc
  exit := none
  tsk := c.tsk
  bank := c.t.bank
  divFree := c.t.divFree
  cause := none
  stays := true

/-- Send tokens after a latency, then complete.
(DEDUCED, log 13.) -/
def Ctx.send2 (c : Ctx) (lat : Nat) (ta : Target) (x : Tok) (tb : Target) (y : Tok) : Issue :=
  { c.nothing with sends := [⟨ta, x, c.t.cyc + lat⟩, ⟨tb, y, c.t.cyc + lat⟩], doneAt := c.t.cyc + lat }

/-- Send one token to both targets after a latency (R224). -/
def Ctx.emit (c : Ctx) (lat : Nat) (ta tb : Target) (x : Tok) : Issue := c.send2 lat ta x tb x

/-- Raise a stop cause; a stopped instruction completes nothing (R385, R397). -/
def Ctx.stop (c : Ctx) (code w6 w7 : Nat) : Issue := { c.nothing with cause := some ⟨code, w6, w7⟩, stays := false }

/-- The targets that carry order tokens when a memory instruction is nullified (R31). -/
inductive OrderTo where
  | both
  | second
  | neither
  deriving DecidableEq, Repr

/-- A nullified instruction (R31): a memory instruction sends its order token, unchanged, in the same cycle; a fresh one
stands for a C position that holds none.
(DEDUCED, log 28.) -/
def Ctx.nullIssue (c : Ctx) (o : OrderTo) (ta tb : Target) : Issue :=
  let tok := c.c.getD Tok.order
  match o with
  | .both => c.emit 0 ta tb tok
  | .second => { c.nothing with sends := [⟨tb, tok, c.t.cyc⟩] }
  | .neither => c.nothing

/-- Record an issue (R32): the slot is issued, its results wait, the plane's place of this cycle is used, and a stop
cause stops the kiln. -/
def State.issued (s : State) (c : Ctx) (plane : Bool) (ta tb : Target) (i : Issue) : State :=
  let p : Pending :=
    { slot := c.slot, no := c.t.nextNo, ta := ta, tb := tb
      sends := i.sends.map fun x => { x with tok := x.tok.withDeps (x.tok.deps ++ i.deps).eraseDups }
      flags := i.fl.fp, sat := i.fl.sat, doneAt := i.doneAt, deps := i.deps, work := i.work, next := i.next }
  let s := s.modTile c.k.id c.t.id fun tl =>
    { (tl.setTask c.task { i.tsk with stopped := (tl.task c.task).stopped }) with
      ctlIssued := tl.ctlIssued || !plane
      dataIssued := tl.dataIssued || plane
      nextNo := tl.nextNo + 1
      bank := i.bank
      divFree := i.divFree }
  let s := s.modExec c.k.id c.t.id c.task fun x =>
    { x with
      issued := x.issued ++ [c.slot]
      pend := if i.stays then x.pend ++ [p] else x.pend
      exit := match x.exit with
        | some e => some e
        | none => i.exit.map fun e => (c.slot, e) }
  match i.cause with
  | none => s
  | some f => s.stopKiln c.k.id (c.k.faultReq c.t.id c.task c.x.block c.slot f.code 0 f.w6 f.w7) c.t.id c.task c.slot 0

/-- A tile instruction whose meaning depends on the state beyond its context. -/
def onTileS (s : State) (plane : Bool) (p : Pred) (o : OrderTo) (ta tb : Target) (f : State → Ctx → State × Issue) :
    Host.Outcome State Fault Refusal :=
  match s.ctx? with
  | none => .fault .noActor
  | some c => s.run fun s =>
    if c.nullified p then s.issued c plane ta tb (c.nullIssue o ta tb)
    else
      let (s, i) := f s c
      s.issued c plane ta tb i

/-- A tile instruction whose meaning is an `Issue` of its context. -/
def onTile (s : State) (plane : Bool) (p : Pred) (ta tb : Target) (f : Ctx → Issue) : Host.Outcome State Fault Refusal :=
  onTileS s plane p .neither ta tb fun s c => (s, f c)

/-! Sending and completing. -/

/-- Deliver a token into a slot of the same block execution (R25, R30); a second token raises OPERAND_TWICE (R387). -/
def State.toSlot (s : State) (k t task n : Nat) (pos : Pos) (tok : Tok) : State :=
  match s.kiln? k with
  | none => s
  | some kl =>
    let tl := kl.tileD t
    match tl.exec? task with
    | none => s
    | some x =>
      if x.toks.any fun o => o.slot == n && o.pos == pos then s.operandTwice k t task x.block n pos tok
      else s.modExec k t task fun x => { x with toks := x.toks ++ [⟨n, pos, tok, tl.cyc⟩] }

/-- A record as a block with KEEPSEQ sends it (R64). -/
def Tok.keepSeq (ks : Option (BitVec 23 × BitVec 16)) (t : Tok) : Tok :=
  match t, ks with
  | .data d, some (sq, w) => if d.isRecord then .data { d with seq := sq, weight := w } else t
  | _, _ => t

/-- Send one result now, if its destination accepts it (R25, R32, R64). A signal takes it when the instruction completes (R40).
(DEDUCED, log 27.) -/
def State.sendNow (s : State) (k t task no : Nat) (ks : Option (BitVec 23 × BitVec 16)) (by_ : Sender) (x : Send) : Option State :=
  match s.kiln? k with
  | none => none
  | some kl =>
    let tok := x.tok.keepSeq ks
    match x.tgt with
    | .null => some s
    | .slot n pos => some (s.toSlot k t task n.toNat pos tok)
    | .keep n => some (s.keepPut k t no n.toNat tok.value)
    | .signal _ => none
    | .port p vc =>
      match kl.linkFrom t p.toNat vc.toNat tok.plane with
      | none => some s
      | some l =>
        match kl.links[l]? with
        | none => some s
        | some y =>
          if y.cfg.policy == 0 && y.cfg.slots == 0 then none
          else if kl.canSend y then some (s.modLink k l fun y => kl.launchTok y tok ks.isSome by_)
          else none

/-- A result for a SLOTS 0 link shows at its head while it waits in the instruction (R72). -/
def State.offerNow (s : State) (k t : Nat) (ks : Option (BitVec 23 × BitVec 16)) (by_ : OfferBy) (x : Send) : Option State :=
  match s.kiln? k, x.tgt with
  | some kl, .port p vc =>
    (kl.linkFrom t p.toNat vc.toNat x.tok.plane).bind fun l => (kl.links[l]?).bind fun y =>
      if y.cfg.policy == 0 && y.cfg.slots == 0 && kl.canSend y then
        some (s.modLink k l fun y => { y with offer := some (x.tok.keepSeq ks, by_), sentAt := some (kl.tileD t).cycAt })
      else none
  | _, _ => none

/-- Send the due results of an instruction in order, keeping those that must wait. -/
def State.sendDue (s : State) (k t task : Nat) (x : Exec) (p : Pending) (cyc : Nat) : List Send → State × List Send
  | [] => (s, [])
  | y :: r =>
    if cyc < y.due then
      let (s, rest) := s.sendDue k t task x p cyc r
      (s, y :: rest)
    else
      match s.sendNow k t task p.no x.keepSeq (.slot task x.no p.slot) y with
      | some s => s.sendDue k t task x p cyc r
      | none =>
        let s := (s.offerNow k t x.keepSeq (.instr task p.slot) y).getD s
        let (s, rest) := s.sendDue k t task x p cyc r
        (s, y :: rest)

/-- The signal that a result writes. -/
def Send.signal? (x : Send) : Option Nat :=
  match x.tgt with
  | .signal n => some n.toNat
  | _ => none

/-- Whether an instruction has sent everything but its signal writes. -/
def Pending.sent (p : Pending) : Bool := p.sends.all fun x => x.signal?.isSome

/-- Whether an instruction completes in a cycle: nothing is left to do, and its signals take what is due (R32). -/
def Pending.completes (p : Pending) (cyc : Nat) : Bool :=
  p.work == .finish && p.sent && (p.sends.all fun x => x.due ≤ cyc) && p.doneAt ≤ cyc

/-- The signal writes among results: all of them complete in the cycle of the instruction's completion (R40). -/
def signalWrites (xs : List Send) : List (Nat × Bool) := xs.filterMap fun x => x.signal?.map fun n => (n, x.tok.value != 0)

/-- An instruction with nothing left to send or do completes: its flags are ORed in (R32, R107), and its signal writes are seen
sixteen cycles later (R40). -/
def State.tryComplete (s : State) (k t task slot : Nat) : State :=
  match (s.kiln? k).bind fun kl => (kl.tile? t).bind fun tl => (tl.exec? task).bind fun x => (x.pend? slot).map fun p => (tl, p) with
  | none => s
  | some (tl, p) =>
    if p.completes tl.cyc then
      ((s.modTask k t task fun y => { y with fpflags := y.fpflags ||| p.flags, satflag := y.satflag || p.sat }).modExec k t task
        fun x => { x with pend := x.pend.filter fun q => q.slot != slot }).modKiln k fun kl =>
          { kl with sigWrites := kl.sigWrites ++ (signalWrites p.sends).map fun w => (t, tl.cyc + 16, w) }
    else s

/-- Send what is due and complete if nothing is left. -/
def State.settle (s : State) (k t task slot : Nat) : State :=
  match (s.kiln? k).bind fun kl => (kl.tile? t).bind fun tl => (tl.exec? task).bind fun x => (x.pend? slot).map fun p => (tl, x, p) with
  | none => s
  | some (tl, x, p) =>
    let (s, rest) := s.sendDue k t task x p tl.cyc p.sends
    (s.modPend k t task slot fun q => { q with sends := rest }).tryComplete k t task slot

/-- Whether a due send could be accepted now. -/
def Kiln.accepts (k : Kiln) (t : TileSt) (x : Send) : Bool :=
  match x.tgt with
  | .port p vc =>
    match (k.linkFrom t.id p.toNat vc.toNat x.tok.plane).bind fun l => k.links[l]? with
    | some y => k.canSend y
    | none => true
  | .signal _ => false
  | _ => true

/-- Whether an instruction has something to send now, or completes now. -/
def Kiln.settles (k : Kiln) (t : TileSt) (p : Pending) : Bool :=
  (p.sends.any fun x => x.due ≤ t.cyc && k.accepts t x) || p.completes t.cyc

/-! The end of a block execution. -/

/-- Whether a stop that the execution sent waits in its instruction because eight wait at the tail (R397). -/
def Kiln.holdsBack (k : Kiln) (t : TileSt) (x : Exec) : Bool :=
  k.links.any fun l => l.cfg.src == t.id && l.back.any fun b => match b.2 with
    | .slot task no _ => task == x.task && no == x.no
    | .unit => false

/-- Whether a block execution ends now (R33): an exit has fired, or every slot has issued, and nothing is under way. -/
def State.ends (s : State) (k : Kiln) (t : TileSt) (x : Exec) : Bool :=
  x.pend.isEmpty && !k.holdsBack t x && !(t.task x.task).stopped && x.firedAt < t.cyc &&
  (x.exit.isSome || x.issued.length ≥ (s.header k t.id x.block).count)

/-- The task after its block execution ended in the tile's cycle `cyc` (R33, R229). -/
def TaskSt.leave (x : TaskSt) (cyc : Nat) (e : Option ExitKind) : TaskSt :=
  match e with
  | none => { x with stat := .idle, notBefore := cyc + 1 }
  | some (.to b) => { x with stat := .idle, block := b, notBefore := cyc + 1 }
  | some .halt => { x with stat := .halted }
  | some .ctxEnd => { x with stat := .ended }
  | some (.yield b d) => { x with stat := .idle, block := b, notBefore := cyc + 1 + d }

/-- A block execution ends (R33). -/
def State.endBlock (s : State) (k t task : Nat) : State :=
  s.modTile k t fun tl =>
    let e := (tl.exec? task).bind fun x => x.exit.map Prod.snd
    { (tl.setTask task ((tl.task task).leave tl.cyc e)) with
      execs := tl.execs.filter fun x => x.task != task
      ended := task :: tl.ended }

end Sys2Proof.Machine
end

