-- ==== Sys2Proof/Machine/Control.lean ====
section
/-! DEFINITION. Meanings of rows 0x0_ to 0x3_ and 0xE_: block control, predicates, scalars, and system instructions
(R222 to R250). -/

namespace Sys2Proof.Machine

/-! Scalar functions. -/

/-- The value token of a number modulo 2^64. -/
def intWord (x : Int) : Word := BitVec.ofInt 64 x

/-- MIN of R226. -/
def minWord : Word := 0x8000000000000000

/-- DIVU and REMU (R233). -/
def divu64 (a b : Word) : Word := if b == 0 then BitVec.allOnes 64 else BitVec.ofNat 64 (a.toNat / b.toNat)
def remu64 (a b : Word) : Word := if b == 0 then a else BitVec.ofNat 64 (a.toNat % b.toNat)

/-- DIVS (R233). -/
def divs64 (a b : Word) : Word :=
  if b == 0 then (if signed a ≥ 0 then intWord (-1) else 1)
  else if a == minWord && b == BitVec.allOnes 64 then minWord
  else intWord ((signed a).tdiv (signed b))

/-- REMS (R233). -/
def rems64 (a b : Word) : Word :=
  if b == 0 then a
  else if a == minWord && b == BitVec.allOnes 64 then 0
  else intWord (signed a - (signed a).tdiv (signed b) * signed b)

/-- The low six bits of a shift amount. -/
def shAmt (b : Word) : Nat := b.toNat % 64

/-- ROL (R232). -/
def rol64 (a b : Word) : Word := if shAmt b == 0 then a else (a <<< shAmt b) ||| (a >>> (64 - shAmt b))

/-- The numbers of 1 bits, leading and trailing zeros (R236). -/
def popc64 (a : Word) : Nat := (List.range 64).countP fun i => a.getLsbD i
def clz64 (a : Word) : Nat := ((List.range 64).find? fun i => a.getLsbD (63 - i)).getD 64
def ctz64 (a : Word) : Nat := ((List.range 64).find? fun i => a.getLsbD i).getD 64

/-- A field of `w` ones (R239). -/
def ones (w : Nat) : Word := BitVec.ofNat 64 (2 ^ w - 1)

/-- BFX (R239): `w` is the width. -/
def bfx64 (a : Word) (lo w : Nat) (sx : Bool) : Word :=
  let f := (a >>> lo) &&& ones w
  if sx && f.getLsbD (w - 1) then f ||| ~~~(ones w) else f

/-- BFI (R239). -/
def bfi64 (a b : Word) (lo w : Nat) : Word :=
  let m := ones w <<< lo
  (a &&& ~~~m) ||| ((b <<< lo) &&& m)

/-- LEA (R240). -/
def lea64 (a b : Word) (sh : Nat) (off : Word) : Word := a + (b <<< sh) + off

/-! Exits. -/

/-- One of the exits of a block execution; a second raises MULTI_EXIT (R34, R227 to R229, R387). -/
def Ctx.exits (c : Ctx) (e : ExitKind) : Issue :=
  match c.x.exit with
  | some (first, _) => c.stop 0x03 (c.x.block + first * 2 ^ 8) c.slot
  | none => { c.nothing with exit := some e }

/-- Whether EXITX's index is in range (R228). -/
def State.exitInRange (s : State) (c : Ctx) (v : Word) : Bool :=
  v.toNat < 32 && s.blockUsed c.k c.t.id v.toNat && (s.header c.k c.t.id v.toNat).task == c.task

/-! Control registers. -/

/-- The value of a control register of the executing task (R243). -/
def taskReg (k : Kiln) (t : TileSt) (task : Nat) (x : TaskSt) (i : Nat) : Word :=
  match i with
  | 0x000 => BitVec.ofNat 64 task
  | 0x001 => BitVec.ofNat 64 t.id
  | 0x002 => BitVec.ofNat 64 (k.id % 2 ^ 32)
  | 0x003 => BitVec.ofNat 64 k.paddock
  | 0x004 => BitVec.ofNat 64 k.ctx
  | 0x010 => x.fpflags.setWidth 64
  | 0x011 => if x.satflag then 1 else 0
  | 0x020 => x.seedKey
  | 0x021 => x.genCtr.setWidth 64
  | 0x022 => (x.genCtr >>> 64).setWidth 64
  | 0x030 => BitVec.ofNat 64 t.cyc
  | _ => if 0x040 ≤ i && i ≤ 0x047 then BitVec.ofNat 64 (x.stalls.getD (i - 0x040) 0) else 0

/-- A control register of the executing task. -/
def Ctx.ctlReg (c : Ctx) (i : Nat) : Word := taskReg c.k c.t c.task c.tsk i

/-- What the control window of a tile shows at an offset (R139). -/
def Kiln.controlAt (k : Kiln) (t : TileSt) (off : Nat) : Option Word :=
  (controlReg off).map fun r => taskReg k t r.1 (t.task r.1) r.2

/-- A task with a control register written (R243, R410); a register of access r ignores the write. -/
def TaskSt.writeReg (x : TaskSt) (i : Nat) (v : Word) : TaskSt :=
  match i with
  | 0x010 => { x with fpflags := v.setWidth 5 }
  | 0x011 => { x with satflag := v.getLsbD 0 }
  | 0x020 => { x with seedKey := v }
  | 0x021 => { x with genCtr := BitVec.ofNat 128 (x.genCtr.toNat / 2 ^ 64 * 2 ^ 64 + v.toNat) }
  | 0x022 => { x with genCtr := BitVec.ofNat 128 (v.toNat * 2 ^ 64 + x.genCtr.toNat % 2 ^ 64) }
  | _ => if 0x040 ≤ i && i ≤ 0x047 then { x with stalls := x.stalls.set (i - 0x040) v.toNat } else x

/-! Meanings. -/

/-- NOP (R230). -/
def execNop (p : Pred) (s : State) : Host.Outcome State Fault Refusal :=
  onTile s false p .null .null fun c => c.nothing

/-- EXIT (R227). -/
def execExit (p : Pred) (block : BitVec 5) (s : State) : Host.Outcome State Fault Refusal :=
  onTile s false p .null .null fun c => c.exits (.to block.toNat)

/-- EXITX (R228, R387).
(DESIGN CHOICE, log 135.) -/
def execExitx (p : Pred) (s : State) : Host.Outcome State Fault Refusal :=
  onTileS s false p .neither .null .null fun s c => 
    (s, if c.x.exit.isNone && !s.exitInRange c c.av then c.stop 0x04 (c.x.block + c.slot * 2 ^ 8) c.av.toNat
      else c.exits (.to c.av.toNat))

/-- HALT (R229). -/
def execHalt (p : Pred) (s : State) : Host.Outcome State Fault Refusal :=
  onTile s false p .null .null fun c => c.exits .halt

/-- YIELD (R229). -/
def execYield (p : Pred) (block : BitVec 5) (dly : BitVec 16) (s : State) : Host.Outcome State Fault Refusal :=
  onTile s false p .null .null fun c => c.exits (.yield block.toNat dly.toNat)

/-- CTXEND (R229). -/
def execCtxend (p : Pred) (s : State) : Host.Outcome State Fault Refusal :=
  onTile s false p .null .null fun c => c.exits .ctxEnd

/-- PSET (R231). -/
def execPset (p : Pred) (ta tb : Target) (v : BitVec 1) (s : State) : Host.Outcome State Fault Refusal :=
  onTile s false p ta tb fun c => c.emit 1 ta tb (Tok.pred (v == 1))

/-- PNOT (R231). -/
def execPnot (p : Pred) (ta tb : Target) (s : State) : Host.Outcome State Fault Refusal :=
  onTile s false p ta tb fun c => c.emit 1 ta tb (Tok.pred (c.av == 0))

/-- PAND (R231). -/
def execPand (p : Pred) (ta tb : Target) (s : State) : Host.Outcome State Fault Refusal :=
  onTile s false p ta tb fun c => c.emit 1 ta tb (Tok.pred (c.av != 0 && c.bv != 0))

/-- POR (R231). -/
def execPor (p : Pred) (ta tb : Target) (s : State) : Host.Outcome State Fault Refusal :=
  onTile s false p ta tb fun c => c.emit 1 ta tb (Tok.pred (c.av != 0 || c.bv != 0))

/-- PXOR (R231). -/
def execPxor (p : Pred) (ta tb : Target) (s : State) : Host.Outcome State Fault Refusal :=
  onTile s false p ta tb fun c => c.emit 1 ta tb (Tok.pred ((c.av != 0) != (c.bv != 0)))

/-- TSTZ (R231). -/
def execTstz (p : Pred) (ta tb : Target) (s : State) : Host.Outcome State Fault Refusal :=
  onTile s false p ta tb fun c => c.emit 1 ta tb (Tok.pred (c.av == 0))

/-- TSTNZ (R231). -/
def execTstnz (p : Pred) (ta tb : Target) (s : State) : Host.Outcome State Fault Refusal :=
  onTile s false p ta tb fun c => c.emit 1 ta tb (Tok.pred (c.av != 0))

/-- TSTNEG (R231). -/
def execTstneg (p : Pred) (ta tb : Target) (s : State) : Host.Outcome State Fault Refusal :=
  onTile s false p ta tb fun c => c.emit 1 ta tb (Tok.pred (signed c.av < 0))

/-- TSTBIT (R231). -/
def execTstbit (p : Pred) (ta tb : Target) (n : BitVec 6) (s : State) : Host.Outcome State Fault Refusal :=
  onTile s false p ta tb fun c => c.emit 1 ta tb (Tok.pred (c.av.getLsbD n.toNat))

/-- ADD (R232). -/
def execAdd (p : Pred) (ta tb : Target) (s : State) : Host.Outcome State Fault Refusal :=
  onTile s false p ta tb fun c => c.emit 1 ta tb (Tok.val (c.av + c.bv))

/-- SUB (R232). -/
def execSub (p : Pred) (ta tb : Target) (s : State) : Host.Outcome State Fault Refusal :=
  onTile s false p ta tb fun c => c.emit 1 ta tb (Tok.val (c.av - c.bv))

/-- MUL (R232). -/
def execMul (p : Pred) (ta tb : Target) (s : State) : Host.Outcome State Fault Refusal :=
  onTile s false p ta tb fun c => c.emit 3 ta tb (Tok.val (c.av * c.bv))

/-- MULHS (R232). -/
def execMulhs (p : Pred) (ta tb : Target) (s : State) : Host.Outcome State Fault Refusal :=
  onTile s false p ta tb fun c => c.emit 3 ta tb (Tok.val (intWord (signed c.av * signed c.bv / 2 ^ 64)))

/-- MULHU (R232). -/
def execMulhu (p : Pred) (ta tb : Target) (s : State) : Host.Outcome State Fault Refusal :=
  onTile s false p ta tb fun c => c.emit 3 ta tb (Tok.val (BitVec.ofNat 64 (c.av.toNat * c.bv.toNat / 2 ^ 64)))

/-- DIVS (R233), on the one divider of the tile (R225). -/
def execDivs (p : Pred) (ta tb : Target) (s : State) : Host.Outcome State Fault Refusal :=
  onTile s false p ta tb fun c => { c.emit 18 ta tb (Tok.val (divs64 c.av c.bv)) with divFree := c.t.cyc + 18 }

/-- DIVU (R233), on the one divider of the tile (R225). -/
def execDivu (p : Pred) (ta tb : Target) (s : State) : Host.Outcome State Fault Refusal :=
  onTile s false p ta tb fun c => { c.emit 18 ta tb (Tok.val (divu64 c.av c.bv)) with divFree := c.t.cyc + 18 }

/-- REMS (R233), on the one divider of the tile (R225). -/
def execRems (p : Pred) (ta tb : Target) (s : State) : Host.Outcome State Fault Refusal :=
  onTile s false p ta tb fun c => { c.emit 18 ta tb (Tok.val (rems64 c.av c.bv)) with divFree := c.t.cyc + 18 }

/-- REMU (R233), on the one divider of the tile (R225). -/
def execRemu (p : Pred) (ta tb : Target) (s : State) : Host.Outcome State Fault Refusal :=
  onTile s false p ta tb fun c => { c.emit 18 ta tb (Tok.val (remu64 c.av c.bv)) with divFree := c.t.cyc + 18 }

/-- AND (R232). -/
def execAnd (p : Pred) (ta tb : Target) (s : State) : Host.Outcome State Fault Refusal :=
  onTile s false p ta tb fun c => c.emit 1 ta tb (Tok.val (c.av &&& c.bv))

/-- OR (R232). -/
def execOr (p : Pred) (ta tb : Target) (s : State) : Host.Outcome State Fault Refusal :=
  onTile s false p ta tb fun c => c.emit 1 ta tb (Tok.val (c.av ||| c.bv))

/-- XOR (R232). -/
def execXor (p : Pred) (ta tb : Target) (s : State) : Host.Outcome State Fault Refusal :=
  onTile s false p ta tb fun c => c.emit 1 ta tb (Tok.val (c.av ^^^ c.bv))

/-- SHL (R232). -/
def execShl (p : Pred) (ta tb : Target) (s : State) : Host.Outcome State Fault Refusal :=
  onTile s false p ta tb fun c => c.emit 1 ta tb (Tok.val (c.av <<< shAmt c.bv))

/-- SHR (R232). -/
def execShr (p : Pred) (ta tb : Target) (s : State) : Host.Outcome State Fault Refusal :=
  onTile s false p ta tb fun c => c.emit 1 ta tb (Tok.val (c.av >>> shAmt c.bv))

/-- SAR (R232). -/
def execSar (p : Pred) (ta tb : Target) (s : State) : Host.Outcome State Fault Refusal :=
  onTile s false p ta tb fun c => c.emit 1 ta tb (Tok.val (c.av.sshiftRight (shAmt c.bv)))

/-- ROL (R232). -/
def execRol (p : Pred) (ta tb : Target) (s : State) : Host.Outcome State Fault Refusal :=
  onTile s false p ta tb fun c => c.emit 1 ta tb (Tok.val (rol64 c.av c.bv))

/-- CEQ (R234). -/
def execCeq (p : Pred) (ta tb : Target) (s : State) : Host.Outcome State Fault Refusal :=
  onTile s false p ta tb fun c => c.emit 1 ta tb (Tok.pred (c.av == c.bv))

/-- CNE (R234). -/
def execCne (p : Pred) (ta tb : Target) (s : State) : Host.Outcome State Fault Refusal :=
  onTile s false p ta tb fun c => c.emit 1 ta tb (Tok.pred (c.av != c.bv))

/-- CLT (R234). -/
def execClt (p : Pred) (ta tb : Target) (s : State) : Host.Outcome State Fault Refusal :=
  onTile s false p ta tb fun c => c.emit 1 ta tb (Tok.pred (signed c.av < signed c.bv))

/-- CLE (R234). -/
def execCle (p : Pred) (ta tb : Target) (s : State) : Host.Outcome State Fault Refusal :=
  onTile s false p ta tb fun c => c.emit 1 ta tb (Tok.pred (signed c.av ≤ signed c.bv))

/-- CLTU (R234). -/
def execCltu (p : Pred) (ta tb : Target) (s : State) : Host.Outcome State Fault Refusal :=
  onTile s false p ta tb fun c => c.emit 1 ta tb (Tok.pred (c.av.toNat < c.bv.toNat))

/-- CLEU (R234). -/
def execCleu (p : Pred) (ta tb : Target) (s : State) : Host.Outcome State Fault Refusal :=
  onTile s false p ta tb fun c => c.emit 1 ta tb (Tok.pred (c.av.toNat ≤ c.bv.toNat))

/-- MINS (R234). -/
def execMins (p : Pred) (ta tb : Target) (s : State) : Host.Outcome State Fault Refusal :=
  onTile s false p ta tb fun c => c.emit 1 ta tb (Tok.val (if signed c.av ≤ signed c.bv then c.av else c.bv))

/-- MAXS (R234). -/
def execMaxs (p : Pred) (ta tb : Target) (s : State) : Host.Outcome State Fault Refusal :=
  onTile s false p ta tb fun c => c.emit 1 ta tb (Tok.val (if signed c.av ≤ signed c.bv then c.bv else c.av))

/-- MINU (R234). -/
def execMinu (p : Pred) (ta tb : Target) (s : State) : Host.Outcome State Fault Refusal :=
  onTile s false p ta tb fun c => c.emit 1 ta tb (Tok.val (if c.av.toNat ≤ c.bv.toNat then c.av else c.bv))

/-- MAXU (R234). -/
def execMaxu (p : Pred) (ta tb : Target) (s : State) : Host.Outcome State Fault Refusal :=
  onTile s false p ta tb fun c => c.emit 1 ta tb (Tok.val (if c.av.toNat ≤ c.bv.toNat then c.bv else c.av))

/-- SEL (R235): the chosen token, unchanged. -/
def execSel (ta tb : Target) (s : State) : Host.Outcome State Fault Refusal :=
  onTile s false .always ta tb fun c => c.emit 1 ta tb ((if c.pv != 0 then c.a else c.b).getD (Tok.val 0))

/-- ABS (R236). -/
def execAbs (p : Pred) (ta tb : Target) (s : State) : Host.Outcome State Fault Refusal :=
  onTile s false p ta tb fun c => c.emit 1 ta tb (Tok.val (if signed c.av < 0 then -c.av else c.av))

/-- NEG (R236). -/
def execNeg (p : Pred) (ta tb : Target) (s : State) : Host.Outcome State Fault Refusal :=
  onTile s false p ta tb fun c => c.emit 1 ta tb (Tok.val (-c.av))

/-- NOT (R236). -/
def execNot (p : Pred) (ta tb : Target) (s : State) : Host.Outcome State Fault Refusal :=
  onTile s false p ta tb fun c => c.emit 1 ta tb (Tok.val (~~~c.av))

/-- ADDI (R237). -/
def execAddi (p : Pred) (ta tb : Target) (imm : BitVec 32) (s : State) : Host.Outcome State Fault Refusal :=
  onTile s false p ta tb fun c => c.emit 1 ta tb (Tok.val (c.av + sext imm))

/-- MULI (R237). -/
def execMuli (p : Pred) (ta tb : Target) (imm : BitVec 32) (s : State) : Host.Outcome State Fault Refusal :=
  onTile s false p ta tb fun c => c.emit 3 ta tb (Tok.val (c.av * sext imm))

/-- MOVI (R238). -/
def execMovi (p : Pred) (ta tb : Target) (imm : BitVec 32) (s : State) : Host.Outcome State Fault Refusal :=
  onTile s false p ta tb fun c => c.emit 1 ta tb (Tok.val (sext imm))

/-- MOVHI (R238). -/
def execMovhi (p : Pred) (ta tb : Target) (imm : BitVec 32) (s : State) : Host.Outcome State Fault Refusal :=
  onTile s false p ta tb fun c => c.emit 1 ta tb (Tok.val ((imm.setWidth 64 <<< 32) ||| (c.av &&& 0xFFFFFFFF)))

/-- COPY (R238): the token, unchanged. -/
def execCopy (p : Pred) (ta tb : Target) (s : State) : Host.Outcome State Fault Refusal :=
  onTile s false p ta tb fun c => c.emit 1 ta tb (c.a.getD (Tok.val 0))

/-- ANDI (R237). -/
def execAndi (p : Pred) (ta tb : Target) (imm : BitVec 32) (s : State) : Host.Outcome State Fault Refusal :=
  onTile s false p ta tb fun c => c.emit 1 ta tb (Tok.val (c.av &&& sext imm))

/-- ORI (R237). -/
def execOri (p : Pred) (ta tb : Target) (imm : BitVec 32) (s : State) : Host.Outcome State Fault Refusal :=
  onTile s false p ta tb fun c => c.emit 1 ta tb (Tok.val (c.av ||| sext imm))

/-- XORI (R237). -/
def execXori (p : Pred) (ta tb : Target) (imm : BitVec 32) (s : State) : Host.Outcome State Fault Refusal :=
  onTile s false p ta tb fun c => c.emit 1 ta tb (Tok.val (c.av ^^^ sext imm))

/-- SHLI (R237). -/
def execShli (p : Pred) (ta tb : Target) (sh : BitVec 6) (s : State) : Host.Outcome State Fault Refusal :=
  onTile s false p ta tb fun c => c.emit 1 ta tb (Tok.val (c.av <<< sh.toNat))

/-- SHRI (R237). -/
def execShri (p : Pred) (ta tb : Target) (sh : BitVec 6) (s : State) : Host.Outcome State Fault Refusal :=
  onTile s false p ta tb fun c => c.emit 1 ta tb (Tok.val (c.av >>> sh.toNat))

/-- SARI (R237). -/
def execSari (p : Pred) (ta tb : Target) (sh : BitVec 6) (s : State) : Host.Outcome State Fault Refusal :=
  onTile s false p ta tb fun c => c.emit 1 ta tb (Tok.val (c.av.sshiftRight sh.toNat))

/-- POPC (R236). -/
def execPopc (p : Pred) (ta tb : Target) (s : State) : Host.Outcome State Fault Refusal :=
  onTile s false p ta tb fun c => c.emit 1 ta tb (Tok.val (BitVec.ofNat 64 (popc64 c.av)))

/-- CLZ (R236). -/
def execClz (p : Pred) (ta tb : Target) (s : State) : Host.Outcome State Fault Refusal :=
  onTile s false p ta tb fun c => c.emit 1 ta tb (Tok.val (BitVec.ofNat 64 (clz64 c.av)))

/-- CTZ (R236). -/
def execCtz (p : Pred) (ta tb : Target) (s : State) : Host.Outcome State Fault Refusal :=
  onTile s false p ta tb fun c => c.emit 1 ta tb (Tok.val (BitVec.ofNat 64 (ctz64 c.av)))

/-- BFX (R239). -/
def execBfx (p : Pred) (ta tb : Target) (lo : BitVec 6) (w : BitVec 6) (sx : BitVec 1) (s : State) : Host.Outcome State Fault Refusal :=
  onTile s false p ta tb fun c => c.emit 1 ta tb (Tok.val (bfx64 c.av lo.toNat (w.toNat + 1) (sx == 1)))

/-- BFI (R239). -/
def execBfi (p : Pred) (ta tb : Target) (lo : BitVec 6) (w : BitVec 6) (s : State) : Host.Outcome State Fault Refusal :=
  onTile s false p ta tb fun c => c.emit 1 ta tb (Tok.val (bfi64 c.av c.bv lo.toNat (w.toNat + 1)))

/-- LEA (R240). -/
def execLea (p : Pred) (ta tb : Target) (sh : BitVec 3) (off : BitVec 24) (s : State) : Host.Outcome State Fault Refusal :=
  onTile s false p ta tb fun c => c.emit 1 ta tb (Tok.val (lea64 c.av c.bv sh.toNat (sext off)))

/-- CEQI (R237). -/
def execCeqi (p : Pred) (ta tb : Target) (imm : BitVec 32) (s : State) : Host.Outcome State Fault Refusal :=
  onTile s false p ta tb fun c => c.emit 1 ta tb (Tok.pred (c.av == sext imm))

/-- TRAP (R241, R387): it stays issued and does not complete. -/
def execTrap (p : Pred) (code : BitVec 16) (s : State) : Host.Outcome State Fault Refusal :=
  onTile s false p .null .null fun c => { c.stop 0x01 code.toNat c.av.toNat with work := .trapped, stays := true }

/-- BRK (R242, R387): a NOP where the paddock has breakpoints disabled. -/
def execBrk (p : Pred) (code : BitVec 16) (s : State) : Host.Outcome State Fault Refusal :=
  onTileS s false p .neither .null .null fun s c => 
    (s, if ((s.paddock? c.k.paddock).map Paddock.breakpoints).getD false then
        { c.stop 0x02 code.toNat c.av.toNat with stays := true }
      else c.nothing)

/-- CTLRD (R244). -/
def execCtlrd (p : Pred) (ta tb : Target) (idx : BitVec 12) (s : State) : Host.Outcome State Fault Refusal :=
  onTile s false p ta tb fun c => c.emit 1 ta tb (Tok.val (c.ctlReg idx.toNat))

/-- CTLWR (R244): the old value is sent. -/
def execCtlwr (p : Pred) (ta tb : Target) (idx : BitVec 12) (s : State) : Host.Outcome State Fault Refusal :=
  onTile s false p ta tb fun c => { c.emit 1 ta tb (Tok.val (c.ctlReg idx.toNat)) with tsk := c.tsk.writeReg idx.toNat c.av }

/-- CNTRD (R245). -/
def execCntrd (p : Pred) (ta tb : Target) (cnt task : BitVec 3) (other clr : BitVec 1) (s : State) : Host.Outcome State Fault Refusal :=
  onTileS s false p .neither ta tb fun s c =>
    let i := if other == 1 then task.toNat else c.task
    let x := c.t.task i
    let v := if x.stat == .absent then 0 else x.stalls.getD cnt.toNat 0
    let y := { x with stalls := x.stalls.set cnt.toNat 0 }
    let r := c.emit 1 ta tb (Tok.val (BitVec.ofNat 64 v))
    if clr == 0 then (s, r)
    else if i == c.task then (s, { r with tsk := y })
    else (s.modTask c.k.id c.t.id i fun _ => y, r)

/-- RAND (R246): one draw, two different values. -/
def execRand (p : Pred) (ta tb : Target) (s : State) : Host.Outcome State Fault Refusal :=
  onTile s false p ta tb fun c =>
    let w := philox c.tsk.seedKey c.tsk.genCtr
    let v := fun i => Tok.val (BitVec.ofNat 64 (w.getD i 0 + 2 ^ 32 * w.getD (i + 1) 0))
    { c.send2 1 ta (v 0) tb (v 2) with tsk := { c.tsk with genCtr := c.tsk.genCtr + 1 } }

/-- SEED (R247). -/
def execSeed (p : Pred) (ta tb : Target) (s : State) : Host.Outcome State Fault Refusal :=
  onTile s false p ta tb fun c => { c.emit 1 ta tb (Tok.val (0)) with tsk := { c.tsk with seedKey := c.av, genCtr := c.bv.setWidth 128 } }

/-- TIMER (R248): the two forms differ in whether A is named. -/
def execTimer (p : Pred) (ta tb : Target) (imm : BitVec 32) (s : State) : Host.Outcome State Fault Refusal :=
  onTile s false p ta tb fun c =>
    match c.a with
    | none => c.emit 1 ta tb (Tok.val (BitVec.ofNat 64 c.t.cyc))
    | some _ => { c.nothing with work := .timer (c.av + sext imm) }

/-- FWSVC (R249): the result comes within 20 us of issue, when the model's free delay says. -/
def execFwsvc (p : Pred) (ta tb : Target) (svc : BitVec 8) (s : State) : Host.Outcome State Fault Refusal :=
  onTileS s false p .neither ta tb fun s c =>
    let (d, s) := s.draw
    (s, { c.nothing with work := .fwsvc svc.toNat c.av (s.now + d % (20 * tUs - 2 * c.k.period c.t)) })

end Sys2Proof.Machine
end

