-- ==== Sys2Proof/Machine/Access.lean ====
section
/-! DEFINITION. A tile's memory accesses: what has performed at a scope (R180), FENCE (R182), scratchpad accesses with
their full/empty qualifiers (R283 to R286), and global accesses and atomics from the memory port past the die point to the
owner (R156, R162, R175 to R181, R291 to R294, R415). -/

namespace Sys2Proof.Machine

/-! Where an issued instruction stands. -/

/-- An issued instruction with the tile and the kiln that it runs in. -/
structure Where where
  k : Kiln
  t : TileSt
  x : Exec
  p : Pending
  deriving DecidableEq, Repr

/-- The issued instruction in a slot. -/
def State.where? (s : State) (k t task slot : Nat) : Option Where :=
  match s.kiln? k with
  | none => none
  | some kl =>
    match kl.tile? t with
    | none => none
    | some tl =>
      match tl.exec? task with
      | none => none
      | some x => (x.pend? slot).map fun p => ⟨kl, tl, x, p⟩

/-- The issued instruction with other contents. -/
def State.putPend (s : State) (w : Where) (p : Pending) : State := s.modPend w.k.id w.t.id w.x.task w.p.slot fun _ => p

/-- The accesses among `ids` that are still in flight (R177). -/
def State.inFlight (s : State) (ids : List Nat) : List Nat := ids.filter fun i => s.accs.any fun a => a.id == i

/-- The instruction with results added; they are sent from their cycles on. -/
def Pending.plus (p : Pending) (out : List Send) (deps : List Nat) : Pending :=
  { p with sends := p.sends ++ out.map fun x => { x with tok := x.tok.withDeps (x.tok.deps ++ deps).eraseDups } }

/-- The instruction with its last results: nothing remains but to send them. -/
def Pending.last (p : Pending) (out : List Send) (deps : List Nat) : Pending := { p.plus out deps with work := .finish }

/-- One token for both targets. -/
def Pending.both (p : Pending) (x : Tok) (due : Nat) : List Send := [⟨p.ta, x, due⟩, ⟨p.tb, x, due⟩]

/-- A stop cause that an issued instruction raises after its issue; it never completes (R385, R397). -/
def State.stopAt (s : State) (w : Where) (cause w6 w7 : Nat) (aux : Nat := 0) : State :=
  (s.putPend w { w.p with work := .trapped, sends := [] }).stopKiln w.k.id
    (w.k.faultReq w.t.id w.x.task w.x.block w.p.slot cause 0 w6 w7) w.t.id w.x.task w.p.slot aux

/-- TOKEN_ERROR of a read of a poisoned granule (R397, R421). -/
def State.tokenError (s : State) (w : Where) : State := s.stopAt w 0x3F w.t.id 0

/-- The fields of a record of an issued instruction (R413). -/
def Where.req (w : Where) : FaultReq := w.k.faultReq w.t.id w.x.task w.x.block w.p.slot 0x29 2 0 0

/-- The fields of a record of a tile's access (R413). -/
def State.accReq (s : State) (a : Acc) : FaultReq :=
  match s.kiln? a.kiln with
  | some k => { k.faultReq a.tile a.task a.block a.slot 0x29 2 0 0 with die := a.die, shelf := a.shelf, w3 := a.elem % 2 ^ 32 }
  | none => { cause := 0x29, cls := 2, die := a.die, shelf := a.shelf, tile := a.tile % 128 }

/-! What has performed (R180). -/

def GlobalOp.isRead : GlobalOp → Bool
  | .read _ | .readVec => true
  | _ => false

def GlobalOp.isAtomic : GlobalOp → Bool
  | .atomic _ _ _ _ => true
  | _ => false

def GlobalOp.isWrite (o : GlobalOp) : Bool := !o.isRead && !o.isAtomic

/-- How many bytes an access reaches. -/
def GlobalOp.size : GlobalOp → Nat
  | .read n => n
  | .readVec => 16
  | .write bs => bs.length
  | .writeVec _ _ => 16
  | .atomic _ n _ _ => n

/-- READ, WRITE or ATOMIC. -/
def GlobalOp.need (o : GlobalOp) : Need := if o.isRead then .read else if o.isAtomic then .atomic else .write

/-- Whether a byte stands in DRAM, so that a tile's access to it passes a die point before the owner (R175). -/
def Loc.dram (l : Loc) : Bool := l.pa / 2 ^ 48 == 0

/-- Whether an access in flight has performed at a scope (R180). -/
def Acc.performedAt (a : Acc) (scope : Nat) : Bool :=
  match a.stage with
  | .spilled _ | .lost _ _ => false
  | .port _ => a.req.op.isWrite && scope == 0
  | .flight ls => a.req.op.isWrite && (scope == 0 || (scope ≤ 2 && ls.all Loc.dram))
  | .late _ => true

/-- Whether an access has a kiln's number. -/
def Acc.is (a : Acc) (k id : Nat) : Bool := a.kiln == k && a.id == id

/-- Whether every access of a list of a kiln's has performed at a scope; one that is no longer in flight has. -/
def State.performed (s : State) (k : Nat) (ids : List Nat) (scope : Nat) : Bool :=
  ids.all fun i => s.accs.all fun a => !a.is k i || a.performedAt scope

/-- Whether an access of the tile to its own window, issued at the port before an instruction issued, is still on its way: every later
access of the tile to its scratchpad comes after it (R177). -/
def State.windowBusy (s : State) (w : Where) : Bool :=
  s.accs.any fun a => a.kiln == w.k.id && a.tile == w.t.id && a.issuedNo ≤ w.p.no && a.points == [2 ^ 16 + w.t.id] && (match a.stage with
    | .port _ => true
    | _ => false)

/-- Whether every access to the tile's scratchpad that is ob before an instruction, by whatever tile it was made, has landed there
(R194). -/
def State.storesLanded (s : State) (w : Where) : Bool :=
  w.p.deps.all fun i => s.accs.all fun a => !a.is w.k.id i || a.points != [2 ^ 16 + w.t.id] || (match a.stage with
    | .late _ => true
    | _ => false)

/-- Work that reads or writes the tile's scratchpad next (R173). -/
def Work.inScratchpad : Work → Bool
  | .scratch _ _ _ _ _ | .bmwait _ _ | .wlds _ _ _ _ _ | .rptc _ _ _ | .rpte _ _ _ _ _ _ => true
  | .stu queued _ _ _ _ _ => !queued
  | .arow _ _ f _ _ got _ _ => got.length < (arowTiming f).1
  | _ => false

/-! FENCE (R182). -/

/-- Work that is a memory access of the tile and has not been made yet (R173). -/
def Work.isMemory : Work → Bool
  | .scratch _ _ _ _ _ | .portWait _ _ _ | .bmwait _ _ | .wick _ _ _ | .wadv _ _ _ | .wlds _ _ _ _ _ | .stu _ _ _ _ _ _ => true
  | .rptc _ _ _ | .rpte _ _ _ _ _ _ => true
  | .arow _ _ f _ _ got _ _ => got.length < (arowTiming f).1
  | _ => false

/-- Whether a FENCE that the tile issued earlier holds the accesses of an instruction. -/
def TileSt.fenced (t : TileSt) (no : Nat) : Bool :=
  t.execs.any fun x => x.pend.any fun p => p.no < no && (match p.work with | .fence _ => true | _ => false)

/-- Whether every memory access that the tile issued before an instruction has performed at a scope. -/
def State.fenceDone (s : State) (k : Kiln) (t : TileSt) (no scope : Nat) : Bool :=
  (t.execs.all fun x => x.pend.all fun p => no ≤ p.no || !p.work.isMemory) &&
  (s.accs.all fun a => !(a.kiln == k.id && a.tile == t.id && a.no < no) || a.performedAt scope)

/-! Scratchpad accesses. -/

/-- The bytes of each element. -/
def ScratchOp.size : ScratchOp → Nat
  | .load n _ => n
  | .loadVec => 16
  | .gather n _ => n
  | .store bs => bs.length
  | .storeVec _ _ => 16
  | .scatter n _ _ => n
  | .feSet | .feClr | .feTst => 16

/-- Whether an operation is served in step 2 of R285, as a read. -/
def ScratchOp.isRead : ScratchOp → Bool
  | .load _ _ | .loadVec | .gather _ _ | .feTst => true
  | _ => false

/-- The granules that elements touch. -/
def granulesOf (eas : List Nat) (n : Nat) : List Nat := (eas.flatMap fun a => [a / 16, (a + n - 1) / 16]).eraseDups

/-- Zero- or sign-extend an element. -/
def extend (n : Nat) (sx : Bool) (v w : Nat) : Nat := if sx then (sextInt (8 * n) v % 2 ^ w).toNat else v

/-- Whether a scratchpad access can be made in the present cycle (R184, R285). -/
def State.scratchReady (s : State) (w : Where) (eas : List Nat) (op : ScratchOp) (fs : BitVec 2) (deps : List Nat) (start : Nat) : Bool :=
  let gs := granulesOf eas op.size
  let kiln := s.performed w.k.id deps 1
  start ≤ w.t.cyc && !w.t.fenced w.p.no &&
  (if op.isRead then
      w.t.step4.isNone &&
      (match op with
       | .feTst => true
       | _ =>
         match fs.toNat with
         | 0 => true
         | 1 => gs.all w.t.isFull
         | _ => kiln && gs.all fun g => w.t.isFull g && !w.t.usedC.contains g)
    else
      match op, fs.toNat with
      | .feSet, _ | .feClr, _ => kiln
      | _, 0 => kiln
      | _, 1 => kiln && gs.all fun g => !((w.t.step4.getD w.t.full).contains g) && !w.t.usedE.contains g
      | _, _ => true)

/-- A poisoned granule among those of an access, once their units are the kiln's own (R56): its PA. -/
def State.scratchPoison (s : State) (w : Where) (gs : List Nat) : Option Nat :=
  let s := gs.foldl (fun (s : State) g => s.ensure w.k.id w.t.id 0 (16 * g)) s
  (gs.map fun g => w.k.pa w.t.id 0 (16 * g)).find? fun a => s.poisoned a 16

/-- Read the elements of a gather. -/
def State.gatherRead (s : State) (k t n : Nat) : List Nat → List Nat × State
  | [] => ([], s)
  | a :: r =>
    let (bs, s) := s.ocRead k t 0 a n
    let (vs, s) := s.gatherRead k t n r
    (leNat bs :: vs, s)

/-- Write the elements of a scatter in ascending order. -/
def State.scatterWrite (s : State) (k t n : Nat) (pay : Payload) : List (Nat × Nat) → State
  | [] => s
  | (a, j) :: r => (s.ocWrite k t 0 a (leBytes n (lane 32 pay j))).scatterWrite k t n pay r

/-- The tile after a store: step 4 has begun, tags and full/empty bits are set (R130, R142, R285). -/
def TileSt.stored (t : TileSt) (eas : List Nat) (n : Nat) (fs : BitVec 2) (dom : Bool) : TileSt :=
  let gs := granulesOf eas n
  let t := { t with step4 := some (t.step4.getD t.full), usedE := if fs == 1 then t.usedE ++ gs else t.usedE }
  let t := eas.foldl (fun t a => t.setTag (a / 512) dom) t
  if fs == 2 then t else gs.foldl (fun t g => t.setFull g true) t

/-- Make a scratchpad access in the present cycle (R281 to R286).
(DESIGN CHOICE, log 142.) -/
def State.scratchDo (s : State) (w : Where) (eas : List Nat) (op : ScratchOp) (fs : BitVec 2) (deps : List Nat) : State :=
  let k := w.k.id
  let t := w.t.id
  let c := w.t.cyc
  let gs := granulesOf eas op.size
  let ea := eas.headD 0
  let d := s.inFlight deps
  let plain := fs == 0
  let ordDue := if plain then c else c + 1
  let clear := fun s : State => if fs == 2 then
      s.modTile k t fun tl => gs.foldl (fun tl g => tl.setFull g false) { tl with usedC := tl.usedC ++ gs }
    else s
  match op with
  | .load n sx =>
    match s.scratchPoison w gs with
    | some a => (s.poisonSeen w.req a).tokenError w
    | none =>
      let (bs, s) := s.ocRead k t 0 ea n
      (clear s).putPend w (w.p.last [⟨w.p.ta, Tok.val (BitVec.ofNat 64 (extend n sx (leNat bs) 64)), c + 1⟩, ⟨w.p.tb, Tok.order, ordDue⟩] d)
  | .loadVec =>
    let dom := w.t.tags.contains (ea / 512)
    match s.scratchPoison w gs with
    | some a =>
      (clear (s.poisonSeen w.req a)).putPend w
        (w.p.last [⟨w.p.ta, .data (DTok.void true false 0), c + 1⟩, ⟨w.p.tb, Tok.order, ordDue⟩] d)
    | none =>
      let (bs, s) := s.ocRead k t 0 ea 16
      (clear s).putPend w (w.p.last [⟨w.p.ta, .data (DTok.record (payOf bs) dom), c + 1⟩, ⟨w.p.tb, Tok.order, ordDue⟩] d)
  | .gather n sx =>
    match s.scratchPoison w gs with
    | some a =>
      (clear (s.poisonSeen w.req a)).putPend w
        (w.p.last [⟨w.p.ta, .data (DTok.void true false 0), c + 2⟩, ⟨w.p.tb, Tok.order, c + 2⟩] d)
    | none =>
      let (vs, s) := s.gatherRead k t n eas
      let r := DTok.record (ofLanes 32 (vs.map fun v => extend n sx v 32)) false
      (clear s).putPend w (w.p.last [⟨w.p.ta, .data r, c + 2⟩, ⟨w.p.tb, Tok.order, c + 2⟩] d)
  | .store bs =>
    ((s.ocWrite k t 0 ea bs).modTile k t fun tl => tl.stored eas bs.length fs false).putPend w (w.p.last (w.p.both Tok.order c) d)
  | .storeVec pay dom =>
    ((s.ocWrite k t 0 ea (payBytes pay)).modTile k t fun tl => tl.stored eas 16 fs dom).putPend w (w.p.last (w.p.both Tok.order c) d)
  | .scatter n pay dom =>
    ((s.scatterWrite k t n pay (eas.zip (List.range 4))).modTile k t fun tl => tl.stored eas n fs dom).putPend w
      (w.p.last (w.p.both Tok.order (c + 2)) d)
  | .feSet =>
    ((s.ensure k t 0 ea).modTile k t fun tl => { tl with step4 := some (tl.step4.getD tl.full) }.setFull (ea / 16) true).putPend w
      (w.p.last (w.p.both Tok.order c) d)
  | .feClr =>
    ((s.ensure k t 0 ea).modTile k t fun tl => { tl with step4 := some (tl.step4.getD tl.full) }.setFull (ea / 16) false).putPend w
      (w.p.last (w.p.both Tok.order c) d)
  | .feTst =>
    (s.ensure k t 0 ea).putPend w (w.p.last [⟨w.p.ta, Tok.pred (w.t.isFull (ea / 16)), c⟩, ⟨w.p.tb, Tok.order, c⟩] d)

/-! Global accesses: addresses. -/

/-- Whether an EA breaks the forms of R291: bits that must be zero, or an on-chip address that names no storage. -/
def Kiln.eaBad (k : Kiln) (ea : Word) (n : Nat) : Bool :=
  if ea.getLsbD 63 then
    let t := fld ea.toNat 32 13
    let space := fld ea.toNat 29 3
    fld ea.toNat 45 18 != 0 || t / 128 ≥ k.shelves || fld ea.toNat 0 29 + n > spaceSize (t % 128) space ||
    space != (if t % 128 < 64 then 0 else 6)
  else fld ea.toNat 48 15 != 0

/-- Natural alignment where R291 asks for it. -/
def GlobalOp.misaligned (o : GlobalOp) (ea : Word) : Bool :=
  match o with
  | .read _ | .write _ => false
  | o => ea.toNat % o.size != 0

/-- The die points of an access of `n` bytes (R156, R175): the translation tiles of its pages, or the owning tile. -/
def pointsOf (ea : Word) (n : Nat) : List Nat :=
  if ea.getLsbD 63 then [2 ^ 16 + fld ea.toNat 32 13]
  else [xlateTile (ea.toNat % 2 ^ 48), xlateTile ((ea.toNat + n - 1) % 2 ^ 48)].eraseDups

/-- The owner of a PA, as a number (R173). -/
def ownerOf (pa : Nat) : Nat :=
  match pa / 2 ^ 48 with
  | 0 => pa / 2 ^ 39
  | 9 => pa / 2 ^ 44
  | _ => pa / 2 ^ 48 * 2 ^ 9

/-- Whether an atomic that reaches these bytes cannot be issued (R192, R294): word 7 of ATOMIC_TARGET. -/
def atomicTarget (op : BitVec 8) (size : Nat) (ls : List Loc) : Option Nat :=
  match ls.head? with
  | none => none
  | some l =>
    if l.pa / 2 ^ 48 != 8 then none
    else if !Config.hostAtomicOps then some 0
    else if l.coh && Config.hostCxlCache then none
    else if (op == 0x84 || op == 0x8C || op == 0x8D) && (size == 4 || size == 8) then none
    else some 1

/-- A peer port that is down and that an access must cross (R426), with the PA.
(DESIGN CHOICE, log 90.) -/
def State.downPort (s : State) (ls : List Loc) : Option (Nat × Nat) :=
  ls.findSome? fun l => (s.portDown l.pa).map fun q => (q, l.pa)

/-- SIZE code of a byte count. -/
def sizeCode (n : Nat) : Nat := if n == 1 then 0 else if n == 2 then 1 else if n == 4 then 2 else 3

/-- What translation and the checks that follow it make of a tile's access, each with the state after the translation. -/
inductive PortResult where
  | go (locs : List Loc) (s : State)
  | hold (f : XFault) (s : State)
  | stop (cause w6 w7 : Nat) (s : State)

/-- Translate a tile's access at its port (R155 to R159, R291, R294, R412, R426).
(DEDUCED, log 32.) -/
def State.portXlate (s : State) (k : Kiln) (shelf : Nat) (r : GlobalReq) : PortResult :=
  if r.ea.getLsbD 63 then .go [] s
  else
    match s.paddock? k.paddock with
    | none => .hold ⟨0x21, r.op.need.code, 1, 0, 0⟩ s
    | some p =>
      match s.xlate p (.slice k.die shelf) r.op.need (r.ea.toNat % 2 ^ 48) r.op.size with
      | (.error f, s) => if f.cause == 0x3F then .stop 0x3F 0 f.w7 s else .hold f s
      | (.ok ls, s) =>
        if !locsExist ls then .stop 0x20 r.opcode.toNat r.ea.toNat s
        else
          match r.op with
          | .atomic op n _ _ =>
            match atomicTarget op n ls with
            | some w => .stop 0x27 (r.opcode.toNat + sizeCode n * 2 ^ 8) w s
            | none => .go ls s
          | _ => .go ls s

/-! The memory port (R156, R162, R181, R415). -/

/-- Whether an access is commutative (R162). -/
def Kiln.commutative (k : Kiln) (t : Nat) (r : GlobalReq) (ta : Target) : Bool :=
  match ta with
  | .port p vc =>
    match (k.linkFrom t p.toNat vc.toNat (r.op == .readVec)).bind fun l => k.links[l]? with
    | some l => l.cfg.commutative && !r.op.isWrite
    | none => false
  | _ => false

/-- How many entries of a tile's spill queue are in use. -/
def State.spilledOf (s : State) (k t : Nat) : Nat :=
  s.accs.countP fun a => a.kiln == k && a.tile == t && (match a.stage with | .spilled _ => true | _ => false)

/-- Whether an access is held, or about to be retried, because its response was lost (R426). -/
def Acc.isLost (a : Acc) : Bool :=
  match a.stage with
  | .lost _ _ => true
  | _ => false

/-- Whether the port may take or issue an instruction's access now: no FENCE holds it, what REL waits for has performed,
and no earlier access of its task is withheld.
(DEDUCED, log 30.) -/
def State.portReady (s : State) (w : Where) (r : GlobalReq) (held : Option Nat) : Bool :=
  held.isNone && w.p.next ≤ w.t.cyc && !w.t.fenced w.p.no && (!r.rel || s.performed w.k.id r.deps r.scope) &&
  (s.accs.all fun a => !(a.isLost && a.kiln == w.k.id && a.tile == w.t.id && a.task == w.x.task && a.no < w.p.no)) &&
  w.x.pend.all fun p => w.p.no ≤ p.no || (match p.work with | .portWait _ _ (some _) => false | _ => true)

/-- The record of a held access (R413). -/
def State.holdFault (s : State) (w : Where) (r : GlobalReq) (f : XFault) (elem spilled : Nat) : Nat × State :=
  s.postFault { w.k.faultReq w.t.id w.x.task w.x.block w.p.slot f.cause 1 f.w6 f.w7 with
    access := f.access, stage := f.stage, va := r.ea.toNat % 2 ^ 48, w3 := elem % 2 ^ 32 + spilled * 2 ^ 32 }

/-- The order tokens of an access that has been issued, unless it acquires or is an atomic. -/
def Pending.issuedAt (p : Pending) (r : GlobalReq) (due id : Nat) : Pending :=
  if r.acq || r.op.isAtomic then p
  else if r.op.isRead then p.plus [⟨p.tb, Tok.order, due⟩] (id :: r.deps)
  else p.last (p.both Tok.order due) (id :: r.deps)

/-- An access of an issued instruction, under its number and element. -/
def State.accOf (_s : State) (w : Where) (r : GlobalReq) (id elem : Nat) (st : AccStage) (ready : Nat) (tb : Target) (alone : Bool) : Acc :=
  ⟨id, w.k.id, w.t.id, w.x.task, w.p.slot, w.x.block, w.k.die, w.k.shelf (w.t.id / 128), w.p.no, w.p.ta, tb, r, pointsOf r.ea r.op.size, elem,
    st, ready, alone, w.x.keepSeq, w.t.nextNo⟩

/-- A target that a token may reach once the instruction's block execution is over. -/
def outlives : Target → Bool
  | .port _ _ | .null => true
  | _ => false

/-- A held access enters the spill queue (R162, R415). Its instruction leaves it, and its results are sent late; but an order token
that the block execution itself consumes keeps the instruction, since the access has not been issued (R177).
(DEDUCED, log 31.) -/
def State.spill (s : State) (w : Where) (r : GlobalReq) (id elem uid : Nat) : State :=
  if outlives w.p.tb then
    { s.putPend w (w.p.last [] (id :: r.deps)) with
      accs := s.accs ++ [s.accOf w r id elem (.spilled (some uid)) s.now w.p.tb true] }
  else
    { s.putPend w { w.p with work := .access id } with
      accs := s.accs ++ [s.accOf w r id elem (.spilled (some uid)) s.now .null false] }

/-- The port takes an access and issues it, or holds it (R156, R177, R415). -/
def State.portDo (s : State) (w : Where) (r : GlobalReq) (taken : Option (Nat × Nat)) : State :=
  let shelf := w.k.shelf (w.t.id / 128)
  let (id, elem, s) := match taken with
    | some (i, e) => (i, e, s)
    | none =>
      let (i, s) := s.fresh
      (i, w.t.elems, s.modTile w.k.id w.t.id fun tl => { tl with elems := tl.elems + 1 })
  match s.portXlate w.k shelf r with
  | .stop 0x3F _ pa s => (s.poisonSeen { w.req with w3 := elem % 2 ^ 32 } pa).tokenError w
  | .stop cause w6 w7 s => s.stopAt w cause w6 w7
  | .hold f s =>
    let n := if w.k.commutative w.t.id r w.p.ta then some (s.spilledOf w.k.id w.t.id) else none
    match n with
    | some n =>
      if n < 16 then
        let (uid, s) := s.holdFault w r f elem (n + 1)
        s.spill w r id elem uid
      else
        let (uid, s) := s.holdFault w r f elem n
        s.putPend w { w.p with work := .portWait r (some (id, elem)) (some uid) }
    | none =>
      let (uid, s) := s.holdFault w r f elem 0
      s.putPend w { w.p with work := .portWait r (some (id, elem)) (some uid) }
  | .go ls s =>
    let (d, s) := s.draw
    { s.putPend w (({ w.p with work := .access id }).issuedAt r (w.t.cyc + 1) id) with
      accs := s.accs ++ [s.accOf w r id elem (.port ls) (s.now + d) .null false] }

/-! Accesses at the die point and at the owner. -/

/-- Whether a byte stands in a frame that is being copied (R160). -/
def State.migrating (s : State) (ls : List Loc) : Bool :=
  ls.any fun l => s.migrations.any fun m => l.pa / 2 ^ 16 == m.old / 2 ^ 16

/-- The writes past a die point that a read at it sees before the owner performs them (R175, R176): the latest byte. -/
def State.dieByte (s : State) (die paddock va : Nat) : Option Byte :=
  (s.accs.reverse.findSome? fun a =>
    match a.stage with
    | .flight _ =>
      if a.die == die && ((s.kiln? a.kiln).map Kiln.paddock) == some paddock && !a.req.ea.getLsbD 63 then
        let i := (va + 2 ^ 48 - a.req.ea.toNat % 2 ^ 48) % 2 ^ 48
        match a.req.op with
        | .write bs => bs[i]?
        | .writeVec pay _ => (payBytes pay)[i]?
        | _ => none
      else none
    | _ => none)

/-- The bytes that a tile's read returns at its die point; a byte outside DRAM has its owner as its die point (R175, R176). -/
def State.dieRead (s : State) (a : Acc) (paddock : Nat) (ls : List Loc) : List Byte :=
  ls.zipIdx.map fun x =>
    if x.1.dram then (s.dieByte a.die paddock ((a.req.ea.toNat + x.2) % 2 ^ 48)).getD (s.locByte x.1) else s.locByte x.1

/-- Count an access to each frame of a placed range that it reaches (R160). -/
def State.countFrame (s : State) (die shelf : Nat) (ls : List Loc) : State := s.countAt (die, shelf) (ls.map Loc.pa)

/-- F of R293 on `8 * n` bits: the new value. -/
def atomicNew (op : BitVec 8) (n : Nat) (old opb cmp : Nat) : Nat :=
  let w := 8 * n
  let b := opb % 2 ^ w
  match op.toNat with
  | 0x84 => (old + b) % 2 ^ w
  | 0x85 => old &&& b
  | 0x86 => old ||| b
  | 0x87 => old ^^^ b
  | 0x88 => if sextInt w b < sextInt w old then b else old
  | 0x89 => if sextInt w old < sextInt w b then b else old
  | 0x8A => min old b
  | 0x8B => max old b
  | 0x8C => b
  | 0x8D => if old == cmp % 2 ^ w then b else old
  | 0x8E => (FF.fp32.add false old b).1
  | _ => old ||| 2 ^ (opb % 64)

/-- What an atomic sends to TGA: old, or for ATAS the old bit. -/
def atomicTok (op : BitVec 8) (old opb : Nat) : Tok :=
  if op == 0x8F then Tok.pred (old.testBit (opb % 64)) else Tok.val (BitVec.ofNat 64 old)

/-- Read bytes of a kiln's on-chip storage that may cross a unit. -/
def State.ocReadN (s : State) (k t space : Nat) : Nat → Nat → List Byte × State
  | _, 0 => ([], s)
  | off, n + 1 =>
    let (b, s) := s.ocRead k t space off 1
    let (r, s) := s.ocReadN k t space (off + 1) n
    (b ++ r, s)

/-- Write bytes into a kiln's window that may cross a unit. -/
def State.windowWriteN (s : State) (k t space off : Nat) (bs : List Byte) (dom : Bool) : State :=
  let n := min bs.length (4096 - off % 4096)
  let s := s.windowWrite k t space off (bs.take n) dom
  if n < bs.length then s.windowWrite k t space (off + n) (bs.drop n) dom else s

/-- The bytes of a store. -/
def GlobalOp.bytes : GlobalOp → List Byte
  | .write bs => bs
  | .writeVec pay _ => payBytes pay
  | _ => []

/-- The DOMAIN that a store leaves in the tag of a chunk (R130). -/
def GlobalOp.dom : GlobalOp → Bool
  | .writeVec _ d => d
  | _ => false

/-- Store bytes at translated locations. -/
def State.locWrite (s : State) (ls : List Loc) (bs : List Byte) : State :=
  (s.pokeAt ((ls.map Loc.pa).zip bs)).cleanse (ls.map Loc.pa)

/-- The PA of the first poisoned granule that locations reach. -/
def State.locPoison (s : State) (ls : List Loc) : Option Nat :=
  (ls.flatMap s.locBad).head?

/-- The value token that a read delivers. -/
def GlobalOp.readTok (o : GlobalOp) (bs : List Byte) : Tok :=
  match o with
  | .readVec => .data (DTok.record (payOf bs) false)
  | _ => Tok.val (BitVec.ofNat 64 (leNat bs))

/-- Take an access out of flight. -/
def State.dropAcc (s : State) (a : Acc) : State := { s with accs := s.accs.filter fun b => !b.is a.kiln a.id }

/-- Replace an access, keeping its place, or as the latest to arrive. -/
def State.setAcc (s : State) (a : Acc) : State := { s with accs := updateWhere (fun b => b.is a.kiln a.id) (fun _ => a) s.accs }
def State.moveAcc (s : State) (a : Acc) : State := { s with accs := (s.accs.filter fun b => !b.is a.kiln a.id) ++ [a] }

/-- A served or performed access answers its instruction (R177, R181): the value to TGA, order tokens that are still owed;
one that its instruction has left keeps its results until their links take them. -/
def State.reply (s : State) (a : Acc) (value : Option Tok) : State :=
  if a.alone then
    let late : List Send := (value.map fun v => (⟨a.ta, v, 0⟩ : Send)).toList ++ [⟨a.tb, Tok.order, 0⟩]
    let out := late.filter fun x => x.tgt != .null
    if out.isEmpty then s.dropAcc a
    else s.setAcc { a with stage := .late (out.map fun x => { x with tok := x.tok.withDeps (s.inFlight a.req.deps) }) }
  else
    match s.where? a.kiln a.tile a.task a.slot with
    | none => s.dropAcc a
    | some w =>
      let due := w.t.cyc + 1
      let owed := a.req.acq || a.req.op.isAtomic
      let s := s.dropAcc a
      if w.p.work != .access a.id then s
      else
        let order := if !owed then [] else if a.req.op.isWrite then w.p.both Tok.order due else [⟨w.p.tb, Tok.order, due⟩]
        s.putPend w (w.p.last ((value.map fun v => (⟨w.p.ta, v, due⟩ : Send)).toList ++ order) (s.inFlight a.req.deps))

/-- A stop cause that an access meets at its owner (R421). -/
def State.accStop (s : State) (a : Acc) (cause : Nat) : State :=
  match s.where? a.kiln a.tile a.task a.slot with
  | some w => if a.alone then
      (s.dropAcc a).stopKiln a.kiln (w.k.faultReq a.tile a.task a.block a.slot cause 0 a.tile 0) a.tile a.task a.slot 0
    else (s.dropAcc a).stopAt w cause a.tile 0
  | none =>
    match s.kiln? a.kiln with
    | none => s.dropAcc a
    | some kl => (s.dropAcc a).stopKiln a.kiln (kl.faultReq a.tile a.task a.block a.slot cause 0 a.tile 0) a.tile a.task a.slot 0

/-- A read is served from bytes; a poisoned granule gives a void record or stops the kiln (R421). -/
def State.serve (s : State) (a : Acc) (bs : List Byte) (bad : Option Nat) : State :=
  match bad with
  | none => s.reply a (some (a.req.op.readTok bs))
  | some pa =>
    let s := s.poisonSeen (s.accReq a) pa
    match a.req.op with
    | .readVec => s.reply a (some (.data (DTok.void true false 0)))
    | _ => s.accStop a 0x3F

/-- An access is performed on a kiln's on-chip window (R140, R291, R293). -/
def State.performOnChip (s : State) (a : Acc) : State :=
  let n := a.req.ea.toNat
  let t := fld n 32 13
  let space := fld n 29 3
  let off := fld n 0 29
  let s := (s.ensure a.kiln t space off).ensure a.kiln t space (off + a.req.op.size - 1)
  let bad := match s.kiln? a.kiln with
    | some kl => s.poisonIn (kl.pa t space off) a.req.op.size
    | none => none
  match a.req.op with
  | .read _ | .readVec =>
    let (bs, s) := s.ocReadN a.kiln t space off a.req.op.size
    s.serve a bs bad
  | .write _ | .writeVec _ _ => (s.windowWriteN a.kiln t space off a.req.op.bytes a.req.op.dom).reply a none
  | .atomic op size opb cmp =>
    match bad with
    | some pa => (s.poisonSeen (s.accReq a) pa).accStop a 0x3F
    | none =>
      let (bs, s) := s.ocReadN a.kiln t space off size
      let old := leNat bs
      (s.ocWrite a.kiln t space off (leBytes size (atomicNew op size old opb.toNat cmp.toNat))).reply a (some (atomicTok op old opb.toNat))

/-- An access is performed at the owner of its bytes (R174 to R176, R293). -/
def State.performAt (s : State) (a : Acc) (ls : List Loc) : State :=
  let s := s.countFrame a.die a.shelf ls
  match a.req.op with
  | .read _ | .readVec => s.serve a (ls.map s.locByte) (s.locPoison ls)
  | .write _ | .writeVec _ _ => (s.locWrite ls a.req.op.bytes).reply a none
  | .atomic op size opb cmp =>
    match s.locPoison ls with
    | some pa => (s.poisonSeen (s.accReq a) pa).accStop a 0x3F
    | none =>
      let old := leNat (ls.map s.locByte)
      (s.locWrite ls (leBytes size (atomicNew op size old opb.toNat cmp.toNat))).reply a (some (atomicTok op old opb.toNat))

/-- A read is served at its die point: its bytes of DRAM as the die point sees them (R176). -/
def State.performDie (s : State) (a : Acc) (ls : List Loc) : State :=
  let paddock := ((s.kiln? a.kiln).map Kiln.paddock).getD 16
  (s.countFrame a.die a.shelf ls).serve a (s.dieRead a paddock ls) (s.locPoison ls)

/-- Whether the die point serves an access as far as its bytes stand in DRAM (R176). -/
def Acc.atDie (a : Acc) : Bool := a.req.op.isRead && a.req.scope ≤ 2

/-- The owners that an access goes on to from its die points (R175, R176): those of the bytes that the die point does not serve. -/
def Acc.owners (a : Acc) (ls : List Loc) : List Nat :=
  if a.req.ea.getLsbD 63 then [] else ((ls.filter fun l => !(a.atDie && l.dram)).map fun l => ownerOf l.pa).eraseDups

/-- Whether an access that leaves the port passes a die point and reaches its owners later (R175): it has a byte in DRAM and is no read
that its die point serves. -/
def Acc.flies (a : Acc) (ls : List Loc) : Bool := !a.req.ea.getLsbD 63 && ls.any Loc.dram && !a.atDie

/-- Whether two accesses share a die point. -/
def Acc.meets (a b : Acc) : Bool := a.points.any b.points.contains

/-- Whether two accesses are made by one tile. -/
def Acc.sameTile (a b : Acc) : Bool := a.kiln == b.kiln && a.tile == b.tile

/-- Whether an earlier access `b` at the port keeps `a` from its die points: both are of one tile, and bound for one die point or
owner (R177); or `b` was issued, lost its response and went to the spill queue, and `a` is ob after it (R179, R426).
(DESIGN CHOICE, log 119.) -/
def Acc.portsAfter (a b : Acc) (ls : List Loc) : Bool :=
  a.sameTile b && (match b.stage with
  | .port ms | .lost ms _ => a.meets b || (a.owners ls).any (b.owners ms).contains
  | .spilled _ => a.meets b && a.req.deps.contains b.id
  | _ => false)

/-- Whether an access `b` that passed its die points earlier keeps `a` from the owner: both are bound for one owner, and are of one
tile or came through one die point (R175, R177). -/
def Acc.landsAfter (a b : Acc) (ls : List Loc) : Bool :=
  match b.stage with
  | .flight ms => (a.sameTile b || (a.die == b.die && a.meets b)) && (a.owners ls).any (b.owners ms).contains
  | _ => false

/-- Whether an earlier access `b` keeps `a` where it is: on the way from the port to the same die point or owner, or on the way from a
die point to an owner that `a` reaches next. -/
def Acc.after (a b : Acc) : Bool :=
  match a.stage with
  | .port ls => a.portsAfter b ls || (!a.flies ls && a.landsAfter b ls)
  | .flight ls => a.landsAfter b ls
  | _ => false

/-- The accesses that stand before one, oldest first. -/
def State.before (s : State) (a : Acc) : List Acc := s.accs.takeWhile fun b => !b.is a.kiln a.id

/-- Whether an access may go on now: its time has come, no earlier access keeps it where it is, no byte it would reach is being moved,
and where it acts on storage of its own kiln, that kiln's clocks run. -/
def State.accReady (s : State) (a : Acc) : Bool :=
  let runs := (s.kiln? a.kiln).any fun k => k.clocked s.now
  a.ready ≤ s.now &&
  (match a.stage with
   | .spilled h | .lost _ h => h.isNone && runs
   | .port ls => !s.migrating ls && (!a.req.ea.getLsbD 63 || runs) && (s.before a).all fun b => !a.after b
   | .flight ls => !s.migrating ls && (s.before a).all fun b => !a.after b
   | .late out =>
     match (s.kiln? a.kiln).bind fun kl => (kl.tile? a.tile).map fun t => (kl, t) with
     | some (kl, t) => kl.clocked s.now && t.cycAt == s.now && out.head?.all fun x => kl.accepts t x
     | none => false)

/-- The first access withheld at a tile's port that a free place in its spill queue lets in (R415). -/
def Kiln.withheld (k : Kiln) (tile : Nat) : Option (Where × GlobalReq × (Nat × Nat) × Nat) :=
  let t := k.tileD tile
  t.execs.findSome? fun x => x.pend.findSome? fun p => match p.work with
    | .portWait r (some i) (some uid) => if k.commutative tile r p.ta then some (⟨k, t, x, p⟩, r, i, uid) else none
    | _ => none

/-- A held access is held, or asked to be retried, in its stage. -/
def Acc.heldAs (a : Acc) (h : Option Nat) : AccStage :=
  match a.stage with
  | .lost ls _ => .lost ls h
  | _ => .spilled h

/-- An access of a kiln is held again (R413, R416), and the number of its record. -/
def State.heldAgain (s : State) (kl : Kiln) (a : Acc) (f : XFault) (spilled : Nat) : Nat × State :=
  s.postFault { kl.faultReq a.tile a.task a.block a.slot f.cause 1 f.w6 f.w7 with
    access := f.access, stage := f.stage, va := a.req.ea.toNat % 2 ^ 48, w3 := a.elem % 2 ^ 32 + spilled * 2 ^ 32 }

/-- A spilled load has been issued: it sends its order token, from its instruction or, where that has left it, late (R177). -/
def State.sendOrder (s : State) (a : Acc) : State :=
  if a.alone then
    if a.tb == .null then s
    else
      let (id, s) := s.fresh
      { s with accs := s.accs ++ [{ a with
      id := id, tb := .null, ready := s.now, stage := .late [⟨a.tb, Tok.order.withDeps (a.id :: s.inFlight a.req.deps), 0⟩] }] }
  else
    match s.where? a.kiln a.tile a.task a.slot with
    | some w => s.putPend w (w.p.plus [⟨w.p.tb, Tok.order, w.t.cyc + 1⟩] (a.id :: a.req.deps))
    | none => s

/-- A held access is translated again (R416); when a spilled one goes on, the port's first withheld commutative access takes its
place.
(DEDUCED, log 31.) -/
def State.retryHeld (s : State) (a : Acc) : State :=
  match s.kiln? a.kiln with
  | none => s.dropAcc a
  | some kl =>
    match s.portXlate kl a.shelf a.req with
    | .stop 0x3F _ pa s => (s.poisonSeen (s.accReq a) pa).accStop a 0x3F
    | .stop cause w6 w7 s =>
      (s.dropAcc a).stopKiln a.kiln (kl.faultReq a.tile a.task a.block a.slot cause 0 w6 w7) a.tile a.task a.slot 0
    | .hold f s =>
      let (uid, s) := s.heldAgain kl a f (if kl.commutative a.tile a.req a.ta then s.spilledOf a.kiln a.tile else 0)
      s.setAcc { a with stage := a.heldAs (some uid) }
    | .go ls s =>
      let (d, s) := s.draw
      let b := { a with stage := .port ls, ready := s.now + d, issuedNo := (kl.tileD a.tile).nextNo }
      if a.isLost then s.setAcc b
      else
        -- one that others are already ob after was issued before it was lost, and keeps its place
        let s := if s.accs.any fun x => x.req.deps.contains a.id then s.setAcc b
          else if a.req.acq || a.req.op.isAtomic then s.moveAcc b else (s.sendOrder a).moveAcc { b with tb := .null }
        match kl.withheld a.tile with
        | none => s
        | some (w, r, t, uid) => s.spill w r t.1 t.2 uid

/-- An access loses its response at a peer port that is down, and is held in the way of one that must cross it (R426, R415): in
the spill queue of a commutative port that has a place, else where it stands.
(DESIGN CHOICE, log 90.) -/
def State.lose (s : State) (kl : Kiln) (a : Acc) (ls : List Loc) (port pa : Nat) : State :=
  let n := s.spilledOf a.kiln a.tile
  let comm := kl.commutative a.tile a.req a.ta
  let (uid, s) := s.heldAgain kl a ⟨0x58, a.req.op.need.code, 0, port, pa⟩ (if comm then min 16 (n + 1) else 0)
  if !comm || 16 ≤ n then s.setAcc { a with stage := .lost ls (some uid) }
  else if a.alone then s.setAcc { a with stage := .spilled (some uid) }
  else
    match s.where? a.kiln a.tile a.task a.slot with
    | none => s.setAcc { a with stage := .spilled (some uid) }
    | some w =>
      if a.req.acq || a.req.op.isAtomic then (s.dropAcc a).spill w a.req a.id a.elem uid
      else (s.putPend w (w.p.last [] (a.id :: a.req.deps))).setAcc { a with stage := .spilled (some uid), alone := true }

/-- An access past the port is performed, as `f` says; behind a peer port that is down, only if its response still arrives, which
the spec leaves open (R426).
(DESIGN CHOICE, log 90.) -/
def State.answered (s : State) (a : Acc) (ls : List Loc) (f : State → State) : State :=
  match s.downPort ls, s.kiln? a.kiln with
  | some (q, pa), some kl =>
    let t := { s with freeCount := s.freeCount + 1 }
    if Config.freeNat s.freeCount % 2 == 1 then f t else t.lose kl a ls q pa
  | _, _ => f s

/-- An access passes its die points on the way to its owners (R175); a write that has performed at its scope there sends its order
tokens (R180, R181). -/
def State.fly (s : State) (a : Acc) (ls : List Loc) : State :=
  let (d, s) := s.draw
  let s := s.moveAcc { a with stage := .flight ls, ready := s.now + d }
  if a.req.op.isWrite && a.req.acq && a.req.scope ≤ 2 && !a.alone && ls.all Loc.dram then
    match s.where? a.kiln a.tile a.task a.slot with
    | some w => s.putPend w (w.p.last (w.p.both Tok.order (w.t.cyc + 1)) (a.id :: a.req.deps))
    | none => s
  else s

/-- An access goes on: it reaches its die point, is served there or at its owner, or sends its late value. -/
def State.accDo (s : State) (a : Acc) : State :=
  match a.stage with
  | .spilled _ | .lost _ _ => s.retryHeld a
  | .port ls =>
    if a.req.ea.getLsbD 63 then s.performOnChip a
    else if a.flies ls then s.fly a ls
    else s.answered a ls fun s => if a.atDie then s.performDie a ls else s.performAt a ls
  | .flight ls => s.answered a ls fun s => s.performAt a ls
  | .late [] => s.dropAcc a
  | .late (x :: rest) =>
    let left := fun s : State => if rest.isEmpty then s.dropAcc a else s.setAcc { a with stage := .late rest }
    match s.sendNow a.kiln a.tile a.task a.no a.ks .unit x with
    | some s => left s
    | none => match s.offerNow a.kiln a.tile a.ks .late x with
      | some s => left s
      | none => s

end Sys2Proof.Machine
end

