-- ==== Sys2Proof/Machine/Queues.lean ====
section
/-! DEFINITION. Queues and their spill rings (R217, R299 to R301, R356, R357), completion counters (R302, R372), and the
eligibility of the launches that stand in queues (R44, R394). -/

namespace Sys2Proof.Machine

/-! Records. -/

/-- The eight words of a record. -/
def recWords (r : Rec8) : List Word := [r.w0, r.w1, r.w2, r.w3, r.w4, r.w5, r.w6, r.w7]

/-- The record with these words. -/
def recOf (ws : List Word) : Rec8 :=
  let g := fun i => ws.getD i 0
  ⟨g 0, g 1, g 2, g 3, g 4, g 5, g 6, g 7⟩

/-- The 64 bytes of a record. -/
def recBytes (r : Rec8) : List Byte := (recWords r).flatMap fun w => leBytes 8 w.toNat

/-- The record that 64 bytes hold. -/
def recOfBytes (bs : List Byte) : Rec8 := recOf ((List.range 8).map fun i => BitVec.ofNat 64 (leNat ((bs.drop (8 * i)).take 8)))

/-- Read K[n] to K[n+3]. -/
def State.readKeeps4 (s : State) (k t n : Nat) : Rec8 × State :=
  let (bs, s) := s.ocReadN k t 3 (16 * (n % 61)) 64
  (recOfBytes bs, s)

/-! The fields of a launch record (R216). -/

def recCharge (r : Rec8) : Nat := fld r.w0.toNat 0 32
def recNoWord (r : Rec8) : Bool := r.w0.getLsbD 32
def recNoCount (r : Rec8) : Bool := r.w0.getLsbD 33
def recDone (r : Rec8) : Nat := fld r.w2.toNat 0 12
def recWordVa (r : Rec8) : Nat := fld r.w2.toNat 16 48
def recArg (r : Rec8) (i : Nat) : Word := (recWords r).getD (3 + i) 0

/-- The dependences: counter and threshold. -/
def recDeps (r : Rec8) : List (Nat × Nat) := [(fld r.w1.toNat 0 12, fld r.w1.toNat 12 16), (fld r.w1.toNat 28 12, fld r.w1.toNat 40 16)]

/-- The first check of R394 that a launch record fails in a paddock. -/
def State.launchCheck (s : State) (paddock : Nat) (r : Rec8) : Option Nat :=
  if !((s.charge? (recCharge r)).any fun c => c.paddock == paddock) then some 1
  else if fld r.w0.toNat 34 30 != 0 || fld r.w1.toNat 56 8 != 0 || fld r.w2.toNat 12 4 != 0 then some 2
  else if !recNoWord r && recWordVa r % 8 != 0 then some 3
  else none

/-- Whether both dependences of a launch record are met (R44).
(DEDUCED, log 61.) -/
def Paddock.depsMet (p : Paddock) (r : Rec8) : Bool := (recDeps r).all fun d => d.2 ≤ (p.counter d.1).toNat

/-! Queues. -/

/-- The period of a queue's cycle: the 1.8 GHz reference.
(DEDUCED, log 44.) -/
def queueCycle : Nat := 280

/-- The queue in its present cycle (R357). -/
def QueueSt.turn (q : QueueSt) (now : Nat) : QueueSt :=
  if q.cycNo == now / queueCycle then q
  else { q with cycNo := now / queueCycle, freedNow := 0, addedNow := 0, ringNow := q.count > 0, movedNow := false }

def QueueSt.occupancy (q : QueueSt) : Nat := q.onchip.length + q.count

/-- Whether a record would enter the on-chip part (R300, R357). -/
def QueueSt.entersOnChip (q : QueueSt) : Bool := q.onchip.length + q.freedNow < 32 && !q.ringNow

/-- Whether a push finds no place: an entry that the present cycle has freed is none yet (R357), and a record that must enter the
ring needs a ring entry (R300, R356). -/
def QueueSt.isFull (q : QueueSt) : Bool := q.occupancy + q.freedNow ≥ 32 + q.ringSize || (!q.entersOnChip && q.count ≥ q.ringSize)

/-- Where a record of the ring lies (R356). -/
def QueueSt.ringAt (q : QueueSt) (e : Nat) : Nat := q.ringVa + 64 * e

/-- The record of a held access to a queue's ring (R413, R415, R426), and its number.
(DESIGN CHOICE, log 43.) -/
def State.ringFault (s : State) (x : QueueSt) (f : XFault) (va : Nat) : Nat × State :=
  s.postFault
    { cause := f.cause, cls := 1, access := f.access, stage := f.stage, va := va % 2 ^ 48, die := x.die, paddock := x.paddock,
      queue := x.index, w6 := f.w6, w7 := f.w7 }

/-- Whether a fault holds the access of a queue, which is no task that could stop (R386, R415). -/
def XFault.holds (f : XFault) : Bool := f.cause != 0x20 && f.cause != 0x3F

/-- Put a record into a queue that is not full (R300). Where its ring entry cannot be written the record stands in the queue all the
same, the write is held, and none follows it until that has been performed.
(DESIGN CHOICE, log 43.) -/
def State.pushRec (s : State) (q : Nat) (r : Rec8) (m : Option LaunchMeta) : Option State :=
  match (s.queue? q).map fun x => x.turn s.now with
  | none => none
  | some x =>
    if x.isFull then none
    else
      let ms := x.metas ++ m.toList
      if x.entersOnChip then
        some (s.modQueue q fun _ => { x with onchip := x.onchip ++ [r], addedNow := x.addedNow + 1, metas := ms })
      else
        match (s.paddock? x.paddock).filter fun _ => x.heldRec.isNone with
        | none => none
        | some p =>
          let y := { x with tail := (x.tail + 1) % max 1 x.ringSize, count := x.count + 1, ringNow := true, metas := ms }
          match s.vaWrite p (.fold x.die) (x.ringAt x.tail) (recBytes r) with
          | (.ok _, s) => some (s.modQueue q fun _ => y)
          | (.error f, s) =>
            if f.holds then
              let (uid, s) := s.ringFault x f (x.ringAt x.tail)
              some (s.modQueue q fun _ => { y with heldRec := some (uid, r) })
            else none

/-- Whether a pop would find a record (R300, R357). -/
def QueueSt.canPop (q : QueueSt) (now : Nat) : Bool := let q := q.turn now; q.addedNow < q.onchip.length

/-- Take the oldest record. -/
def State.popRec (s : State) (q : Nat) : Option (Rec8 × State) :=
  match (s.queue? q).map fun x => x.turn s.now with
  | none => none
  | some x =>
    if x.addedNow < x.onchip.length then
      match x.onchip with
      | [] => none
      | r :: rest => some (r, s.modQueue q fun _ => { x with onchip := rest, freedNow := x.freedNow + 1, metas := x.metas.drop 1 })
    else none

/-- Whether the ring's head record may move on-chip now (R300, R357): neither its write nor its read is held. -/
def QueueSt.mayRefill (q : QueueSt) (now : Nat) : Bool :=
  let q := q.turn now
  q.count > (if q.heldRec.isSome then 1 else 0) && q.heldRead.isNone && !q.movedNow && q.onchip.length + q.freedNow < 32

/-- Record `i` of a queue, in queue order; none where its ring entry cannot be read. -/
def State.queueRec (s : State) (q : QueueSt) (i : Nat) : Option Rec8 :=
  if i < q.onchip.length then q.onchip[i]?
  else if i + 1 == q.occupancy && q.heldRec.isSome then q.heldRec.map Prod.snd
  else
    match s.paddock? q.paddock with
    | none => none
    | some p =>
      match (s.vaRead p .never (q.ringAt ((q.head + i - q.onchip.length) % max 1 q.ringSize)) 64).1 with
      | .ok bs => some (recOfBytes bs)
      | .error _ => none

/-- What stands for a launch record that cannot be read when it is cancelled: it has no completion word and no counter.
(DESIGN CHOICE, log 43.) -/
def recUnread : Rec8 := ⟨BitVec.ofNat 64 (2 ^ 32 + 2 ^ 33), 0, 0, 0, 0, 0, 0, 0⟩

/-! Counters and eligibility. -/

/-- Launches of a paddock whose dependences now hold become eligible (R44). -/
def State.review (s : State) (paddock : Nat) : State :=
  match s.paddock? paddock with
  | none => s
  | some p =>
    { s with queues := s.queues.map fun q =>
        if q.paddock == paddock && !q.record then
          { q with metas := q.metas.zipIdx.map fun x =>
              if x.1.eligible then x.1
              else if (s.queueRec q x.2).any p.depsMet then { x.1 with eligible := true, eligAt := s.now } else x.1 }
        else q }

/-- The ring's head record moves on-chip (R300, R356, R357), or its read is held; a cancelled one leaves the queue (R392).
(DESIGN CHOICE, log 43.) -/
def State.refill (s : State) (q : Nat) : Option State :=
  match (s.queue? q).map fun x => x.turn s.now with
  | none => none
  | some x =>
    if !x.mayRefill s.now then none
    else
      match s.paddock? x.paddock with
      | none => none
      | some p =>
        match s.vaRead p (.fold x.die) (x.ringAt x.head) 64 with
        | (.error f, s) =>
          if f.holds then
            let (uid, s) := s.ringFault x f (x.ringAt x.head)
            some (s.modQueue q fun _ => { x with heldRead := some uid })
          else none
        | (.ok bs, s) =>
          let y := { x with head := (x.head + 1) % max 1 x.ringSize, count := x.count - 1, movedNow := true }
          some ((s.modQueue q fun _ =>
            if (x.metas[x.onchip.length]?).any LaunchMeta.cancelled then { y with metas := x.metas.eraseIdx x.onchip.length }
            else { y with onchip := x.onchip ++ [recOfBytes bs], addedNow := x.addedNow + 1 }).review x.paddock)

/-- A held access to a queue's ring is made again: the write of its last record, or the read of its first (R416). -/
def State.retryRing (s : State) (q uid : Nat) : State :=
  match s.queue? q with
  | none => s
  | some x =>
    if x.heldRead == some uid then
      let s := s.modQueue q fun x => { x with heldRead := none }
      (s.refill q).getD s
    else
      match x.heldRec.filter fun h => h.1 == uid, s.paddock? x.paddock with
      | some (_, r), some p =>
        let va := x.ringAt ((x.tail + max 1 x.ringSize - 1) % max 1 x.ringSize)
        match s.vaWrite p (.fold x.die) va (recBytes r) with
        | (.ok _, s) => s.modQueue q fun x => { x with heldRec := none }
        | (.error f, s) =>
          let (uid, s) := s.ringFault x f va
          s.modQueue q fun x => { x with heldRec := some (uid, r) }
      | _, _ => s

/-- A held access to a queue's ring is given up (R416): the record that it would have written, or moved on-chip, is gone.
(DESIGN CHOICE, log 43.) -/
def State.dropRing (s : State) (q uid : Nat) : State :=
  s.modQueue q fun x =>
    if x.heldRead == some uid then
      { x with head := (x.head + 1) % max 1 x.ringSize, count := x.count - 1, heldRead := none, metas := x.metas.eraseIdx x.onchip.length }
    else if (x.heldRec.map Prod.fst) == some uid then
      { x with tail := (x.tail + max 1 x.ringSize - 1) % max 1 x.ringSize, count := x.count - 1, heldRec := none, metas := x.metas.dropLast }
    else x

/-- Write a completion counter (R302, R372). -/
def State.putCounter (s : State) (paddock c : Nat) (v : Word) : State :=
  (s.modPaddock paddock fun p => p.setCounter c v).review paddock

/-- Add to a completion counter, modulo 2^64. -/
def State.addCounter (s : State) (paddock c inc : Nat) : State :=
  match s.paddock? paddock with
  | none => s
  | some p => s.putCounter paddock c (p.counter c + BitVec.ofNat 64 inc)

/-- A counter's value. -/
def State.counter (s : State) (paddock c : Nat) : Word := ((s.paddock? paddock).map fun p => p.counter c).getD 0

/-- Enqueue a launch record (R44, step 1); none while the queue is full. -/
def State.enqueueLaunch (s : State) (q : Nat) (r : Rec8) (restore : Option (Nat × Nat × Nat)) : Option State :=
  match s.queue? q with
  | none => none
  | some x => (s.pushRec q r (some ⟨false, s.now, 0, restore, false⟩)).map fun s => s.review x.paddock

/-! What a task's queue instruction names (R299, R387, R391). -/

/-- The stop cause of a queue instruction's operand, if any: QUEUE_KIND or QUEUE_CLOSED. -/
def State.queueCause (s : State) (paddock : Nat) (v : Word) (want : Option Bool) (len : Bool) : Option Nat :=
  if v.toNat ≥ 256 then some 0x08
  else
    match s.queue? v.toNat with
    | none => some 0x08
    | some q =>
      if q.paddock != paddock || (want.any fun r => r != q.record) then some 0x08
      else if q.closed && !len then some 0x09
      else none

end Sys2Proof.Machine
end

