-- ==== Sys2Proof/Machine/MemOps.lean ====
section
/-! DEFINITION. Meanings of rows 0x7_ to 0x9_: memory, atomic and synchronisation instructions (R278 to R305). -/

namespace Sys2Proof.Machine

/-! Shared forms. -/

/-- FS of a load, a store and a global access (R198). -/
def loadFs : LoadQual → BitVec 2
  | .plain => 0
  | .waitF => 1
  | .waitC => 2

def storeFs : StoreQual → BitVec 2
  | .setFull => 0
  | .waitE => 1
  | .noFe => 2

def globalAcq : GlobalQual → Bool
  | .acq | .acqRel => true
  | _ => false

def globalRel : GlobalQual → Bool
  | .rel | .acqRel => true
  | _ => false

/-- A token at a store's B that writes nothing (R280). -/
def Tok.writesNothing : Tok → Bool
  | .data d => !d.isRecord
  | .ctl t => t.isStop || t.isRaddle

/-- The level of a stop at A, if a stop stands there (R280). -/
def Ctx.stopAtA (c : Ctx) : Option (BitVec 3) := c.a.bind fun t => if t.isStop then some t.level else none

/-- A stop at A: no access; the stop goes to TGA in the plane of the value result, an order token to TGB (R280).
(DEDUCED, log 39.) -/
def Ctx.passStop (c : Ctx) (ta tb : Target) (plane : Bool) (lv : BitVec 3) (lat : Nat) : Issue :=
  { c.nothing with sends := [⟨ta, Tok.stop plane lv, c.t.cyc + lat⟩, ⟨tb, Tok.order, c.t.cyc + 1⟩], doneAt := c.t.cyc + lat }

/-- The bytes of SIZE codes (R282). -/
def sizeBytes (size : BitVec 2) : Nat := 2 ^ size.toNat

/-- The first address of a scratchpad access that is out of range or misaligned (R282, R412). -/
def scratchBad (eas : List Nat) (n : Nat) : Option Nat := eas.find? fun a => a + n > 0x18000 || a % n != 0

/-- EA of a scalar or vector scratchpad access (R282). -/
def Ctx.scratchEa (c : Ctx) (off : BitVec 21) : Nat := (c.av + sext off).toNat

/-- The four addresses of LDSX and STSX (R284). -/
def Ctx.laneEas (c : Ctx) (off : BitVec 21) : List Nat :=
  ((lanes 32 c.ad.pay).take 4).map fun x => (BitVec.ofNat 32 x + off.signExtend 32).toNat

/-- Issue a scratchpad access, served from the next cycle on (R281), or raise SCRATCH_RANGE. -/
def Ctx.scratch (c : Ctx) (eas : List Nat) (op : ScratchOp) (fs : BitVec 2) : Issue :=
  match scratchBad eas op.size with
  | some a => c.stop 0x25 c.slot a
  | none => { c.nothing with work := .scratch eas op fs c.deps (c.t.cyc + 1), next := c.t.cyc + 1 }

/-- Issue a global access or an atomic at the memory port, or raise ADDRESS_FORM or ALIGNMENT (R291, R412).
(DEDUCED, log 41.) -/
def Ctx.global (c : Ctx) (opcode : BitVec 8) (op : GlobalOp) (q : GlobalQual) (scope : BitVec 3) (off : BitVec 21) : Issue :=
  let ea := c.av + sext off
  if c.k.eaBad ea op.size then c.stop 0x20 opcode.toNat ea.toNat
  else if op.misaligned ea then c.stop 0x26 opcode.toNat ea.toNat
  else { c.nothing with work := .portWait ⟨op, opcode, ea, scope.toNat, globalAcq q, globalRel q, c.deps⟩ none none }

/-- A stop that passes the memory port: the element count starts again (R280, R413). -/
def State.portStop (s : State) (c : Ctx) : State := s.modTile c.k.id c.t.id fun tl => { tl with elems := 0 }

/-- A load through the port (R292). -/
def Ctx.globalLoad (s : State) (c : Ctx) (ta tb : Target) (opcode : BitVec 8) (op : GlobalOp) (q : GlobalQual) (scope : BitVec 3)
    (off : BitVec 21) : State × Issue :=
  match c.stopAtA with
  | some lv => (s.portStop c, c.passStop ta tb (op == .readVec) lv 1)
  | none => (s, c.global opcode op q scope off)

/-- A store through the port (R280, R292). -/
def Ctx.globalStore (s : State) (c : Ctx) (ta tb : Target) (opcode : BitVec 8) (op : GlobalOp) (q : GlobalQual) (scope : BitVec 3)
    (off : BitVec 21) : State × Issue :=
  match c.stopAtA with
  | some lv => (s.portStop c, c.passStop ta tb false lv 1)
  | none => if (c.b.map Tok.writesNothing).getD false then (s, c.emit 1 ta tb Tok.order) else (s, c.global opcode op q scope off)

/-- An atomic (R293). -/
def Ctx.atomic (s : State) (c : Ctx) (ta tb : Target) (opcode : BitVec 8) (n : Nat) (compare : Word) (q : GlobalQual) (scope : BitVec 3)
    (off : BitVec 21) : State × Issue :=
  match c.stopAtA with
  | some lv => (s.portStop c, c.passStop ta tb false lv 1)
  | none => (s, c.global opcode (.atomic opcode n c.bv compare) q scope off)

/-- Bytes of a bin (R129). -/
def binBytes (fmt : Nat) : Nat := if fmt == 0xD then 4 else 8

/-- The bins of a CMAC: the lane, its weight's offset and its accumulator's offset (R331). -/
def cmacBins (fmt : Nat) (d : Word) : List (Nat × Nat × Nat) :=
  let n := d.toNat
  let e := binBytes fmt
  (List.range (fld n 34 4 + 1)).flatMap fun o => (List.range (16 / e)).map fun i =>
    let k := fld n 0 8 + i
    (i, fld n 8 18 + 16 * fld n 26 8 * o + e * k, fld n 38 14 + 8 * fld n 52 8 * o + 8 * k)

/-- The accumulator rows that a CMAC reaches (R331). -/
def cmacRows (fmt : Nat) (d : Word) : List Nat := (cmacBins fmt d).flatMap fun b => [b.2.2 / 256, (b.2.2 + 7) / 256]

/-- Whether an AROW or CMAC that was issued before an instruction, or that completed in this cycle, keeps it waiting for a row (R126,
R288). -/
def TileSt.rowBusy (t : TileSt) (no : Nat) (row : Option Nat) : Bool :=
  let hit := fun r => row.isNone || row == some r
  t.rowsDone.any hit ||
  t.execs.any fun x => x.pend.any fun p => p.no < no && (match p.work with
    | .arow r _ _ _ _ _ _ _ => hit r
    | .cmac fmt _ d _ => (cmacRows fmt d).any hit
    | _ => false)

/-- Whether an instruction issued before an AROW must still act on the AROW's row before the AROW may add to it: an AROW that has not
added all its groups (R127), an ACRD, ACWR or ACCLR that has not acted, or an ADRN or AZERO that itself still waits for an earlier AROW
(R126).
(DEDUCED, log 47.) -/
def TileSt.rowHeld (t : TileSt) (no row : Nat) : Bool :=
  t.execs.any fun x => x.pend.any fun p => p.no < no && (match p.work with
    | .arow r _ _ _ _ _ _ _ | .accum r _ _ => r == row
    | .acclr => true
    | .adrn r 0 _ [] => r == row && t.rowBusy p.no (some row)
    | .azero rows => rows.contains row && t.rowBusy p.no (some row)
    | _ => false)

/-- Count an arrival or abstention at a bell (R189, R298): its generation.
(DEDUCED, log 16.) -/
def State.bellEnter (s : State) (c : Ctx) (b : Nat) : Nat × State :=
  match c.k.bells[b]? with
  | none => (0, s)
  | some x =>
    let deps := (x.deps ++ c.deps).eraseDups
    let y := if x.tally + 1 == x.count then
        { x with gen := x.gen + 1, tally := 0, opened := none, timedOut := false, deps := []
                 releases := x.releases ++ [(x.gen, c.t.id, c.t.cyc + 16, deps)] }
      else { x with tally := x.tally + 1, deps := deps, opened := some (x.opened.getD (c.t.id, c.task, s.now)) }
    (x.gen, s.modKiln c.k.id fun kl => { kl with bells := kl.bells.set b y })

/-- A queue or counter instruction that waits, its request served after a free latency (R281). -/
def Ctx.queued (s : State) (c : Ctx) (op : QueueOp) : State × Issue :=
  let (d, s) := s.draw
  (s, { c.nothing with work := .queue op c.deps, next := c.t.cyc + 1 + d / max 1 (c.k.period c.t) })

/-- A queue instruction on a queue that R299 admits. -/
def Ctx.onQueue (s : State) (c : Ctx) (opcode : Nat) (want : Option Bool) (len : Bool) (f : State → State × QueueOp) : State × Issue :=
  match s.queueCause c.k.paddock c.av want len with
  | some code => (s, c.stop code c.av.toNat opcode)
  | none => let (s, op) := f s; Ctx.queued s c op

/-! Meanings. -/

/-- LDS (R283). -/
def execLds (p : Pred) (q : LoadQual) (ta tb : Target) (size : BitVec 2) (sx : BitVec 1) (off : BitVec 21) (s : State) : Host.Outcome State Fault Refusal :=
  onTileS s false p .second ta tb fun s c =>
    match c.stopAtA with
    | some lv => (s, c.passStop ta tb false lv 2)
    | none => (s, c.scratch [c.scratchEa off] (.load (sizeBytes size) (sx == 1)) (loadFs q))

/-- LDSV (R283): DOMAIN is the tag of the chunk (R130). -/
def execLdsv (p : Pred) (q : LoadQual) (ta tb : Target) (off : BitVec 21) (s : State) : Host.Outcome State Fault Refusal :=
  onTileS s true p .second ta tb fun s c =>
    match c.stopAtA with
    | some lv => (s, c.passStop ta tb true lv 2)
    | none => (s, c.scratch [c.scratchEa off] (.loadVec) (loadFs q))

/-- STS (R280, R283). -/
def execSts (p : Pred) (q : StoreQual) (ta tb : Target) (size : BitVec 2) (off : BitVec 21) (s : State) : Host.Outcome State Fault Refusal :=
  onTileS s false p .both ta tb fun s c =>
    match c.stopAtA with
    | some lv => (s, c.passStop ta tb false lv 1)
    | none => (s, if (c.b.map Tok.writesNothing).getD false then c.emit 1 ta tb Tok.order else c.scratch [c.scratchEa off] (.store (leBytes (sizeBytes size) c.bv.toNat)) (storeFs q))

/-- STSV (R280, R283). -/
def execStsv (p : Pred) (q : StoreQual) (ta tb : Target) (off : BitVec 21) (s : State) : Host.Outcome State Fault Refusal :=
  onTileS s true p .both ta tb fun s c =>
    match c.stopAtA with
    | some lv => (s, c.passStop ta tb false lv 1)
    | none => (s, if (c.b.map Tok.writesNothing).getD false then c.emit 1 ta tb Tok.order else c.scratch [c.scratchEa off] (.storeVec c.bd.pay c.bd.domain) (storeFs q))

/-- LDSX (R284). -/
def execLdsx (p : Pred) (q : LoadQual) (ta tb : Target) (size : BitVec 2) (sx : BitVec 1) (off : BitVec 21) (s : State) : Host.Outcome State Fault Refusal :=
  onTileS s true p .second ta tb fun s c =>
    match c.stopAtA with
    | some lv => (s, c.passStop ta tb true lv 3)
    | none => (s, c.scratch (c.laneEas off) (.gather (sizeBytes size) (sx == 1)) (loadFs q))

/-- STSX (R280, R284). -/
def execStsx (p : Pred) (q : StoreQual) (ta tb : Target) (size : BitVec 2) (off : BitVec 21) (s : State) : Host.Outcome State Fault Refusal :=
  onTileS s true p .both ta tb fun s c =>
    match c.stopAtA with
    | some lv => (s, c.passStop ta tb false lv 3)
    | none => (s, if (c.b.map Tok.writesNothing).getD false then c.emit 3 ta tb Tok.order else c.scratch (c.laneEas off) (.scatter (sizeBytes size) c.bd.pay c.bd.domain) (storeFs q))

/-- FESET (R286). -/
def execFeset (p : Pred) (ta tb : Target) (off : BitVec 21) (s : State) : Host.Outcome State Fault Refusal :=
  onTileS s false p .both ta tb fun s c =>
    (s, c.scratch [c.scratchEa off] .feSet 0)

/-- FECLR (R286). -/
def execFeclr (p : Pred) (ta tb : Target) (off : BitVec 21) (s : State) : Host.Outcome State Fault Refusal :=
  onTileS s false p .both ta tb fun s c =>
    (s, c.scratch [c.scratchEa off] .feClr 0)

/-- FETST (R286). -/
def execFetst (p : Pred) (ta tb : Target) (off : BitVec 21) (s : State) : Host.Outcome State Fault Refusal :=
  onTileS s false p .second ta tb fun s c =>
    (s, c.scratch [c.scratchEa off] .feTst 0)

/-- KRD (R287), read at issue (R255); a poisoned keep gives a void record (R421). -/
def execKrd (p : Pred) (ta tb : Target) (k : BitVec 6) (s : State) : Host.Outcome State Fault Refusal :=
  onTileS s true p .neither ta tb fun s c =>
    let bad := s.ocPoisoned c.k.id c.t.id 3 (16 * k.toNat) 16
    let (v, s) := s.keepRead c.k.id c.t.id k.toNat
    if bad then (s.poisonSeen (c.k.faultReq c.t.id c.x.task c.x.block c.slot 0x29 2 0 0) (c.k.pa c.t.id 3 (16 * k.toNat)),
      c.emit 1 ta tb (.data (DTok.void true false 0)))
    else (s, c.emit 1 ta tb (.data (DTok.record v false)))

/-- KWR (R287): the keep is written in the cycle it sends (R255). -/
def execKwr (p : Pred) (ta tb : Target) (k : BitVec 6) (s : State) : Host.Outcome State Fault Refusal :=
  onTileS s true p .neither ta tb fun s c =>
    let t := c.a.getD (.data c.ad)
    let r := c.emit 1 ta tb t
    (s, if c.ad.isRecord then { r with sends := ⟨.keep k, t, c.t.cyc + 1⟩ :: r.sends } else r)

/-- ACRD (R288), once the wait of R126 ends. -/
def execAcrd (p : Pred) (ta tb : Target) (row : BitVec 6) (qr : BitVec 4) (s : State) : Host.Outcome State Fault Refusal :=
  onTileS s true p .neither ta tb fun s c =>
    (s, { c.nothing with work := .accum row.toNat qr.toNat none })

/-- ACWR (R288), once the wait of R126 ends. -/
def execAcwr (p : Pred) (ta tb : Target) (row : BitVec 6) (qr : BitVec 4) (s : State) : Host.Outcome State Fault Refusal :=
  onTileS s true p .neither ta tb fun s c =>
    (s, { c.nothing with work := .accum row.toNat qr.toNat (some (c.a.getD (.data c.ad))) })

/-- ACCLR (R288). -/
def execAcclr (p : Pred) (ta tb : Target) (s : State) : Host.Outcome State Fault Refusal :=
  onTileS s false p .neither ta tb fun s c =>
    (s, { c.nothing with work := .acclr, doneAt := c.t.cyc + 16 })

/-- WICK (R289). -/
def execWick (p : Pred) (ta tb : Target) (w : BitVec 4) (first n : BitVec 6) (s : State) : Host.Outcome State Fault Refusal :=
  onTileS s false p .both ta tb fun s c =>
    (s, { c.nothing with work := .wick w.toNat first.toNat (n.toNat + 1) })

/-- WADV (R290). -/
def execWadv (p : Pred) (ta tb : Target) (w : BitVec 4) (n : BitVec 6) (s : State) : Host.Outcome State Fault Refusal :=
  onTileS s false p .both ta tb fun s c =>
    (s, { c.nothing with work := .wadv w.toNat (n.toNat + 1) c.deps })

/-- GLD (R292). -/
def execGld (p : Pred) (q : GlobalQual) (ta tb : Target) (scope : BitVec 3) (size : BitVec 2) (off : BitVec 21) (s : State) : Host.Outcome State Fault Refusal :=
  onTileS s false p .second ta tb fun s c =>
    Ctx.globalLoad s c ta tb 0x80 (.read (sizeBytes size)) q scope off

/-- GLDV (R292). -/
def execGldv (p : Pred) (q : GlobalQual) (ta tb : Target) (scope : BitVec 3) (off : BitVec 21) (s : State) : Host.Outcome State Fault Refusal :=
  onTileS s true p .second ta tb fun s c =>
    Ctx.globalLoad s c ta tb 0x81 .readVec q scope off

/-- GST (R292). -/
def execGst (p : Pred) (q : GlobalQual) (ta tb : Target) (scope : BitVec 3) (size : BitVec 2) (off : BitVec 21) (s : State) : Host.Outcome State Fault Refusal :=
  onTileS s false p .both ta tb fun s c =>
    Ctx.globalStore s c ta tb 0x82 (.write (leBytes (sizeBytes size) c.bv.toNat)) q scope off

/-- GSTV (R292). -/
def execGstv (p : Pred) (q : GlobalQual) (ta tb : Target) (scope : BitVec 3) (off : BitVec 21) (s : State) : Host.Outcome State Fault Refusal :=
  onTileS s true p .both ta tb fun s c =>
    Ctx.globalStore s c ta tb 0x83 (.writeVec c.bd.pay c.bd.domain) q scope off

/-- AADD (R293). -/
def execAadd (p : Pred) (q : GlobalQual) (ta tb : Target) (scope : BitVec 3) (size : BitVec 2) (off : BitVec 21) (s : State) : Host.Outcome State Fault Refusal :=
  onTileS s false p .second ta tb fun s c =>
    Ctx.atomic s c ta tb 0x84 (sizeBytes size) 0 q scope off

/-- AAND (R293). -/
def execAand (p : Pred) (q : GlobalQual) (ta tb : Target) (scope : BitVec 3) (size : BitVec 2) (off : BitVec 21) (s : State) : Host.Outcome State Fault Refusal :=
  onTileS s false p .second ta tb fun s c =>
    Ctx.atomic s c ta tb 0x85 (sizeBytes size) 0 q scope off

/-- AOR (R293). -/
def execAor (p : Pred) (q : GlobalQual) (ta tb : Target) (scope : BitVec 3) (size : BitVec 2) (off : BitVec 21) (s : State) : Host.Outcome State Fault Refusal :=
  onTileS s false p .second ta tb fun s c =>
    Ctx.atomic s c ta tb 0x86 (sizeBytes size) 0 q scope off

/-- AXOR (R293). -/
def execAxor (p : Pred) (q : GlobalQual) (ta tb : Target) (scope : BitVec 3) (size : BitVec 2) (off : BitVec 21) (s : State) : Host.Outcome State Fault Refusal :=
  onTileS s false p .second ta tb fun s c =>
    Ctx.atomic s c ta tb 0x87 (sizeBytes size) 0 q scope off

/-- AMIN (R293). -/
def execAmin (p : Pred) (q : GlobalQual) (ta tb : Target) (scope : BitVec 3) (size : BitVec 2) (off : BitVec 21) (s : State) : Host.Outcome State Fault Refusal :=
  onTileS s false p .second ta tb fun s c =>
    Ctx.atomic s c ta tb 0x88 (sizeBytes size) 0 q scope off

/-- AMAX (R293). -/
def execAmax (p : Pred) (q : GlobalQual) (ta tb : Target) (scope : BitVec 3) (size : BitVec 2) (off : BitVec 21) (s : State) : Host.Outcome State Fault Refusal :=
  onTileS s false p .second ta tb fun s c =>
    Ctx.atomic s c ta tb 0x89 (sizeBytes size) 0 q scope off

/-- AMINU (R293). -/
def execAminu (p : Pred) (q : GlobalQual) (ta tb : Target) (scope : BitVec 3) (size : BitVec 2) (off : BitVec 21) (s : State) : Host.Outcome State Fault Refusal :=
  onTileS s false p .second ta tb fun s c =>
    Ctx.atomic s c ta tb 0x8A (sizeBytes size) 0 q scope off

/-- AMAXU (R293). -/
def execAmaxu (p : Pred) (q : GlobalQual) (ta tb : Target) (scope : BitVec 3) (size : BitVec 2) (off : BitVec 21) (s : State) : Host.Outcome State Fault Refusal :=
  onTileS s false p .second ta tb fun s c =>
    Ctx.atomic s c ta tb 0x8B (sizeBytes size) 0 q scope off

/-- AXCH (R293). -/
def execAxch (p : Pred) (q : GlobalQual) (ta tb : Target) (scope : BitVec 3) (size : BitVec 2) (off : BitVec 21) (s : State) : Host.Outcome State Fault Refusal :=
  onTileS s false p .second ta tb fun s c =>
    Ctx.atomic s c ta tb 0x8C (sizeBytes size) 0 q scope off

/-- ACAS (R293): its keep is read at issue. -/
def execAcas (p : Pred) (q : GlobalQual) (ta tb : Target) (scope : BitVec 3) (size : BitVec 2) (keep : BitVec 6) (off : BitVec 21) (s : State) : Host.Outcome State Fault Refusal :=
  onTileS s false p .second ta tb fun s c =>
    match c.stopAtA with
    | some _ => Ctx.atomic s c ta tb 0x8D (sizeBytes size) 0 q scope off
    | none =>
      let (v, s) := s.keepRead c.k.id c.t.id keep.toNat
      Ctx.atomic s c ta tb 0x8D (sizeBytes size) (v.setWidth 64) q scope off

/-- AFADD (R293). -/
def execAfadd (p : Pred) (q : GlobalQual) (ta tb : Target) (scope : BitVec 3) (off : BitVec 21) (s : State) : Host.Outcome State Fault Refusal :=
  onTileS s false p .second ta tb fun s c =>
    Ctx.atomic s c ta tb 0x8E 4 0 q scope off

/-- ATAS (R293). -/
def execAtas (p : Pred) (q : GlobalQual) (ta tb : Target) (scope : BitVec 3) (off : BitVec 21) (s : State) : Host.Outcome State Fault Refusal :=
  onTileS s false p .second ta tb fun s c =>
    Ctx.atomic s c ta tb 0x8F 8 0 q scope off

/-- FENCE (R182, R295). -/
def execFence (p : Pred) (ta tb : Target) (scope : BitVec 3) (s : State) : Host.Outcome State Fault Refusal :=
  onTileS s false p .both ta tb fun s c =>
    (s, { c.nothing with work := .fence scope.toNat, next := c.t.cyc + 1 })

/-- ORDJ (R281, R296): it sends in the cycle in which it issues, the one after its last token came. -/
def execOrdj (p : Pred) (ta tb : Target) (s : State) : Host.Outcome State Fault Refusal :=
  onTileS s false p .neither ta tb fun s c =>
    (s, c.emit 0 ta tb Tok.order)

/-- BELL (R297, R298). -/
def execBell (p : Pred) (ta tb : Target) (bell : BitVec 6) (s : State) : Host.Outcome State Fault Refusal :=
  onTileS s false p .neither ta tb fun s c =>
    let (gen, s) := s.bellEnter c bell.toNat
    (s, { c.nothing with work := .bell bell.toNat gen })

/-- BELLA (R297, R298). -/
def execBella (p : Pred) (ta tb : Target) (bell : BitVec 6) (s : State) : Host.Outcome State Fault Refusal :=
  onTileS s false p .neither ta tb fun s c =>
    ((s.bellEnter c bell.toNat).2, c.emit 1 ta tb Tok.order)

/-- ABSTN (R297, R298). -/
def execAbstn (p : Pred) (ta tb : Target) (bell : BitVec 6) (s : State) : Host.Outcome State Fault Refusal :=
  onTileS s false p .neither ta tb fun s c =>
    ((s.bellEnter c bell.toNat).2, c.emit 1 ta tb Tok.order)

/-- QPUSH (R299). -/
def execQpush (p : Pred) (ta tb : Target) (k : BitVec 6) (s : State) : Host.Outcome State Fault Refusal :=
  onTileS s false p .neither ta tb fun s c =>
    Ctx.onQueue s c 0x95 (some true) false fun s =>
      let (r, s) := s.readKeeps4 c.k.id c.t.id k.toNat
      (s, .push (c.av.toNat % 256) r)

/-- QPOP (R299). -/
def execQpop (p : Pred) (ta tb : Target) (k : BitVec 6) (s : State) : Host.Outcome State Fault Refusal :=
  onTileS s false p .neither ta tb fun s c =>
    Ctx.onQueue s c 0x96 (some true) false fun s => (s, .pop (c.av.toNat % 256) k.toNat)

/-- QLEN (R299, R301). -/
def execQlen (p : Pred) (ta tb : Target) (s : State) : Host.Outcome State Fault Refusal :=
  onTileS s false p .neither ta tb fun s c =>
    Ctx.onQueue s c 0x97 none true fun s => (s, .len (c.av.toNat % 256))

/-- LNCH (R299). -/
def execLnch (p : Pred) (ta tb : Target) (k : BitVec 6) (s : State) : Host.Outcome State Fault Refusal :=
  onTileS s false p .neither ta tb fun s c =>
    Ctx.onQueue s c 0x98 (some false) false fun s =>
      let (r, s) := s.readKeeps4 c.k.id c.t.id k.toNat
      (s, .lnch (c.av.toNat % 256) r)

/-- SIGC (R302, R387). -/
def execSigc (p : Pred) (ta tb : Target) (inc : BitVec 16) (s : State) : Host.Outcome State Fault Refusal :=
  onTileS s false p .neither ta tb fun s c =>
    if c.av.toNat ≥ 4096 then (s, c.stop 0x0B c.av.toNat 0x99)
    else Ctx.queued s c (.sigc c.av.toNat inc.toNat)

/-- WAITC (R303, R387). -/
def execWaitc (p : Pred) (ta tb : Target) (s : State) : Host.Outcome State Fault Refusal :=
  onTileS s false p .neither ta tb fun s c =>
    (s, if c.av.toNat ≥ 4096 then c.stop 0x0B c.av.toNat 0x9A
      else { c.nothing with work := .queue (.waitc c.av.toNat c.bv) c.deps, next := c.t.cyc + 1 })

/-- BMWAIT (R304). -/
def execBmwait (p : Pred) (ta tb : Target) (off : BitVec 21) (s : State) : Host.Outcome State Fault Refusal :=
  onTileS s false p .both ta tb fun s c =>
    (s, match scratchBad [c.scratchEa off] 8 with
      | some a => c.stop 0x25 c.slot a
      | none => if c.bv == 0 then c.emit 1 ta tb Tok.order else { c.nothing with work := .bmwait (c.scratchEa off) c.bv })

end Sys2Proof.Machine
end

