-- ==== Sys2Proof/Machine/Streams.lean ====
section
/-! DEFINITION. Rows 0xA_ and 0xB_: streams, repeat rings, takes, counters, and the sideband of records (R306 to R324).
Here are the meanings, and the later actions of the instructions that are under way for more than one cycle. -/

namespace Sys2Proof.Machine

/-! Generated streams (R309 to R311). -/

/-- A generated token: a control value or a data record (R309). -/
def genTok (dpl : Bool) (v : Word) : Tok := if dpl then .data (DTok.record (v.setWidth 128) false) else Tok.val v

/-- What a generator does next: one more token to TGA, or its last value to TGB. -/
inductive GenStep where
  | send (x : Tok) (rest : Work)
  | done (x : Tok)

/-- The next action of LGEN, LGEN2 and SPSCN. -/
def Work.genStep : Work → Option GenStep
  | .lgen i n b st lv dpl =>
    if i < n then some (.send (genTok dpl (b + BitVec.ofNat 64 i * st)) (.lgen (i + 1) n b st lv dpl))
    else if i == n then some (.send (Tok.stop dpl lv) (.lgen (i + 1) n b st lv dpl))
    else some (.done (Tok.val (BitVec.ofNat 64 n)))
  | .lgen2 i1 i0 n1 n0 b s1 s0 lv dpl =>
    if i1 < n1 then
      if i0 < n0 then
        some (.send (genTok dpl (b + BitVec.ofNat 64 i1 * s1 + BitVec.ofNat 64 i0 * s0)) (.lgen2 i1 (i0 + 1) n1 n0 b s1 s0 lv dpl))
      else some (.send (Tok.stop dpl (if i1 + 1 == n1 then lv + 1 else lv)) (.lgen2 (i1 + 1) 0 n1 n0 b s1 s0 lv dpl))
    else if n1 == 0 && i1 == 0 then some (.send (Tok.stop dpl (lv + 1)) (.lgen2 1 0 n1 n0 b s1 s0 lv dpl))
    else some (.done (Tok.val (BitVec.ofNat 64 (n1 * n0))))
  | .spscn i cnt mask b lv dpl =>
    match (List.range 64).find? fun j => i ≤ j && mask.getLsbD j with
    | some j => some (.send (genTok dpl (b + BitVec.ofNat 64 j)) (.spscn (j + 1) (cnt + 1) mask b lv dpl))
    | none =>
      if i ≤ 64 then some (.send (Tok.stop dpl lv) (.spscn 65 cnt mask b lv dpl))
      else some (.done (Tok.val (BitVec.ofNat 64 cnt)))
  | _ => none

/-- Whether a stream may send a token to TGA in this cycle: one per cycle, when the target accepts it (R308). -/
def Where.free (w : Where) (x : Tok) : Bool :=
  let y : Send := ⟨w.p.ta, x, w.t.cyc⟩
  w.p.next ≤ w.t.cyc && w.p.sent && (y.signal?.isSome || w.k.accepts w.t y)

/-- Whether a stream's closing token for TGB may be sent: everything before it has been accepted. -/
def Where.idle (w : Where) : Bool := w.p.next ≤ w.t.cyc && w.p.sent

/-- Send one token of a stream in this cycle and go on in the next. -/
def State.streamSend (s : State) (w : Where) (x : Tok) (rest : Work) : State :=
  s.putPend w { w.p.plus [⟨w.p.ta, x, w.t.cyc⟩] (s.inFlight w.p.deps) with work := rest, next := w.t.cyc + 1 }

/-- The stream's last token, to TGB. -/
def State.streamEnd (s : State) (w : Where) (x : Tok) : State :=
  s.putPend w (w.p.last [⟨w.p.tb, x, w.t.cyc⟩] (s.inFlight w.p.deps))

def Where.genReady (w : Where) : Bool :=
  match w.p.work.genStep with
  | some (.send x _) => w.free x
  | some (.done _) => w.idle
  | none => false

def State.genDo (s : State) (w : Where) : State :=
  match w.p.work.genStep with
  | some (.send x rest) => s.streamSend w x rest
  | some (.done x) => s.streamEnd w x
  | none => s

/-! Repeat rings (R312 to R314). -/

/-- LEN and CLOSED of the ring at a base. -/
def State.ringHead (s : State) (w : Where) (base : Nat) : Nat × Bool :=
  let n := leNat (s.ocRead w.k.id w.t.id 0 (32 * base) 8).1
  (n % 2 ^ 32, n / 2 ^ 32 % 2 == 1)

/-- Write a ring's header: LEN and CLOSED. -/
def State.setRing (s : State) (w : Where) (base len : Nat) (closed : Bool) : State :=
  s.ocWrite w.k.id w.t.id 0 (32 * base) (leBytes 32 (len % 2 ^ 32 + closed.toNat * 2 ^ 32))

/-- An entry's token (R312). -/
def State.ringEntry (s : State) (w : Where) (base e : Nat) : DTok :=
  let bs := (s.ocRead w.k.id w.t.id 0 (32 * base + 32 * (e + 1)) 32).1
  DTok.ofSide (payOf (bs.take 16)) (leNat ((bs.drop 16).take 6))

/-- Whether RPTC may act: no FENCE holds it, the ring is open and was not emptied in this cycle (R313, R314). -/
def State.rptcReady (s : State) (w : Where) (base : Nat) : Bool :=
  w.p.next ≤ w.t.cyc && !w.t.fenced w.p.no && !w.t.ringsDone.contains base && !(s.ringHead w base).2

/-- RPTC captures its token, or raises RING_OVERFLOW (R313, R387), whose word 6 has 12 bits for CAP.
(DEDUCED, log 122.) -/
def State.rptcDo (s : State) (w : Where) (base cap : Nat) (tok : DTok) : State :=
  let (len, _) := s.ringHead w base
  if len ≥ cap then s.stopAt w 0x07 (base + cap % 2 ^ 12 * 2 ^ 12) 0
  else
    let s := s.ocWrite w.k.id w.t.id 0 (32 * base + 32 * (len + 1)) (payBytes tok.pay ++ leBytes 16 tok.side)
    (s.setRing w base (len + 1) tok.isStop).putPend w (w.p.last (w.p.both (.data tok) (w.t.cyc + 1)) (s.inFlight w.p.deps))

/-- Whether RPTE may act. -/
def State.rpteReady (s : State) (w : Where) (base cap r rep e : Nat) (running : Bool) : Bool :=
  !w.t.fenced w.p.no &&
  (if !running then w.p.next ≤ w.t.cyc && (s.ringHead w base).2
   else if rep < r && e < min (s.ringHead w base).1 cap then w.free (.data (s.ringEntry w base e))
   else w.idle)

/-- RPTE begins, sends an entry, or empties the ring. -/
def State.rpteDo (s : State) (w : Where) (base cap r rep e : Nat) (running : Bool) : State :=
  let n := min (s.ringHead w base).1 cap
  if !running then s.putPend w { w.p with work := .rpte base cap r (if n == 0 then r else 0) 0 true }
  else if rep < r && e < n then
    let x := s.ringEntry w base e
    let s := s.ensure w.k.id w.t.id 0 (32 * base + 32 * (e + 1))
    s.streamSend w (.data x) (if e + 1 < n then .rpte base cap r rep (e + 1) true else .rpte base cap r (rep + 1) 0 true)
  else
    ((s.setRing w base 0 false).modTile w.k.id w.t.id fun tl => { tl with ringsDone := tl.ringsDone ++ [base] }).streamEnd w
      (Tok.val (BitVec.ofNat 64 r))

/-! Takes (R307, R317, R318). -/

/-- Whether a take may be made now. -/
def State.takeReady (s : State) (w : Where) (plane : Bool) (vc : Nat) : Bool :=
  w.p.next ≤ w.t.cyc && (w.k.vcHead w.t vc plane s.now).isSome

/-- Dequeue the head of a VC: the token, if one is delivered (R398). -/
def State.takeTok (s : State) (w : Where) (plane : Bool) (vc : Nat) : Option Tok × State :=
  match w.k.vcHead w.t vc plane s.now with
  | none => (none, s)
  | some (_, src) => s.vcPop w.k.id w.t.id src

/-- TAKE sends the token unchanged in the next cycle (R318). -/
def State.takeDo (s : State) (w : Where) (plane : Bool) (vc : Nat) : State :=
  match s.takeTok w plane vc with
  | (none, s) => s
  | (some x, s) => s.putPend w (w.p.last (w.p.both x (w.t.cyc + 1)) (s.inFlight w.p.deps))

/-- A task's ITGATE flag OUT (R317). -/
def TaskSt.setGate (t : TaskSt) (block slot : Nat) (out : Bool) : TaskSt :=
  let rest := t.gates.filter fun g => g != (block, slot)
  { t with gates := if out then rest ++ [(block, slot)] else rest }

/-- ITGATE takes one done token, and after the last sends its token (R317). -/
def State.itgateDo (s : State) (w : Where) (vc left : Nat) (tok : CTok) (last : Bool) : State :=
  match s.takeTok w false vc with
  | (none, s) => s
  | (some x, s) =>
    let deps := s.inFlight (w.p.deps ++ x.deps)
    if left ≤ 1 then
      (s.modTask w.k.id w.t.id w.x.task fun y => y.setGate w.x.block w.p.slot (!last)).putPend w
        (w.p.last (w.p.both (.ctl tok) (w.t.cyc + 1)) deps)
    else s.putPend w { w.p with work := .itgate vc (left - 1) tok last, deps := deps }

/-- CNTTK's add (R319). -/
def State.cnttkDo (s : State) (w : Where) (ctr : Nat) (inc : Word) (lv : BitVec 3) (dpl : Bool) : State :=
  let v := w.k.counters.getD ctr 0 + inc
  let s := s.modKiln w.k.id fun kl => { kl with counters := kl.counters.set ctr v }
  let due := w.t.cyc + 1
  s.putPend w (w.p.last ((if inc != 0 && v == 0 then [⟨w.p.ta, Tok.stop dpl lv, due⟩] else []) ++ [⟨w.p.tb, Tok.val v, due⟩])
    (s.inFlight w.p.deps))

/-! Weighted sums (R322). -/

/-- One lane's sum. -/
def waccLane (sat fp : Bool) (k x w : Nat) : Nat × Fl :=
  if fp then FF.fp32.fma false false x (FF.fp32.rne false w 0).1 k
  else
    let v := intRead 3 k + intRead 3 x * w
    if sat then (let c := intClamp 3 v; (intBits 32 c.1, { sat := c.2 })) else (intBits 32 v, {})

/-- The lane sums after a value of a weight. -/
def waccPay (sat fp : Bool) (keep x : Payload) (w : Nat) : Payload × Fl :=
  if w == 0 then (keep, {})
  else
    let r := foldFlags (((lanes 32 keep).zip (lanes 32 x)).map fun p => waccLane sat fp p.1 p.2 w)
    (ofLanes 32 r.1, r.2)

/-- Flags that an instruction under way records at completion. -/
def Pending.flagged (p : Pending) (f : Fl) : Pending := { p with flags := p.flags ||| f.fp, sat := p.sat || f.sat }

/-- WACC reads and writes its keeps (R322).
(DEDUCED, log 29.) -/
def State.waccDo (s : State) (w : Where) (acc wk : Nat) (wen sat fp : Bool) (tok : DTok) : State :=
  let k := w.k.id
  let t := w.t.id
  let (s, fl) :=
    if tok.isRecord || tok.isVoid then
      let (v, s) := s.keepRead k t acc
      let (v', fl) := waccPay sat fp v tok.pay tok.weight.toNat
      let s := if tok.weight == 0 then s else s.keepPut k t w.p.no acc v'
      if wen then
        let (u, s) := s.keepRead k t wk
        let lo := (u.toNat + tok.weight.toNat) % 2 ^ 64
        let hi := (u.toNat / 2 ^ 64 + 1) % 2 ^ 64
        (s.keepPut k t w.p.no wk (BitVec.ofNat 128 (hi * 2 ^ 64 + lo)), fl)
      else (s, fl)
    else (s, ({} : Fl))
  s.putPend w ((w.p.last (w.p.both (.data tok) w.t.cyc) (s.inFlight w.p.deps)).flagged fl)

/-! Windows (R83, R323). -/

/-- The state of a window operator, as its three keeps hold it. -/
structure Win where
  sum : Payload
  recs : Nat
  wtot : Nat
  lost : Nat
  wlost : Nat
  wstart : Nat
  isOpen : Bool
  gapped : Bool
  deriving DecidableEq, Repr

def Win.ofKeeps (a b c : Payload) : Win :=
  ⟨a, fld b.toNat 0 32, fld b.toNat 32 31, fld b.toNat 64 32, fld b.toNat 96 32, fld c.toNat 0 23, fld c.toNat 23 1 == 1, fld c.toNat 24 1 == 1⟩

/-- K[n+1], without GAPPED. -/
def Win.counts (w : Win) : Nat := w.recs + w.wtot * 2 ^ 32 + w.lost * 2 ^ 64 + w.wlost * 2 ^ 96

/-- K[n+2]. -/
def Win.third (w : Win) : Payload := BitVec.ofNat 128 (w.wstart + w.isOpen.toNat * 2 ^ 23 + w.gapped.toNat * 2 ^ 24)

/-- The report of a closing window: the records for TGA and TGB (R323). -/
def Win.report (w : Win) : DTok × DTok :=
  ({ DTok.record w.sum false with seq := BitVec.ofNat 23 w.wstart },
   { DTok.record (BitVec.ofNat 128 (w.counts + w.gapped.toNat * 2 ^ 63)) false with seq := BitVec.ofNat 23 w.wstart })

/-- The window after it closes, with OPEN as it was. -/
def Win.cleared (w : Win) : Win := { w with sum := 0, recs := 0, wtot := 0, lost := 0, wlost := 0, gapped := false }

/-- Close the open window, if any, and open the one that starts at a SEQ. -/
def Win.opens (w : Win) (start : Nat) : List (DTok × DTok) × Win :=
  let reps := if w.isOpen then [w.report] else []
  let w := if w.isOpen then w.cleared else w
  (reps, { w with wstart := start % 2 ^ 23, isOpen := true })

/-- Give a window its share of a gap (R83), and whether a count is clamped (R107). -/
def Win.share (w : Win) (lost wlost : Nat) : Win × Bool :=
  ({ w with lost := min (w.lost + lost) (2 ^ 32 - 1), wlost := min (w.wlost + wlost) (2 ^ 32 - 1), gapped := true },
   w.lost + lost ≥ 2 ^ 32 || w.wlost + wlost ≥ 2 ^ 32)

/-- Share a gap of `n` SEQ values, `left` of them not yet shared, over the windows it spans: `cnt` values fall in the
present one (R83). The answer holds the reports, the last window, and whether a count is clamped. -/
def Win.spread (z lost wlost n : Nat) : Nat → Nat → Nat → Nat → Nat → Win → List (DTok × DTok) × Win × Bool
  | 0, _, _, _, _, w => ([], w, false)
  | fuel + 1, left, cnt, gl, gw, w =>
    if left ≤ cnt then ([], w.share (lost - gl) (wlost - gw))
    else
      let a := lost * cnt / n
      let b := wlost * cnt / n
      let v := w.share a b
      let r := Win.spread z lost wlost n fuel (left - cnt) z (gl + a) (gw + b) { v.1.cleared with wstart := (v.1.wstart + z) % 2 ^ 23 }
      (v.1.report :: r.1, r.2.1, v.2 || r.2.2)

/-- Whether a SEQ lies beyond the end of the open window of `z` values (R65, R83). -/
def Win.passed (w : Win) (z seq : Nat) : Bool := seqBefore ((w.wstart + z - 1) % 2 ^ 23) seq

/-- The window that a token of a SEQ enters: a new one where none is open or the SEQ lies beyond the open one's end (R323). -/
def Win.enter (w : Win) (z seq : Nat) : List (DTok × DTok) × Win :=
  if !w.isOpen || w.passed z seq then w.opens (seq / z * z) else ([], w)

/-- What WINCL makes of a token: the reports, the window, and the flags (R323). -/
def Win.take (w : Win) (zl : Nat) (sat fp : Bool) (t : DTok) : List (DTok × DTok) × Win × Fl :=
  let z := 2 ^ zl
  if t.isRecord || t.isVoid then
    let (reps, w) := w.enter z t.seq.toNat
    let (sum, fl) := waccPay sat fp w.sum t.pay t.weight.toNat
    let clamped := w.recs + 1 ≥ 2 ^ 32 || w.wtot + t.weight.toNat ≥ 2 ^ 31
    (reps, { w with sum := sum, recs := min (w.recs + 1) (2 ^ 32 - 1), wtot := min (w.wtot + t.weight.toNat) (2 ^ 31 - 1) },
     { fl with sat := fl.sat || clamped })
  else if t.isGap then
    let g := t.gapFields
    let (reps, w) := w.enter z g.first
    let n := (g.last + 2 ^ 23 - g.first) % 2 ^ 23 + 1
    let cnt := (w.wstart + z - 1 + 2 ^ 23 - g.first) % 2 ^ 23 + 1
    let (more, w, clamped) := Win.spread z g.lost g.wlost n (n / z + 2) n cnt 0 0 w
    (reps ++ more, w, { sat := clamped })
  else if t.isStop then
    if w.isOpen then ([w.report], { w.cleared with isOpen := false }, {}) else ([], { w with isOpen := false }, {})
  else ([], w, {})

/-- WINCL reads and writes its keeps and sends its reports, one per cycle, and a stop after them (R323). -/
def State.winclDo (s : State) (w : Where) (zl k : Nat) (sat fp : Bool) (tok : DTok) : State :=
  let (a, s) := s.keepRead w.k.id w.t.id k
  let (b, s) := s.keepRead w.k.id w.t.id (k + 1)
  let (c, s) := s.keepRead w.k.id w.t.id (k + 2)
  let (reps, v, fl) := (Win.ofKeeps a b c).take zl sat fp tok
  let s := ((s.keepPut w.k.id w.t.id w.p.no k v.sum).keepPut w.k.id w.t.id w.p.no (k + 1) (BitVec.ofNat 128 v.counts)).keepPut w.k.id w.t.id w.p.no (k + 2) v.third
  let sends := reps.zipIdx.flatMap fun x => [⟨w.p.ta, .data x.1.1, w.t.cyc + x.2⟩, (⟨w.p.tb, .data x.1.2, w.t.cyc + x.2⟩ : Send)]
  let stop := if tok.isStop then w.p.both (.data tok) (w.t.cyc + reps.length) else []
  s.putPend w ((w.p.last (sends ++ stop) (s.inFlight w.p.deps)).flagged fl)

/-! Keyed joins (R84, R324). -/

/-- One side's gap range in the keep: FIRST, LAST, valid. -/
def joinRange (p : Payload) (right : Bool) : Nat × Nat × Bool :=
  let o := if right then 64 else 0
  (fld p.toNat o 23, fld p.toNat (o + 23) 23, fld p.toNat (o + 46) 1 == 1)

def setJoinRange (p : Payload) (right : Bool) (r : Nat × Nat × Bool) : Payload :=
  let v := r.1 % 2 ^ 23 + r.2.1 % 2 ^ 23 * 2 ^ 23 + r.2.2.toNat * 2 ^ 46
  let n := p.toNat
  BitVec.ofNat 128 (if right then n % 2 ^ 64 + v * 2 ^ 64 else v + n / 2 ^ 64 * 2 ^ 64)

/-- Whether a SEQ lies in a valid range. -/
def inRange (r : Nat × Nat × Bool) (q : Nat) : Bool :=
  r.2.2 && (q + 2 ^ 23 - r.1) % 2 ^ 23 ≤ (r.2.1 + 2 ^ 23 - r.1) % 2 ^ 23

/-- What JOINK does next with the heads as they stand (R324). -/
inductive JoinStep where
  | gap (right : Bool)
  | pair
  | one (right : Bool)
  | stops
  | mismatch
  | wait
  deriving DecidableEq, Repr

/-- A head that joins as a record. -/
def Tok.joins (t : Tok) : Option DTok :=
  match t with
  | .data d => if d.isRecord || d.isVoid then some d else none
  | .ctl _ => none

/-- Whether a record head can no longer match, given the other head and the other side's range. -/
def cannotMatch (h : DTok) (other : Option Tok) (range : Nat × Nat × Bool) : Bool :=
  match other with
  | none => inRange range h.seq.toNat
  | some o =>
    match o.joins with
    | some d => seqBefore h.seq.toNat d.seq.toNat
    | none => o.isStop

def joinStep (keep : Payload) (l r : Option Tok) : JoinStep :=
  let isGap := fun x : Option Tok => (x.map fun t => t.kind == 2).getD false
  if isGap l then .gap false
  else if isGap r then .gap true
  else
    let lr := l.bind Tok.joins
    let rr := r.bind Tok.joins
    if (match lr, rr with | some a, some b => a.seq == b.seq | _, _ => false) then .pair
    else if (match lr with | some a => cannotMatch a r (joinRange keep true) | none => false) then .one false
    else if (match rr with | some b => cannotMatch b l (joinRange keep false) | none => false) then .one true
    else
      match l, r with
      | some a, some b => if a.isStop && b.isStop then (if a.level == b.level then .stops else .mismatch) else .wait
      | _, _ => .wait

/-- The heads of JOINK's VCs. -/
def State.joinHeads (s : State) (w : Where) (vcl vcr : Nat) : Option Tok × Option Tok :=
  ((w.k.vcHead w.t vcl true s.now).map Prod.fst, (w.k.vcHead w.t vcr true s.now).map Prod.fst)

def State.joinNext (s : State) (w : Where) (vcl vcr k : Nat) : JoinStep :=
  let (l, r) := s.joinHeads w vcl vcr
  joinStep (s.keepRead w.k.id w.t.id k).1 l r

/-- HEAD_MISMATCH of two heads (R397). -/
def mismatchWord (a b : Tok) : Nat :=
  let dom := fun t : Tok => match t with | .data d => d.domain.toNat | .ctl _ => 0
  a.kind.toNat + b.kind.toNat * 2 ^ 4 + a.level.toNat * 2 ^ 8 + b.level.toNat * 2 ^ 11 + dom a * 2 ^ 14 + dom b * 2 ^ 15

/-- One turn of JOINK's loop (R324).
(DEDUCED, log 46.) -/
def State.joinDo (s : State) (w : Where) (vcl vcr k : Nat) (emit : Bool) : State :=
  let kid := w.k.id
  let t := w.t.id
  let (keep, s) := s.keepRead kid t k
  let (l, r) := s.joinHeads w vcl vcr
  let send := fun (s : State) (a b : Tok) =>
    s.putPend w (w.p.last [⟨w.p.ta, a, w.t.cyc + 1⟩, ⟨w.p.tb, b, w.t.cyc + 1⟩] (s.inFlight (w.p.deps ++ a.deps ++ b.deps)))
  match joinStep keep l r with
  | .gap right =>
    match s.takeTok w true (if right then vcr else vcl) with
    | (some (.data g), s) =>
      let f := g.gapFields
      (s.keepPut kid t w.p.no k (setJoinRange keep right (f.first, f.last, true))).putPend w { w.p with deps := s.inFlight (w.p.deps ++ g.deps) }
    | (_, s) => s
  | .pair | .stops =>
    match s.takeTok w true vcl with
    | (some a, s) =>
      match s.takeTok w true vcr with
      | (some b, s) => send (if a.isStop then s.keepPut kid t w.p.no k 0 else s) a b
      | (none, s) => s
    | (none, s) => s
  | .one right =>
    match s.takeTok w true (if right then vcr else vcl) with
    | (some (.data h), s) =>
      if emit && inRange (joinRange keep (!right)) h.seq.toNat then
        let v := Tok.data (DTok.void false h.domain h.seq)
        if right then send s v (.data h) else send s (.data h) v
      else s.putPend w { w.p with deps := s.inFlight (w.p.deps ++ h.deps) }
    | (_, s) => s
  | .mismatch =>
    match l, r with
    | some a, some b => s.stopAt w 0x39 w.p.slot (mismatchWord a b)
    | _, _ => s
  | .wait => s

/-! Meanings of row 0xA_. -/

/-- LGEN (R309). -/
def execLgen (p : Pred) (ta tb : Target) (step : BitVec 20) (lv : BitVec 3) (dpl : BitVec 1) (s : State) : Host.Outcome State Fault Refusal :=
  onTile s false p ta tb fun c => { c.nothing with work := .lgen 0 (c.av.toNat % 2 ^ 32) c.bv (sext step) lv (dpl == 1) }

/-- LGEN2 (R310). -/
def execLgen2 (p : Pred) (ta tb : Target) (step0 step1 : BitVec 12) (lv : BitVec 3) (dpl : BitVec 1) (s : State) : Host.Outcome State Fault Refusal :=
  onTile s false p ta tb fun c =>
    { c.nothing with work := .lgen2 0 0 (c.av.toNat % 2 ^ 32) (c.bv.toNat % 2 ^ 32) c.cv (sext step1) (sext step0) lv (dpl == 1) }

/-- SPSCN (R311). -/
def execSpscn (p : Pred) (ta tb : Target) (op : BitVec 1) (lv : BitVec 3) (dpl : BitVec 1) (s : State) : Host.Outcome State Fault Refusal :=
  onTile s false p ta tb fun c =>
    let b := match c.b with
      | some _ => c.bv
      | none => if op == 0 then BitVec.allOnes 64 else 0
    { c.nothing with work := .spscn 0 0 (if op == 0 then c.av &&& b else c.av ||| b) c.cv lv (dpl == 1) }

/-- RPTC (R313). -/
def execRptc (p : Pred) (ta tb : Target) (base cap : BitVec 12) (s : State) : Host.Outcome State Fault Refusal :=
  onTile s true p ta tb fun c => { c.nothing with work := .rptc base.toNat (cap.toNat + 1) c.ad }

/-- RPTE (R314). -/
def execRpte (p : Pred) (ta tb : Target) (base cap : BitVec 12) (s : State) : Host.Outcome State Fault Refusal :=
  onTile s true p ta tb fun c => { c.nothing with work := .rpte base.toNat (cap.toNat + 1) (c.av.toNat % 2 ^ 32) 0 0 false }

/-- EMSTP (R315). -/
def execEmstp (p : Pred) (ta tb : Target) (lv : BitVec 3) (dpl : BitVec 1) (s : State) : Host.Outcome State Fault Refusal :=
  onTile s false p ta tb fun c => c.emit 1 ta tb (Tok.stop (dpl == 1) lv)

/-- TKIND (R316). -/
def execTkind (p : Pred) (ta tb : Target) (lv : BitVec 3) (test : BitVec 1) (s : State) : Host.Outcome State Fault Refusal :=
  onTile s false p ta tb fun c =>
    let t := c.a.getD (Tok.val 0)
    c.send2 1 ta
      (if test == 1 then Tok.pred (t.isStop && lv ≤ t.level)
       else Tok.val (BitVec.ofNat 64 (t.kind.toNat + t.level.toNat * 2 ^ 4 + t.plane.toNat * 2 ^ 7)))
      tb t

/-- ITGATE (R317). -/
def execItgate (p : Pred) (ta tb : Target) (vc : BitVec 3) (d : BitVec 4) (lv : BitVec 3) (s : State) : Host.Outcome State Fault Refusal :=
  onTile s false p ta tb fun c =>
    let t := c.a.getD (Tok.val 0)
    let ends := t.isStop && lv ≤ t.level
    if t.isStop && !ends then c.emit 1 ta tb t
    else if c.tsk.gates.contains (c.x.block, c.slot) then
      match t with
      | .ctl x => { c.nothing with work := .itgate vc.toNat d.toNat x ends }
      | .data _ => c.nothing
    else { c.emit 1 ta tb t with tsk := c.tsk.setGate c.x.block c.slot (!ends) }

/-- The plane of TAKE's lazy binding (R307). -/
def State.takePlane (s : State) (c : Ctx) (vc : BitVec 3) : Bool :=
  ((s.header c.k c.t.id c.x.block).binds.filterMap fun x => x).any fun b => b.isLazy && b.plane && b.slot == c.slot && b.vc == vc.toNat

/-- TAKE (R318). -/
def execTake (p : Pred) (ta tb : Target) (vc : BitVec 3) (s : State) : Host.Outcome State Fault Refusal :=
  onTileS s ((s.ctx?.map fun c => s.takePlane c vc).getD false) p .neither ta tb fun s c =>
    (s, { c.nothing with work := .take (s.takePlane c vc) vc.toNat })

/-- CNTTK (R319). -/
def execCnttk (p : Pred) (ta tb : Target) (ctr lv : BitVec 3) (dpl : BitVec 1) (s : State) : Host.Outcome State Fault Refusal :=
  onTile s false p ta tb fun c => { c.nothing with work := .cnttk ctr.toNat c.av lv (dpl == 1) (c.t.cyc + 16), next := c.t.cyc + 16 }

/-! Meanings of row 0xB_. -/

/-- SEQRD (R320). -/
def execSeqrd (p : Pred) (ta tb : Target) (s : State) : Host.Outcome State Fault Refusal :=
  onTile s true p ta tb fun c => c.send2 1 ta (Tok.val (c.ad.seq.setWidth 64)) tb (.data c.ad)

/-- WGTRD (R320). -/
def execWgtrd (p : Pred) (ta tb : Target) (s : State) : Host.Outcome State Fault Refusal :=
  onTile s true p ta tb fun c => c.send2 1 ta (Tok.val (c.ad.weight.setWidth 64)) tb (.data c.ad)

/-- WGTWR (R321, R411). -/
def execWgtwr (p : Pred) (ta tb : Target) (s : State) : Host.Outcome State Fault Refusal :=
  onTile s true p ta tb fun c =>
    if c.ad.isRecord then
      { c.emit 1 ta tb (.data { c.ad with weight := BitVec.ofNat 16 (min c.bv.toNat 65535) }) with fl := { sat := c.bv.toNat > 65535 } }
    else c.emit 1 ta tb (.data c.ad)

/-- ISGAP (R320). -/
def execIsgap (p : Pred) (ta tb : Target) (test : BitVec 2) (s : State) : Host.Outcome State Fault Refusal :=
  onTile s true p ta tb fun c =>
    let t := c.ad
    c.send2 1 ta (Tok.pred (match test.toNat with
      | 0 => t.isGap
      | 1 => t.isVoid
      | 2 => t.isGap || t.isVoid
      | _ => t.isStop)) tb (.data t)

/-- A field of a gap token (R320). -/
def gapField (t : DTok) (f : BitVec 2) : Word :=
  if t.isGap then
    let g := t.gapFields
    BitVec.ofNat 64 (match f.toNat with | 0 => g.lost | 1 => g.wlost | 2 => g.first | _ => g.last)
  else 0

/-- GAPRD (R320). -/
def execGaprd (p : Pred) (ta tb : Target) (fa fb : BitVec 2) (s : State) : Host.Outcome State Fault Refusal :=
  onTile s true p ta tb fun c => c.send2 1 ta (Tok.val (gapField c.ad fa)) tb (Tok.val (gapField c.ad fb))

/-- EMGAP (R107, R321): a count that is clamped to 32 bits is a saturation. -/
def execEmgap (p : Pred) (ta tb : Target) (s : State) : Host.Outcome State Fault Refusal :=
  onTile s true p ta tb fun c =>
    { c.emit 1 ta tb (.data (DTok.gap ⟨c.av.toNat, c.bv.toNat, fld c.cv.toNat 0 23, fld c.cv.toNat 23 23⟩)) with
      fl := { sat := c.av.toNat ≥ 2 ^ 32 || c.bv.toNat ≥ 2 ^ 32 } }

/-- VOIDR (R321). -/
def execVoidr (p : Pred) (ta tb : Target) (s : State) : Host.Outcome State Fault Refusal :=
  onTile s true p ta tb fun c => c.emit 1 ta tb (.data (if c.ad.isRecord then DTok.void false c.ad.domain c.ad.seq else c.ad))

/-- WACC (R322). -/
def execWacc (p : Pred) (fs : BitVec 2) (ta tb : Target) (acc wk : BitVec 6) (wen sat : BitVec 1) (s : State) : Host.Outcome State Fault Refusal :=
  onTile s true p ta tb fun c =>
    { c.nothing with work := .wacc acc.toNat wk.toNat (wen == 1) (sat == 1) (c.fmt fs == 7) c.ad (c.t.cyc + 4), next := c.t.cyc + 4 }

/-- WINCL (R323). -/
def execWincl (p : Pred) (fs : BitVec 2) (ta tb : Target) (zl : BitVec 5) (k : BitVec 6) (sat : BitVec 1) (s : State) : Host.Outcome State Fault Refusal :=
  onTile s true p ta tb fun c =>
    { c.nothing with work := .wincl zl.toNat k.toNat (sat == 1) (c.fmt fs == 7) c.ad (c.t.cyc + 4), next := c.t.cyc + 4 }

/-- JOINK (R324). -/
def execJoink (p : Pred) (_fs : BitVec 2) (ta tb : Target) (vcl vcr : BitVec 3) (k : BitVec 6) (gapemit : BitVec 1) (s : State) :
    Host.Outcome State Fault Refusal :=
  onTile s true p ta tb fun c => { c.nothing with work := .joink vcl.toNat vcr.toNat k.toNat (gapemit == 1) }

end Sys2Proof.Machine
end

