-- ==== Sys2Proof/Machine/Functions.lean ====
section
/-! DEFINITION. The correctly rounded functions (R112, R113, R265, R407, R408) and the twiddles of the STU (R133). The
transcendental values are enclosed in fixed point with `P` fractional bits and rounded once both ends of the enclosure
round alike. -/

namespace Sys2Proof.Machine

/-- The integer square root by bits: the largest r below 2^n with r * r ≤ x, above `r`. -/
def isqrtBits : Nat → Nat → Nat → Nat
  | 0, _, r => r
  | n + 1, x, r => let t := r + 2 ^ n; isqrtBits n x (if t * t ≤ x then t else r)

/-- floor(sqrt x). -/
def isqrt (x : Nat) : Nat := isqrtBits (Nat.log2 x / 2 + 1) x 0

/-- VFRCP (R112). -/
def FF.rcp (f : FF) (a : Nat) : Nat × Fl :=
  match f.read a with
  | .nan s q fr => (f.nanFrom s f.fb fr, { inv := !q })
  | .inf s => (f.sbit s, {})
  | .fin s 0 _ => (f.infBits s, { dz := true })
  | .fin s m e =>
    let k := Nat.log2 m + 64
    f.round 0 false 0 s (2 ^ k / m) (-(k : Int) - e) (2 ^ k % m != 0)

/-- VFRSQ (R112). -/
def FF.rsq (f : FF) (a : Nat) : Nat × Fl :=
  match f.read a with
  | .nan s q fr => (f.nanFrom s f.fb fr, { inv := !q })
  | .inf s => if s then f.invalid else (0, {})
  | .fin s 0 _ => (f.infBits s, { dz := true })
  | .fin true _ _ => f.invalid
  | .fin false m e =>
    let (m, e) := if e % 2 == 0 then (m, e) else (2 * m, e - 1)
    let k := Nat.log2 m + 64
    let r := isqrt (2 ^ (2 * k) / m)
    f.round 0 false 0 false r (-(k : Int) - e / 2) (r * r * m != 2 ^ (2 * k))

/-- Sum over i below n of x^(2i+1) / (2i+1), with x = num/den, in units of 2^-P, each term truncated. -/
def atanhSeries (P num den : Nat) : Nat → Nat → Nat → Nat
  | 0, _, _ => 0
  | n + 1, i, t => t / (2 * i + 1) + atanhSeries P num den n (i + 1) (t * num * num / (den * den))

/-- 2 * atanh(num/den) in units of 2^-P, within 2 * (terms + 2) units below the true value; num/den at most 1/3. -/
def ln2atanh (P num den : Nat) : Nat := 2 * atanhSeries P num den (P / 3 + 4) 0 (2 ^ P * num / den)

/-- ln 2 in units of 2^-P (2 atanh(1/3)). -/
def ln2fix (P : Nat) : Nat := ln2atanh P 1 3

/-- Sum over i below n of y^i / i! in units of 2^-P, from the term `t` on. -/
def expSeries (P y : Nat) : Nat → Nat → Nat → Nat
  | 0, _, _ => 0
  | n + 1, i, t => t + expSeries P y n (i + 1) (t * y / (2 ^ P * (i + 1)))

/-- 2^(num / 2^k) for 0 ≤ num < 2^k, in units of 2^-P: a lower end; the error is below 64 * P units. -/
def exp2fix (P num k : Nat) : Nat :=
  let x := if k ≤ P then num * 2 ^ (P - k) else num / 2 ^ (k - P)
  let y := x * ln2fix P / 2 ^ P
  expSeries P y (P / 2 + 8) 0 (2 ^ P)

/-- Round a value enclosed in [lo, hi] * 2^e once, if both ends agree. -/
def FF.enclose (f : FF) (s : Bool) (lo hi : Nat) (e : Int) : Option (Nat × Fl) :=
  let a := f.round 0 false 0 s lo e true
  let b := f.round 0 false 0 s hi e true
  if a == b then some a else none

/-- The first precision of a list at which an enclosure rounds; the lower end at the last. -/
def FF.tryPrec (f : FF) (s : Bool) (enc : Nat → Nat × Nat × Int) : List Nat → Nat × Fl
  | [] => let (lo, _, e) := enc 640; f.round 0 false 0 s lo e true
  | p :: ps =>
    let (lo, hi, e) := enc p
    match f.enclose s lo hi e with
    | some r => r
    | none => f.tryPrec s enc ps

/-- 2^x for a finite x with |x| ≤ 1, rounded once (R112). -/
def FF.exp2small (f : FF) (s : Bool) (m : Nat) (e : Int) : Nat × Fl :=
  if m == 0 then f.rne false 1 0
  else if 0 ≤ e then (if s then f.rne false 1 (-1) else f.rne false 2 0)   -- |x| = 1
  else
    let k := (-e).toNat
    if m == 2 ^ k then (if s then f.rne false 1 (-1) else f.rne false 2 0)
    else
      -- x = num / 2^k with 0 ≤ num < 2^k, after adding 1 to a negative x
      let (num, sh) := if s then (2 ^ k - m, (-1 : Int)) else (m, 0)
      f.tryPrec false (fun p => let v := exp2fix p num k; (v - 64 * p, v + 64 * p, sh - p)) [96, 192, 384]

/-- VFEXP (R112, R407).
(DEDUCED, log 20.) -/
def FF.exp2 (f : FF) (a : Nat) : Nat × Fl :=
  match f.read a with
  | .nan s q fr => (f.nanFrom s f.fb fr, { inv := !q })
  | .inf s => (if s then 0 else f.infBits false, {})
  | .fin s m e =>
    let big := if 0 ≤ e then m * 2 ^ e.toNat > 1 else m > 2 ^ (-e).toNat
    if !big then f.exp2small s m e
    else
      let (n, _) := roundInt 0 0 s m e
      let ee := min e 0
      let x : Int := ((m * 2 ^ (e - ee).toNat : Nat) : Int)
      let fr : Int := (if s then -x else x) - n * (2 ^ (-ee).toNat : Nat)
      let (r, fl) := f.exp2small (fr < 0) fr.natAbs ee
      let k := max (-1024) (min 1024 n)
      match f.read r with
      | .fin s2 m2 e2 => let (r2, fl2) := f.rne s2 m2 (e2 + k); (r2, { fl2 with inx := fl2.inx || fl.inx })
      | _ => (r, fl)

/-- ln(m / 2^k) for a value in [1/2, 2], in units of 2^-P: sign and magnitude, within 4 * P units. -/
def lnFix (P m k : Nat) : Bool × Nat :=
  let o := 2 ^ k
  if m < o then (true, ln2atanh P (o - m) (o + m)) else (false, ln2atanh P (m - o) (m + o))

/-- log2 of m / 2^k in [1/2, 2], not 1, 1/2 or 2, rounded once (R112). -/
def FF.log2small (f : FF) (m k : Nat) : Nat × Fl :=
  let s := m < 2 ^ k
  f.tryPrec s (fun p =>
    let (_, l) := lnFix p m k
    let d := ln2fix p
    ((l - 4 * p) * 2 ^ p / (d + 4 * p), (l + 4 * p) * 2 ^ p / (d - 4 * p) + 1, -(p : Int))) [128, 256, 512]

/-- log2 of m / 2^k in [1/2, 2], rounded once, with the exact cases (R112). -/
def FF.log2unit (f : FF) (m k : Nat) : Nat × Fl :=
  if m == 2 ^ k then (0, {})
  else if 2 * m == 2 ^ k then f.rne true 1 0
  else if m == 2 * 2 ^ k then f.rne false 1 0
  else f.log2small m k

/-- VFLOG (R112, R408). -/
def FF.log2 (f : FF) (a : Nat) : Nat × Fl :=
  match f.read a with
  | .nan s q fr => (f.nanFrom s f.fb fr, { inv := !q })
  | .inf s => if s then f.invalid else (a, {})
  | .fin _ 0 _ => (f.infBits true, { dz := true })
  | .fin true _ _ => f.invalid
  | .fin false m e =>
    let lg := Nat.log2 m
    let k : Int := (lg : Int) + e
    -- in [1/2, 2]: exponent -1 or 0, or exactly 2
    if k == -1 then f.log2unit m (lg + 1)
    else if k == 0 then f.log2unit m lg
    else if k == 1 && m == 2 ^ lg then f.rne false 1 0
    else
      let (l, fl) := f.log2unit m lg
      match f.read l with
      | .fin _ lm le =>
        let (s, sm, se) := exactAdd false (k < 0) k.natAbs 0 false lm le
        let (r, fl2) := f.rne s sm se
        (r, { inx := fl.inx || fl2.inx, ovf := fl2.ovf, unf := fl2.unf })
      | _ => (l, fl)

/-- VXEXP (R265): floor(log2 |a|) in the lane format. -/
def FF.xexp (f : FF) (a : Nat) : Nat × Fl :=
  match f.read a with
  | .nan s q fr => (f.nanFrom s f.fb fr, { inv := !q })
  | .inf _ => (f.infBits false, {})
  | .fin _ 0 _ => (f.infBits true, { dz := true })
  | .fin _ m e => let k : Int := (Nat.log2 m : Int) + e; ((f.rne (k < 0) k.natAbs 0).1, {})

/-- VFSCL (R113). -/
def FF.scl (f : FF) (a b : Nat) : Nat × Fl :=
  let x := f.read a
  let y := f.read b
  match f.nanOf [x, y] with
  | some r => r
  | none =>
    match x, y with
    | .fin s 0 _, .inf t => if t then (f.sbit s, {}) else f.invalid
    | .inf s, .inf t => if t then f.invalid else (f.infBits s, {})
    | .fin s 0 _, _ => (f.sbit s, {})
    | .inf s, _ => (f.infBits s, {})
    | .fin s _ _, .inf t => (if t then f.sbit s else f.infBits s, {})
    | .fin s m e, .fin t n g =>
      let (k, _) := roundInt 1 0 t n g
      f.rne s m (e + max (-1024) (min 1024 k))
    | _, _ => (a, {})

/-- VPRUNE of a lane (R115): x, the threshold, and the draw. -/
def FF.prune (f : FF) (u x tau : Nat) : Nat × Fl :=
  let a := f.read x
  let t := f.read tau
  match f.nanOf [a, t] with
  | some r => r
  | none =>
    let mag : FV := match a with
      | .fin _ m e => .fin false m e
      | v => if v.isInf then .inf false else v
    if fvCmp mag t != -1 then (x, {})
    else if t.isInf then (0, {})
    else
      match mag, t with
      | .fin _ m e, .fin _ n g =>
        if fvCmp (.fin false (u * n) g) (.fin false (m * 2 ^ 24) e) == -1 then
          (f.sbit a.sign + tau % 2 ^ (f.width - 1), {})
        else (0, {})
      | _, _ => (0, {})

/-- arctan(1/q) in units of 2^-P. -/
def atanInv (P q : Nat) : Nat → Nat → Int → Int
  | 0, _, _ => 0
  | n + 1, i, t => (if i % 2 == 0 then 1 else -1) * (t / (2 * i + 1 : Nat)) + atanInv P q n (i + 1) (t / (q * q : Nat))

/-- pi in units of 2^-P, by Machin's formula. -/
def piFix (P : Nat) : Int :=
  4 * (4 * atanInv P 5 (P / 4 + 8) 0 ((2 ^ P / 5 : Nat) : Int) - atanInv P 239 (P / 4 + 8) 0 ((2 ^ P / 239 : Nat) : Int))

/-- The alternating series of sine (`i` = 1, `t` = x) or cosine (`i` = 0, `t` = 1), in units of 2^-P. -/
def trigSeries (P : Nat) (x : Int) : Nat → Nat → Int → Int
  | 0, _, _ => 0
  | n + 1, i, t => t - trigSeries P x n (i + 2) (t * x * x / ((2 ^ P * 2 ^ P * (i + 1) * (i + 2) : Nat) : Int))

/-- Twiddle(t) of block size b in FP32 (R133): cos and sin of 2 pi t / b, for t below b/2. -/
def twiddle (b t : Nat) : Nat × Nat :=
  let P := 128
  let f := FF.fp32
  -- the angle reduced to [0, pi/4] by the symmetries of the quarter circle
  let q := b / 4
  let quad := t / q
  let r := t % q
  let val := fun (isCos : Bool) (r : Nat) =>
    if r == 0 then (if isCos then f.rne false 1 0 else (0, ({} : Fl)))
    else
      let x := 2 * piFix P * r / b
      let v := if isCos then trigSeries P x 40 0 (2 ^ P : Nat) else trigSeries P x 40 1 x
      f.round 0 false 0 false v.toNat (-(P : Int)) true
  if quad == 0 then ((val true r).1, (val false r).1)
  else
    -- cos(pi/2 + y) = -sin y, sin(pi/2 + y) = cos y
    let s := (val false r).1
    (if s == 0 then 0 else f.sbit true + s, (val true r).1)

end Sys2Proof.Machine
end

