-- ==== Sys2Proof/Machine/Vector.lean ====
section
/-! DEFINITION. Meanings of rows 0x4_ to 0x6_: integer and floating lanes, functions of one lane, conversion, reductions,
lane moves, quantisation and pruning (R251 to R277). -/

namespace Sys2Proof.Machine

/-! Data operands (R131, R253). -/

/-- The token at a position. -/
def Ctx.at (c : Ctx) : Pos → Option Tok
  | .a => c.a
  | .b => c.b
  | .c => c.c
  | .p => c.p

/-- DOMAIN_MISMATCH for the first record of the wrong DOMAIN among data positions (R131, R397). -/
def Ctx.badDomain (c : Ctx) (want : Bool) (ps : List Pos) : Option Issue :=
  ps.findSome? fun q => match c.at q with
    | some (.data d) => if d.isRecord && d.domain != want then some (c.stop 0x38 (c.slot + q.code * 2 ^ 8) d.side) else none
    | _ => none

/-- The first token among data positions that is not a record (R253). -/
def Ctx.nonRecord (c : Ctx) (ps : List Pos) : Option DTok :=
  ps.findSome? fun q => match c.at q with
    | some (.data d) => if d.isRecord then none else some d
    | _ => none

/-- A lane-computing instruction: DOMAIN rule, non-records, else the record with the computed payload and its flags
(R253, R254, R256). -/
def Ctx.lanesOf (c : Ctx) (want : Bool) (lat : Nat) (ta tb : Target) (ps : List Pos) (r : Payload × Fl) : Issue :=
  match c.badDomain want ps with
  | some i => i
  | none =>
    match c.nonRecord ps with
    | some d => c.emit lat ta tb (.data d)
    | none => { c.emit lat ta tb (.data (DTok.record r.1 want)) with fl := r.2 }

/-! Lane-wise results. -/

/-- Apply a function to each lane of one, two or three payloads. -/
def map1 (w : Nat) (a : Payload) (f : Nat → Nat × Fl) : Payload × Fl :=
  let r := foldFlags ((lanes w a).map f)
  (ofLanes w r.1, r.2)
def map2 (w : Nat) (a b : Payload) (f : Nat → Nat → Nat × Fl) : Payload × Fl :=
  let r := foldFlags (((lanes w a).zip (lanes w b)).map fun x => f x.1 x.2)
  (ofLanes w r.1, r.2)
def map3 (w : Nat) (a b c : Payload) (f : Nat → Nat → Nat → Nat × Fl) : Payload × Fl :=
  let r := foldFlags (((lanes w a).zip ((lanes w b).zip (lanes w c))).map fun x => f x.1 x.2.1 x.2.2)
  (ofLanes w r.1, r.2)

/-- A lane-wise result without flags. -/
def noFl (n : Nat) : Nat × Fl := (n, {})

/-- An integer lane result wrapped to the lane width (R257). -/
def wrapLane (fmt : Nat) (v : Int) : Nat × Fl := noFl (intBits (fmtWidth fmt) v)

/-- An integer lane result clamped to the lane format's range (R257). -/
def clampLane (fmt : Nat) (v : Int) : Nat × Fl :=
  let x := intClamp fmt v
  (intBits (fmtWidth fmt) x.1, { sat := x.2 })

/-- The floating format of a lane format of kind FLT. -/
def fltOf (fmt : Nat) : FF := (FF.ofCode fmt).getD .fp32

/-- All ones or all zeros in a lane (R262). -/
def maskLane (w : Nat) (b : Bool) : Nat := if b then 2 ^ w - 1 else 0

/-- Lane shifts (R258). -/
def shlLane (w a s : Nat) : Nat := a * 2 ^ s % 2 ^ w
def shrLane (a s : Nat) : Nat := a / 2 ^ s
def sarLane (fmt a s : Nat) : Nat := intBits (fmtWidth fmt) (intRead fmt a / (2 ^ s : Nat))

/-- The shift amounts of R258: lanes of B, or IMM where B is not named, modulo the lane width. -/
def Ctx.shiftOp (c : Ctx) (w : Nat) (sh : BitVec 6) (f : Nat → Nat → Nat) : Payload × Fl :=
  match c.b with
  | some _ => map2 w c.ad.pay c.bd.pay fun a b => noFl (f a (b % w))
  | none => map1 w c.ad.pay fun a => noFl (f a (sh.toNat % w))

/-! Conversion (R266). -/

/-- The draws that `n` lanes make (R101, R256): none unless the mode is SR. -/
def drawsFor (mode n : Nat) : Nat := if mode == 5 then (n + 3) / 4 else 0

/-- The generator after draws. -/
def Ctx.drawn (c : Ctx) (n : Nat) : TaskSt := { c.tsk with genCtr := c.tsk.genCtr + BitVec.ofNat 128 n }

/-- The 24-bit values that `n` lanes draw under a mode. -/
def Ctx.us (c : Ctx) (n : Nat) : List Nat := drawUs c.tsk.seedKey n c.tsk.genCtr

/-- VCVT's payload (R266): source and target width, part, base token. -/
def vcvtPay (ws wt part : Nat) (a base : Payload) (conv : Nat → Nat → Nat × Fl) : Payload × Fl :=
  let ls := 128 / ws
  let lt := 128 / wt
  if wt < ws then
    let r := foldFlags ((List.range ls).map fun i => conv i (lane ws a i))
    (ofLanes wt ((List.range lt).map fun i => if part * ls ≤ i && i < part * ls + ls then r.1.getD (i - part * ls) 0 else lane wt base i), r.2)
  else
    let r := foldFlags ((List.range lt).map fun i => conv i (lane ws a (part * lt + i)))
    (ofLanes wt r.1, r.2)

/-! Reductions (R111, R268, R269). -/

/-- An FLT lane widened exactly to FP32; a NaN keeps its fraction and its quiet bit. -/
def widen32 (fmt n : Nat) : Nat :=
  let f := fltOf fmt
  match f.read n with
  | .nan s _ fr => FF.fp32.sbit s + 255 * 2 ^ 23 + fr * 2 ^ (23 - f.fb)
  | .inf s => FF.fp32.infBits s
  | .fin s m e => (FF.fp32.rne s m e).1

/-- Whether a lane format is of kind FLT. -/
def isFlt (fmt : Nat) : Bool := fmt == 5 || fmt == 6 || fmt == 7

/-- A lane widened to 32 bits (R111). -/
def widenLane (fmt n : Nat) : Nat := if isFlt fmt then widen32 fmt n else intBits 32 (intRead fmt n)

/-- The combination of two widened lanes by operation 0 add, 1 min, 2 max. -/
def combine (flt : Bool) (op a b : Nat) : Nat × Fl :=
  if flt then
    match op with
    | 0 => FF.fp32.add false a b
    | 1 => FF.fp32.minMax false a b
    | _ => FF.fp32.minMax true a b
  else
    match op with
    | 0 => noFl ((a + b) % 2 ^ 32)
    | 1 => noFl (if sextInt 32 a ≤ sextInt 32 b then a else b)
    | _ => noFl (if sextInt 32 a ≤ sextInt 32 b then b else a)

/-- One level of the pairwise tree of R111. -/
def pairUp (flt : Bool) (op : Nat) : List Nat → List Nat × Fl
  | a :: b :: r =>
    let x := combine flt op a b
    let y := pairUp flt op r
    (x.1 :: y.1, x.2.or y.2)
  | r => (r, {})

/-- The tree of R111, level by level. -/
def treeOf (flt : Bool) (op : Nat) : Nat → List Nat → Nat × Fl
  | 0, xs => (xs.headD 0, {})
  | n + 1, xs =>
    let y := pairUp flt op xs
    let z := treeOf flt op n y.1
    (z.1, y.2.or z.2)

/-- VRED (R268). -/
def vredPay (fmt op : Nat) (a : Payload) : Payload × Fl :=
  let xs := (lanes (fmtWidth fmt) a).map (widenLane fmt)
  let r := treeOf (isFlt fmt) op 4 xs
  (BitVec.ofNat 128 r.1, r.2)

/-- Narrow of R269. -/
def narrowLane (fmt n : Nat) : Nat × Fl :=
  if isFlt fmt then toFloat (fltOf fmt) 0 false 0 23 (FF.fp32.read n) else noFl (n % 2 ^ fmtWidth fmt)

/-- The prefixes after the first lane (R269). -/
def scanFrom (fmt op : Nat) (s : Nat) : List Nat → List Nat × Fl
  | [] => ([], {})
  | x :: r =>
    let t := combine (isFlt fmt) op s (widenLane fmt x)
    let n := narrowLane fmt t.1
    let y := scanFrom fmt op t.1 r
    (n.1 :: y.1, (t.2.or n.2).or y.2)

/-- VSCAN (R269). -/
def vscanPay (fmt op : Nat) (a : Payload) : Payload × Fl :=
  match lanes (fmtWidth fmt) a with
  | [] => (0, {})
  | x :: r =>
    let s := widenLane fmt x
    let n := narrowLane fmt s
    let y := scanFrom fmt op s r
    (ofLanes (fmtWidth fmt) (n.1 :: y.1), n.2.or y.2)

/-! Moving lanes (R270 to R273). -/

/-- VSHUF (R270). -/
def vshufPay (w : Nat) (a b idx : Payload) : Payload :=
  let l := 128 / w
  ofLanes w ((List.range l).map fun i =>
    let x := lane 8 idx i
    if x ≥ 128 then 0
    else let j := x % (2 * l); if j < l then lane w a j else lane w b (j - l))

/-- VPACK (R273). -/
def vpackPay (fmt : Nat) (sat uns : Bool) (a b : Payload) : Payload × Fl :=
  let w := fmtWidth fmt
  let h := w / 2
  let lo : Int := if uns then 0 else -(2 ^ (h - 1) : Nat)
  let hi : Int := if uns then (2 ^ h : Nat) - 1 else (2 ^ (h - 1) : Nat) - 1
  let r := foldFlags ((lanes w a ++ lanes w b).map fun n =>
    let v := sextInt w n
    if sat then let x := max lo (min hi v); (intBits h x, { sat := x != v }) else noFl (n % 2 ^ h))
  (ofLanes h r.1, r.2)

/-- VUNPK (R273). -/
def vunpkPay (fmt hi : Nat) (a : Payload) : Payload :=
  let w := fmtWidth fmt
  let half := 128 / w / 2
  ofLanes (2 * w) ((List.range half).map fun i => intBits (2 * w) (intRead fmt (lane w a (hi * half + i))))

/-! MX blocks in keeps (R274, R275). -/

/-- The 32 elements that stand in keeps from `n` on, at the lane width. -/
def State.keepLanes (s : State) (k t w n : Nat) : List Nat × State :=
  (List.range (32 * w / 128)).foldl (fun acc i =>
    let (v, s) := acc.2.keepRead k t (n + i)
    (acc.1 ++ lanes w v, s)) ([], s)

/-- The sends that write elements of a width to keeps from `n` on, in the cycle given. -/
def keepSends (w n due : Nat) (xs : List Nat) : List Send :=
  (List.range (xs.length * w / 128)).map fun i =>
    ⟨.keep (BitVec.ofNat 6 (n + i)), .data (DTok.record (ofLanes w ((xs.drop (i * (128 / w))).take (128 / w))) false), due⟩

/-- The width of an element of an MX target: 4 bits for MXFP4, else 8. -/
def mxWidth (fmt : Nat) : Nat := if fmt == 0xA then 4 else 8

/-- VQNT's scale and elements (R109, R274). -/
def vqntBlock (lane dst mode : Nat) (sat : Bool) (us xs : List Nat) : Nat × List Nat × Fl :=
  let vs := xs.map (fmtRead lane)
  let (e, zero) := mxScale (mxEmax dst) vs
  if zero then (e, xs.map fun _ => if dst == 0xC then 0x77 else 0, {})
  else
    let r := foldFlags (vs.zipIdx.map fun x => mxElem dst mode sat (us.getD x.2 0) (fmtFrac lane) (x.1.scale (127 - (e : Int))))
    (e, r.1, r.2)

/-- VDQNT's results (R110, R275). -/
def vdqntBlock (src dst mode : Nat) (sat : Bool) (scale : Nat) (us xs : List Nat) : List Nat × Fl :=
  let f := fltOf dst
  match e8m0 scale with
  | none => (xs.map fun _ => f.defNan, {})
  | some k => foldFlags (xs.zipIdx.map fun x => toFloat f mode sat (us.getD x.2 0) (fmtFrac src) ((fmtRead src x.1).scale k))

/-! Meanings. -/

/-- VADD (R257). -/
def execVadd (p : Pred) (fs : BitVec 2) (ta tb : Target) (s : State) : Host.Outcome State Fault Refusal :=
  onTile s true p ta tb fun c =>
    let f := c.fmt fs
    c.lanesOf false 1 ta tb [.a, .b] (map2 (fmtWidth f) c.ad.pay c.bd.pay fun a b => wrapLane f (intRead f a + intRead f b))

/-- VSUB (R257). -/
def execVsub (p : Pred) (fs : BitVec 2) (ta tb : Target) (s : State) : Host.Outcome State Fault Refusal :=
  onTile s true p ta tb fun c =>
    let f := c.fmt fs
    c.lanesOf false 1 ta tb [.a, .b] (map2 (fmtWidth f) c.ad.pay c.bd.pay fun a b => wrapLane f (intRead f a - intRead f b))

/-- VMUL (R257). -/
def execVmul (p : Pred) (fs : BitVec 2) (ta tb : Target) (s : State) : Host.Outcome State Fault Refusal :=
  onTile s true p ta tb fun c =>
    let f := c.fmt fs
    c.lanesOf false 2 ta tb [.a, .b] (map2 (fmtWidth f) c.ad.pay c.bd.pay fun a b => wrapLane f (intRead f a * intRead f b))

/-- VMAD (R257). -/
def execVmad (p : Pred) (fs : BitVec 2) (ta tb : Target) (s : State) : Host.Outcome State Fault Refusal :=
  onTile s true p ta tb fun c =>
    let f := c.fmt fs
    c.lanesOf false 2 ta tb [.a, .b, .c] (map3 (fmtWidth f) c.ad.pay c.bd.pay c.cd.pay fun a b d => wrapLane f (intRead f a * intRead f b + intRead f d))

/-- VMIN (R257). -/
def execVmin (p : Pred) (fs : BitVec 2) (ta tb : Target) (s : State) : Host.Outcome State Fault Refusal :=
  onTile s true p ta tb fun c =>
    let f := c.fmt fs
    c.lanesOf false 1 ta tb [.a, .b] (map2 (fmtWidth f) c.ad.pay c.bd.pay fun a b => noFl (if intRead f a ≤ intRead f b then a else b))

/-- VMAX (R257). -/
def execVmax (p : Pred) (fs : BitVec 2) (ta tb : Target) (s : State) : Host.Outcome State Fault Refusal :=
  onTile s true p ta tb fun c =>
    let f := c.fmt fs
    c.lanesOf false 1 ta tb [.a, .b] (map2 (fmtWidth f) c.ad.pay c.bd.pay fun a b => noFl (if intRead f a ≤ intRead f b then b else a))

/-- VABS (R257). -/
def execVabs (p : Pred) (fs : BitVec 2) (ta tb : Target) (s : State) : Host.Outcome State Fault Refusal :=
  onTile s true p ta tb fun c =>
    let f := c.fmt fs
    c.lanesOf false 1 ta tb [.a] (map1 (fmtWidth f) c.ad.pay fun a => wrapLane f (intRead f a).natAbs)

/-- VNEG (R257). -/
def execVneg (p : Pred) (fs : BitVec 2) (ta tb : Target) (s : State) : Host.Outcome State Fault Refusal :=
  onTile s true p ta tb fun c =>
    let f := c.fmt fs
    c.lanesOf false 1 ta tb [.a] (map1 (fmtWidth f) c.ad.pay fun a => wrapLane f (-(intRead f a)))

/-- VAND (R257). -/
def execVand (p : Pred) (fs : BitVec 2) (ta tb : Target) (s : State) : Host.Outcome State Fault Refusal :=
  onTile s true p ta tb fun c =>
    let f := c.fmt fs
    c.lanesOf false 1 ta tb [.a, .b] ((c.ad.pay &&& c.bd.pay, {}))

/-- VOR (R257). -/
def execVor (p : Pred) (fs : BitVec 2) (ta tb : Target) (s : State) : Host.Outcome State Fault Refusal :=
  onTile s true p ta tb fun c =>
    let f := c.fmt fs
    c.lanesOf false 1 ta tb [.a, .b] ((c.ad.pay ||| c.bd.pay, {}))

/-- VXOR (R257). -/
def execVxor (p : Pred) (fs : BitVec 2) (ta tb : Target) (s : State) : Host.Outcome State Fault Refusal :=
  onTile s true p ta tb fun c =>
    let f := c.fmt fs
    c.lanesOf false 1 ta tb [.a, .b] ((c.ad.pay ^^^ c.bd.pay, {}))

/-- VSHL (R258). -/
def execVshl (p : Pred) (fs : BitVec 2) (ta tb : Target) (sh : BitVec 6) (s : State) : Host.Outcome State Fault Refusal :=
  onTile s true p ta tb fun c =>
    let f := c.fmt fs
    c.lanesOf false 1 ta tb [.a, .b] (c.shiftOp (fmtWidth f) sh (shlLane (fmtWidth f)))

/-- VSHR (R258). -/
def execVshr (p : Pred) (fs : BitVec 2) (ta tb : Target) (sh : BitVec 6) (s : State) : Host.Outcome State Fault Refusal :=
  onTile s true p ta tb fun c =>
    let f := c.fmt fs
    c.lanesOf false 1 ta tb [.a, .b] (c.shiftOp (fmtWidth f) sh shrLane)

/-- VSAR (R258). -/
def execVsar (p : Pred) (fs : BitVec 2) (ta tb : Target) (sh : BitVec 6) (s : State) : Host.Outcome State Fault Refusal :=
  onTile s true p ta tb fun c =>
    let f := c.fmt fs
    c.lanesOf false 1 ta tb [.a, .b] (c.shiftOp (fmtWidth f) sh (sarLane f))

/-- VADDS (R257). -/
def execVadds (p : Pred) (fs : BitVec 2) (ta tb : Target) (s : State) : Host.Outcome State Fault Refusal :=
  onTile s true p ta tb fun c =>
    let f := c.fmt fs
    c.lanesOf false 1 ta tb [.a, .b] (map2 (fmtWidth f) c.ad.pay c.bd.pay fun a b => clampLane f (intRead f a + intRead f b))

/-- VSUBS (R257). -/
def execVsubs (p : Pred) (fs : BitVec 2) (ta tb : Target) (s : State) : Host.Outcome State Fault Refusal :=
  onTile s true p ta tb fun c =>
    let f := c.fmt fs
    c.lanesOf false 1 ta tb [.a, .b] (map2 (fmtWidth f) c.ad.pay c.bd.pay fun a b => clampLane f (intRead f a - intRead f b))

/-- VFADD (R259). -/
def execVfadd (p : Pred) (fs : BitVec 2) (ta tb : Target) (s : State) : Host.Outcome State Fault Refusal :=
  onTile s true p ta tb fun c =>
    let f := c.fmt fs
    c.lanesOf false 4 ta tb [.a, .b] (map2 (fmtWidth f) c.ad.pay c.bd.pay fun a b => (fltOf f).add false a b)

/-- VFSUB (R259). -/
def execVfsub (p : Pred) (fs : BitVec 2) (ta tb : Target) (s : State) : Host.Outcome State Fault Refusal :=
  onTile s true p ta tb fun c =>
    let f := c.fmt fs
    c.lanesOf false 4 ta tb [.a, .b] (map2 (fmtWidth f) c.ad.pay c.bd.pay fun a b => (fltOf f).add true a b)

/-- VFMUL (R259). -/
def execVfmul (p : Pred) (fs : BitVec 2) (ta tb : Target) (s : State) : Host.Outcome State Fault Refusal :=
  onTile s true p ta tb fun c =>
    let f := c.fmt fs
    c.lanesOf false 4 ta tb [.a, .b] (map2 (fmtWidth f) c.ad.pay c.bd.pay fun a b => (fltOf f).mul a b)

/-- VFMA (R259). -/
def execVfma (p : Pred) (fs : BitVec 2) (ta tb : Target) (s : State) : Host.Outcome State Fault Refusal :=
  onTile s true p ta tb fun c =>
    let f := c.fmt fs
    c.lanesOf false 4 ta tb [.a, .b, .c] (map3 (fmtWidth f) c.ad.pay c.bd.pay c.cd.pay fun a b d => (fltOf f).fma false false a b d)

/-- VFMS (R259). -/
def execVfms (p : Pred) (fs : BitVec 2) (ta tb : Target) (s : State) : Host.Outcome State Fault Refusal :=
  onTile s true p ta tb fun c =>
    let f := c.fmt fs
    c.lanesOf false 4 ta tb [.a, .b, .c] (map3 (fmtWidth f) c.ad.pay c.bd.pay c.cd.pay fun a b d => (fltOf f).fma false true a b d)

/-- VFNMA (R259). -/
def execVfnma (p : Pred) (fs : BitVec 2) (ta tb : Target) (s : State) : Host.Outcome State Fault Refusal :=
  onTile s true p ta tb fun c =>
    let f := c.fmt fs
    c.lanesOf false 4 ta tb [.a, .b, .c] (map3 (fmtWidth f) c.ad.pay c.bd.pay c.cd.pay fun a b d => (fltOf f).fma true false a b d)

/-- VFMIN (R260). -/
def execVfmin (p : Pred) (fs : BitVec 2) (ta tb : Target) (s : State) : Host.Outcome State Fault Refusal :=
  onTile s true p ta tb fun c =>
    let f := c.fmt fs
    c.lanesOf false 2 ta tb [.a, .b] (map2 (fmtWidth f) c.ad.pay c.bd.pay fun a b => (fltOf f).minMax false a b)

/-- VFMAX (R260). -/
def execVfmax (p : Pred) (fs : BitVec 2) (ta tb : Target) (s : State) : Host.Outcome State Fault Refusal :=
  onTile s true p ta tb fun c =>
    let f := c.fmt fs
    c.lanesOf false 2 ta tb [.a, .b] (map2 (fmtWidth f) c.ad.pay c.bd.pay fun a b => (fltOf f).minMax true a b)

/-- VFABS (R261). -/
def execVfabs (p : Pred) (fs : BitVec 2) (ta tb : Target) (s : State) : Host.Outcome State Fault Refusal :=
  onTile s true p ta tb fun c =>
    let f := c.fmt fs
    c.lanesOf false 1 ta tb [.a] (map1 (fmtWidth f) c.ad.pay fun a => noFl (a % 2 ^ (fmtWidth f - 1)))

/-- VFNEG (R261). -/
def execVfneg (p : Pred) (fs : BitVec 2) (ta tb : Target) (s : State) : Host.Outcome State Fault Refusal :=
  onTile s true p ta tb fun c =>
    let f := c.fmt fs
    c.lanesOf false 1 ta tb [.a] (map1 (fmtWidth f) c.ad.pay fun a => noFl ((a + 2 ^ (fmtWidth f - 1)) % 2 ^ fmtWidth f))

/-- VFCMP (R262). -/
def execVfcmp (p : Pred) (fs : BitVec 2) (ta tb : Target) (cc : BitVec 3) (s : State) : Host.Outcome State Fault Refusal :=
  onTile s true p ta tb fun c =>
    let f := c.fmt fs
    c.lanesOf false 1 ta tb [.a, .b] (map2 (fmtWidth f) c.ad.pay c.bd.pay fun a b => let r := (fltOf f).cmp cc.toNat a b; (maskLane (fmtWidth f) r.1, r.2))

/-- VSEL (R264). -/
def execVsel (p : Pred) (fs : BitVec 2) (ta tb : Target) (s : State) : Host.Outcome State Fault Refusal :=
  onTile s true p ta tb fun c =>
    let f := c.fmt fs
    c.lanesOf false 1 ta tb [.a, .b, .c] (map3 (fmtWidth f) c.ad.pay c.bd.pay c.cd.pay fun a b d => noFl (if d != 0 then a else b))

/-- VFRCP (R265). -/
def execVfrcp (p : Pred) (fs : BitVec 2) (ta tb : Target) (s : State) : Host.Outcome State Fault Refusal :=
  onTile s true p ta tb fun c =>
    let f := c.fmt fs
    c.lanesOf false 12 ta tb [.a] (map1 (fmtWidth f) c.ad.pay fun a => (fltOf f).rcp a)

/-- VFRSQ (R265). -/
def execVfrsq (p : Pred) (fs : BitVec 2) (ta tb : Target) (s : State) : Host.Outcome State Fault Refusal :=
  onTile s true p ta tb fun c =>
    let f := c.fmt fs
    c.lanesOf false 12 ta tb [.a] (map1 (fmtWidth f) c.ad.pay fun a => (fltOf f).rsq a)

/-- VFCLS (R263). -/
def execVfcls (p : Pred) (fs : BitVec 2) (ta tb : Target) (cls : BitVec 10) (s : State) : Host.Outcome State Fault Refusal :=
  onTile s true p ta tb fun c =>
    let f := c.fmt fs
    c.lanesOf false 1 ta tb [.a] (map1 (fmtWidth f) c.ad.pay fun a => noFl (maskLane (fmtWidth f) (cls.getLsbD ((fltOf f).classOf a))))

/-- VFSCL (R265). -/
def execVfscl (p : Pred) (fs : BitVec 2) (ta tb : Target) (s : State) : Host.Outcome State Fault Refusal :=
  onTile s true p ta tb fun c =>
    let f := c.fmt fs
    c.lanesOf false 4 ta tb [.a, .b] (map2 (fmtWidth f) c.ad.pay c.bd.pay fun a b => (fltOf f).scl a b)

/-- VCVT (R266): it draws only under SR, for the lanes it converts. -/
def execVcvt (p : Pred) (fs : BitVec 2) (ta tb : Target) (c : BitVec 2) (part : BitVec 3) (s : State) : Host.Outcome State Fault Refusal :=
  onTile s true p ta tb fun x =>
    let (src, dst, mode, sat) := x.conv c
    let ws := fmtWidth (x.fmt fs)
    let wt := fmtWidth dst
    let n := 128 / max ws wt
    let d := drawsFor mode n
    let us := x.us d
    let r := x.lanesOf false 2 ta tb [.a, .c]
      (vcvtPay ws wt part.toNat x.ad.pay x.cd.pay fun i v => convert src dst mode sat (us.getD i 0) v)
    if r.cause.isNone && (x.nonRecord [.a, .c]).isNone then { r with tsk := x.drawn d } else r

/-- VRINT (R267). -/
def execVrint (p : Pred) (fs : BitVec 2) (ta tb : Target) (c : BitVec 2) (s : State) : Host.Outcome State Fault Refusal :=
  onTile s true p ta tb fun x =>
    let f := x.fmt fs
    let w := fmtWidth f
    let mode := (x.conv c).2.2.1
    let d := drawsFor mode (128 / w)
    let us := x.us d
    let y := foldFlags ((lanes w x.ad.pay).zipIdx.map fun l => (fltOf f).rint mode (us.getD l.2 0) l.1)
    let r := x.lanesOf false 2 ta tb [.a] (ofLanes w y.1, y.2)
    if r.cause.isNone && (x.nonRecord [.a]).isNone then { r with tsk := x.drawn d } else r

/-- VFEXP (R265, R407). -/
def execVfexp (p : Pred) (fs : BitVec 2) (ta tb : Target) (s : State) : Host.Outcome State Fault Refusal :=
  onTile s true p ta tb fun c =>
    let f := c.fmt fs
    c.lanesOf false 12 ta tb [.a] (map1 (fmtWidth f) c.ad.pay fun a => (fltOf f).exp2 a)

/-- VFLOG (R265, R408). -/
def execVflog (p : Pred) (fs : BitVec 2) (ta tb : Target) (s : State) : Host.Outcome State Fault Refusal :=
  onTile s true p ta tb fun c =>
    let f := c.fmt fs
    c.lanesOf false 12 ta tb [.a] (map1 (fmtWidth f) c.ad.pay fun a => (fltOf f).log2 a)

/-- VXEXP (R265). -/
def execVxexp (p : Pred) (fs : BitVec 2) (ta tb : Target) (s : State) : Host.Outcome State Fault Refusal :=
  onTile s true p ta tb fun c =>
    let f := c.fmt fs
    c.lanesOf false 2 ta tb [.a] (map1 (fmtWidth f) c.ad.pay fun a => (fltOf f).xexp a)

/-- VRED (R268). -/
def execVred (p : Pred) (fs : BitVec 2) (ta tb : Target) (op : BitVec 2) (s : State) : Host.Outcome State Fault Refusal :=
  onTile s true p ta tb fun c =>
    let f := c.fmt fs
    c.lanesOf false 6 ta tb [.a] (vredPay f op.toNat c.ad.pay)

/-- VSCAN (R269). -/
def execVscan (p : Pred) (fs : BitVec 2) (ta tb : Target) (op : BitVec 2) (s : State) : Host.Outcome State Fault Refusal :=
  onTile s true p ta tb fun c =>
    let f := c.fmt fs
    c.lanesOf false 6 ta tb [.a] (vscanPay f op.toNat c.ad.pay)

/-- VSHUF (R270). -/
def execVshuf (p : Pred) (fs : BitVec 2) (ta tb : Target) (s : State) : Host.Outcome State Fault Refusal :=
  onTile s true p ta tb fun c =>
    let f := c.fmt fs
    c.lanesOf false 1 ta tb [.a, .b, .c] ((vshufPay (fmtWidth f) c.ad.pay c.bd.pay c.cd.pay, {}))

/-- VSPLAT (R271): TGA receives the record, TGB the control token unchanged. -/
def execVsplat (p : Pred) (fs : BitVec 2) (ta tb : Target) (s : State) : Host.Outcome State Fault Refusal :=
  onTile s true p ta tb fun c =>
    let w := fmtWidth (c.fmt fs)
    let a := c.a.getD (Tok.val 0)
    let r := if a.isStop then DTok.stop a.level
      else DTok.record (ofLanes w (List.replicate (128 / w) (c.av.toNat % 2 ^ w))) false
    c.send2 1 ta (.data r) tb a

/-- VEXTR (R272): a gap or void record sends nothing. -/
def execVextr (p : Pred) (fs : BitVec 2) (ta tb : Target) (lane : BitVec 4) (s : State) : Host.Outcome State Fault Refusal :=
  onTile s true p ta tb fun c =>
    let f := c.fmt fs
    match c.badDomain false [.a] with
    | some i => i
    | none =>
      if c.ad.isStop then c.emit 1 ta tb (Tok.stop false c.ad.level)
      else if c.ad.isRecord then
        let n := Sys2Proof.Machine.lane (fmtWidth f) c.ad.pay lane.toNat
        c.emit 1 ta tb (Tok.val (if f == 0 || f == 2 || f == 3 then intWord (intRead f n) else BitVec.ofNat 64 n))
      else { c.nothing with doneAt := c.t.cyc + 1 }

/-- VINSL (R271): TGA receives the record or the non-record, TGB the control token unchanged. -/
def execVinsl (p : Pred) (fs : BitVec 2) (ta tb : Target) (lane : BitVec 4) (s : State) : Host.Outcome State Fault Refusal :=
  onTile s true p ta tb fun c =>
    let w := fmtWidth (c.fmt fs)
    match c.badDomain false [.a] with
    | some i => i
    | none =>
      let r := if c.ad.isRecord then DTok.record (setLane w c.ad.pay lane.toNat (c.bv.toNat % 2 ^ w)) false else c.ad
      c.send2 1 ta (.data r) tb (c.b.getD (Tok.val 0))

/-- VPACK (R273). -/
def execVpack (p : Pred) (fs : BitVec 2) (ta tb : Target) (sat : BitVec 1) (uns : BitVec 1) (s : State) : Host.Outcome State Fault Refusal :=
  onTile s true p ta tb fun c =>
    let f := c.fmt fs
    c.lanesOf false 1 ta tb [.a, .b] (vpackPay f (sat == 1) (uns == 1) c.ad.pay c.bd.pay)

/-- VUNPK (R273). -/
def execVunpk (p : Pred) (fs : BitVec 2) (ta tb : Target) (hi : BitVec 1) (s : State) : Host.Outcome State Fault Refusal :=
  onTile s true p ta tb fun c =>
    let f := c.fmt fs
    c.lanesOf false 1 ta tb [.a] ((vunpkPay f hi.toNat c.ad.pay, {}))

/-- VQNT (R274): the keeps are read at issue and written, with the scale sent, 12 cycles later. A non-record at A stops
the computation as R253 states; a record at A only delays issue.
(DEDUCED, log 38.) -/
def execVqnt (p : Pred) (fs : BitVec 2) (ta tb : Target) (src dst : BitVec 6) (c : BitVec 2) (s : State) : Host.Outcome State Fault Refusal :=
  onTileS s true p .neither ta tb fun s x =>
    let (_, fmt, mode, sat) := x.conv c
    let f := x.fmt fs
    match x.badDomain false [.a] with
    | some i => (s, i)
    | none =>
      match x.nonRecord [.a] with
      | some d => (s, x.emit 12 ta tb (.data d))
      | none =>
        let (xs, s) := s.keepLanes x.k.id x.t.id (fmtWidth f) src.toNat
        let n := if mode == 5 then 8 else 0
        let (e, ys, fl) := vqntBlock f fmt mode sat (x.us n) xs
        let r := x.emit 12 ta tb (.data (DTok.record (BitVec.ofNat 128 e) false))
        (s, { r with sends := keepSends (mxWidth fmt) dst.toNat (x.t.cyc + 12) ys ++ r.sends, fl := fl, tsk := x.drawn n })

/-- VDQNT (R275). -/
def execVdqnt (p : Pred) (fs : BitVec 2) (ta tb : Target) (src dst : BitVec 6) (c : BitVec 2) (s : State) : Host.Outcome State Fault Refusal :=
  onTileS s true p .neither ta tb fun s x =>
    let (fmt, _, mode, sat) := x.conv c
    let f := x.fmt fs
    match x.badDomain false [.a] with
    | some i => (s, i)
    | none =>
      match x.nonRecord [.a] with
      | some d => (s, x.emit 12 ta tb (.data d))
      | none =>
        let (xs, s) := s.keepLanes x.k.id x.t.id (mxWidth fmt) src.toNat
        let n := if mode == 5 then 8 else 0
        let (ys, fl) := vdqntBlock fmt f mode sat (x.ad.pay.toNat % 256) (x.us n) xs
        let r := x.emit 12 ta tb (.data x.ad)
        (s, { r with sends := keepSends (fmtWidth f) dst.toNat (x.t.cyc + 12) ys ++ r.sends, fl := fl, tsk := x.drawn n })

/-- VPRUNE (R276): one draw for four lanes, whichever branch each takes. -/
def execVprune (p : Pred) (fs : BitVec 2) (ta tb : Target) (s : State) : Host.Outcome State Fault Refusal :=
  onTile s true p ta tb fun c =>
    let f := c.fmt fs
    let w := fmtWidth f
    let n := (128 / w + 3) / 4
    let us := c.us n
    let y := foldFlags (((lanes w c.ad.pay).zip (lanes w c.bd.pay)).zipIdx.map fun l => (fltOf f).prune (us.getD l.2 0) l.1.1 l.1.2)
    let r := c.lanesOf false 4 ta tb [.a, .b] (ofLanes w y.1, y.2)
    if r.cause.isNone && (c.nonRecord [.a, .b]).isNone then { r with tsk := c.drawn n } else r

end Sys2Proof.Machine
end

