-- ==== Sys2Proof/Machine/Regions.lean ====
section
/-! DEFINITION. Rows 0xC0 to 0xC5 and 0xD0 to 0xD5: the array and spectral regions (R116 to R136, R325 to R332), with the
later actions of the instructions that are under way for more than one cycle and of the STU. -/

namespace Sys2Proof.Machine

/-! On-chip spans. -/

/-- Make sure that a kiln owns every unit of a span. -/
def State.ensureSpan (s : State) (k t space off n : Nat) : State :=
  (List.range ((off + n - 1) / 4096 + 1 - off / 4096)).foldl (fun s i => s.ensure k t space ((off / 4096 + i) * 4096)) s

/-- Read a granule of a scratchpad as it stands (R123, R285 step 2).
(DESIGN CHOICE, log 45.) -/
def State.granule (s : State) (k t off : Nat) : Payload × State :=
  let (bs, s) := s.ocRead k t 0 off 16
  (payOf bs, s)

/-! Banks (R119, R120). -/

/-- The weight format of a bank, and whether it is the upper half of a P2P8 pair; a bank never loaded since placement
is BF16 (R362). -/
def TileSt.bankOf (t : TileSt) (q : Nat) : Nat × Bool :=
  match t.bankFmt.find? fun b => b.1 == q with
  | some b => b.2
  | none => (6, false)

/-- WLD and WLDS set the weight format of a bank, or of a pair (R119). -/
def TileSt.setBank (t : TileSt) (q fmt : Nat) : TileSt :=
  let mine := if fmt == 0xC then [(q, fmt, false), (q + 1, fmt, true)] else [(q, fmt, false)]
  { t with bankFmt := (t.bankFmt.filter fun b => !(mine.any fun m => m.1 == b.1)) ++ mine }

/-- Element takes and scale takes of a weight format (R325). -/
def wldTakes (fmt : Nat) : Nat × Nat :=
  match fmt with
  | 0xB => (512, 16)
  | 0xA => (512, 32)
  | 0xC => (1024, 32)
  | _ => (512, 0)

/-- Where take `j` goes in space 2 (R119, R325). -/
def wldPlace (bank fmt j : Nat) : Nat :=
  let t := (wldTakes fmt).1
  if j < t then bank * 0x2000 + 16 * j else 0x30000 + bank * 0x200 + 16 * (j - t)

/-- Whether an earlier AROW still reads a bank that a load of a format writes (R120).
(DESIGN CHOICE, log 131.) -/
def TileSt.bankRead (t : TileSt) (no bank fmt : Nat) : Bool :=
  let mine := fun q => q == bank || (fmt == 0xC && q == bank + 1)
  t.execs.any fun x => x.pend.any fun p => p.no < no && (match p.work with
    | .arow _ _ _ wf q _ _ none => mine q || (wf == 0xC && mine (q + 1))
    | _ => false)

/-- Put a granule of weights into place: the first sets the bank's format, after the last the order tokens follow in the
next cycle. -/
def State.weight (s : State) (w : Where) (bank fmt j n : Nat) (pay : Payload) (next : Work) : State :=
  let s := if j == 0 then s.modTile w.k.id w.t.id fun t => t.setBank bank fmt else s
  let s := s.ocWrite w.k.id w.t.id 2 (wldPlace bank fmt j) (payBytes pay)
  if j + 1 == n then s.putPend w (w.p.last (w.p.both Tok.order (w.t.cyc + 1)) (s.inFlight w.p.deps))
  else s.putPend w { w.p with work := next, next := w.t.cyc + 1 }

def State.wldReady (s : State) (w : Where) (bank fmt vc j : Nat) : Bool :=
  s.takeReady w true vc && (0 < j || !w.t.bankRead w.p.no bank fmt)

/-- WLD takes one token (R325); one that is no record stops the kiln (R397). -/
def State.wldDo (s : State) (w : Where) (bank fmt vc j n : Nat) : State :=
  match s.takeTok w true vc with
  | (some (.data d), s) =>
    let s := s.modPend w.k.id w.t.id w.x.task w.p.slot fun p => { p with deps := (p.deps ++ d.deps).eraseDups }
    let w := { w with p := { w.p with deps := (w.p.deps ++ d.deps).eraseDups } }
    if d.isRecord then s.weight w bank fmt j n d.pay (.wld bank fmt vc (j + 1) n)
    else s.stopAt w 0x3B (w.p.slot + bank * 2 ^ 8) (fmt + fmt * 2 ^ 4 + d.kind.toNat * 2 ^ 8)
  | (_, s) => s

def wldsReady (w : Where) (bank fmt j : Nat) : Bool :=
  w.p.next ≤ w.t.cyc && w.t.step4.isNone && !w.t.fenced w.p.no && (0 < j || !w.t.bankRead w.p.no bank fmt)

/-- WLDS copies one granule (R326). -/
def State.wldsDo (s : State) (w : Where) (bank fmt ea j n : Nat) : State :=
  let (pay, s) := s.granule w.k.id w.t.id (ea + 16 * j)
  s.weight w bank fmt j n pay (.wlds bank fmt ea (j + 1) n)

/-! The arithmetic of a row (R121 to R125). -/

/-- K of a lane format. -/
def arowK (fmt : Nat) : Nat :=
  match fmt with
  | 5 | 6 => 64
  | 0 | 0xA => 256
  | _ => 128

/-- Whether a weight format pairs with a lane format (R121). -/
def arowPair (fmt wfmt : Nat) : Bool :=
  match fmt with
  | 5 => wfmt == 5
  | 6 => wfmt == 6
  | 8 | 9 => wfmt == 8 || wfmt == 9
  | 0xB => wfmt == 0xB
  | 0xA => wfmt == 0xA
  | 0 => wfmt == 0xC
  | _ => false

/-- An element with its scale, if the format carries one, and the fraction width of its NaN (R92, R125). -/
def scaledElem (fmt : Nat) (scale : Option Nat) (bits : Nat) : FV × Nat :=
  match scale with
  | none => (fmtRead fmt bits, fmtFrac fmt)
  | some b =>
    match e8m0 b with
    | none => (.nan false true (2 ^ 22), 23)
    | some k => (FV.scale k (fmtRead fmt bits), fmtFrac fmt)

/-- The elements of an A segment from its granules (R121). -/
def arowA (fmt : Nat) (got : List Payload) : List (FV × Nat) :=
  let w := fmtWidth fmt
  if fmt == 0xA || fmt == 0xB then
    let sc := lanes 8 (got.headD 0)
    ((got.drop 1).flatMap (lanes w)).zipIdx.map fun x => scaledElem fmt (some (sc.getD (x.2 / 32) 0)) x.1
  else (got.flatMap (lanes w)).map fun x => scaledElem fmt none x

/-- Weight (n, k) of a bank (R119). -/
def State.arowW (s : State) (k : Kiln) (t wfmt bank n i : Nat) : FV × Nat :=
  let base := bank * 0x2000
  let sc := fun off => some (s.byte (k.pa t 2 (0x30000 + bank * 0x200 + off))).toNat
  match wfmt with
  | 5 | 6 => scaledElem wfmt none (s.num (k.pa t 2 (base + n * 128 + 2 * i)) 2)
  | 0xB => scaledElem wfmt (sc (n * 4 + i / 32)) (s.num (k.pa t 2 (base + n * 128 + i)) 1)
  | 0xA => scaledElem wfmt (sc (n * 8 + i / 32)) (fld (s.num (k.pa t 2 (base + n * 128 + i / 2)) 1) (4 * (i % 2)) 4)
  | 0xC => scaledElem wfmt (sc (n * 8 + i / 32)) (s.num (k.pa t 2 (base + n * 256 + i)) 1)
  | _ => scaledElem wfmt none (s.num (k.pa t 2 (base + n * 128 + i)) 1)

/-- TruncMag of a finite magnitude, in units of 2^u (R124). -/
def truncMag (m : Nat) (e u : Int) : Nat := if u ≤ e then m * 2 ^ (e - u).toNat else m / 2 ^ (u - e).toNat

/-- The sum of one group of products (R124); `ints`: the operands are numbers without a signed zero.
(DEDUCED, log 48.) -/
def groupSum (ints : Bool) (ps : List ((FV × Nat) × (FV × Nat))) : Nat × Fl :=
  let f := FF.fp32
  match ps.findSome? (fun p => if p.1.1.isNan then some p.1 else if p.2.1.isNan then some p.2 else none : (FV × Nat) × (FV × Nat) → Option (FV × Nat)) with
  | some (.nan s _ fr, fb) => (f.nanFrom s fb fr, {})
  | _ =>
    let prods := ps.map fun p => fvMul p.1.1 p.2.1
    let vs := prods.filterMap fun x => x
    let hasInf := fun s => vs.any fun v => v == .inf s
    if prods.any Option.isNone || (hasInf false && hasInf true) then f.invalid
    else if hasInf false then (f.infBits false, {})
    else if hasInf true then (f.infBits true, {})
    else if vs.all FV.isZero then (if !ints && vs.all FV.sign then f.sbit true else 0, {})
    else
      let exps := vs.filterMap fun v => match v with
        | .fin _ m e => if m == 0 then none else some ((Nat.log2 m : Int) + e)
        | _ => none
      let u := exps.foldl max (exps.headD 0) - 30
      let tot : Int := (vs.map fun v => (match v with
        | .fin s m e => if s then -(truncMag m e u : Int) else (truncMag m e u : Int)
        | _ => 0 : Int)).sum
      let r := f.rne (tot < 0) tot.natAbs u
      (r.1, { ovf := r.2.ovf })

/-- The four group sums of every column, group by group, and the flags of the products (R108, R124). -/
def State.arowSums (s : State) (k : Kiln) (t fmt wfmt bank : Nat) (got : List Payload) : List (List Nat) × Fl :=
  let a := arowA fmt got
  let q := arowK fmt / 4
  let cols := (List.range 64).map fun n =>
    let ws := (List.range (arowK fmt)).map fun i => s.arowW k t wfmt bank n i
    let ps := a.zip ws
    ((List.range 4).map fun g => groupSum (fmt == 0) ((ps.drop (g * q)).take q), ws.any fun x => x.1.isSnan)
  let fl := (cols.flatMap fun c => c.1.map Prod.snd).foldl Fl.or { inv := (a.any fun x => x.1.isSnan) || cols.any Prod.snd }
  ((List.range 4).map fun g => cols.map fun c => (c.1.getD g (0, {})).1, fl.invOvf)

/-- Add one group's sums to an accumulator row (R124, R125).
(DESIGN CHOICE, log 137.) -/
def State.arowAdd (s : State) (k t row : Nat) (vals : List Nat) : State × Fl :=
  let (bs, s) := s.ocRead k t 1 (256 * row) 256
  let olds := (List.range 64).map fun n => leNat ((bs.drop (4 * n)).take 4)
  let r := foldFlags ((olds.zip vals).map fun x => FF.fp32.add false x.1 x.2)
  (s.ocWrite k t 1 (256 * row) (r.1.flatMap (leBytes 4)), r.2.invOvf)

/-! AROW under way (R122, R123). -/

/-- Whether AROW reads its next granule in this cycle; a FENCE that holds it moves its cycle of issue.
(DEDUCED, log 50.) -/
def arowReadReady (w : Where) (fmt : Nat) (got : List Payload) (c : Nat) : Bool :=
  let (g, d) := arowTiming fmt
  got.length < g && c + 1 + got.length * d / g ≤ w.t.cyc && w.t.step4.isNone && !w.t.fenced w.p.no

/-- AROW reads a granule, or meets a chunk of the wrong tag (R131, R397). -/
def State.arowRead (s : State) (w : Where) (row ea fmt wfmt bank : Nat) (got : List Payload) (c : Nat) : State :=
  let off := ea + 16 * got.length
  if w.t.tags.contains (off / 512) then s.stopAt w 0x38 w.p.slot (off + 2 ^ 39 + 2 ^ 63)
  else
    let (pay, s) := s.granule w.k.id w.t.id off
    let c := if got.isEmpty then w.t.cyc - 1 else c
    s.putPend w { w.p with work := .arow row ea fmt wfmt bank (got ++ [pay]) c none }

/-- An earlier ADRN or AZERO that has not finished with a row finishes with it, so that an AROW acts on the row as they
left it (R126).
(DEDUCED, log 47.) -/
def State.rowSettled (s : State) (w : Where) (row : Nat) : State :=
  let early := w.t.execs.flatMap fun x => x.pend.filterMap fun p => if p.no < w.p.no then some (x.task, p) else none
  early.foldl (fun s y => match y.2.work with
    | .adrn r t clr got =>
      if r == row && got.isEmpty then
        let (bs, s) := s.ocRead w.k.id w.t.id 1 (256 * row) 256
        let all := (List.range 16).map fun i => payOf ((bs.drop (16 * i)).take 16)
        let s := if clr then s.ocWrite w.k.id w.t.id 1 (256 * row + 16 * t) (List.replicate (256 - 16 * t) 0) else s
        s.modPend w.k.id w.t.id y.1 y.2.slot fun p => { p with work := .adrn r t clr all }
      else s
    | .azero rows =>
      if rows.contains row then
        (s.ocWrite w.k.id w.t.id 1 (256 * row) (List.replicate 256 0)).modPend w.k.id w.t.id y.1 y.2.slot
          fun p => { p with work := .azero (rows.map fun r => if r == row then 64 else r) }
      else s
    | _ => s) s

/-- Whether AROW's consumed event or a group add is due; an add waits while an earlier instruction must act on the row first. -/
def arowAddReady (w : Where) (row fmt : Nat) (got : List Payload) (c : Nat) (sums : Option (List (List Nat))) : Bool :=
  let (g, d) := arowTiming fmt
  got.length == g && c + d + 1 + (sums.elim 0 fun v => 4 - v.length) ≤ w.t.cyc && w.p.next ≤ w.t.cyc &&
  (sums.isNone || !w.t.rowHeld w.p.no row)

/-- AROW's consumed event: the group sums, and AROW with its order tokens sent (R122, R124). -/
def State.arowConsume (s : State) (w : Where) (fmt wfmt bank : Nat) (got : List Payload) : List (List Nat) × Pending × State :=
  let kid := w.k.id
  let t := w.t.id
  let s := (s.ensureSpan kid t 2 (bank * 0x2000) (if wfmt == 0xC then 0x4000 else 0x2000)).ensure kid t 2 (0x30000 + bank * 0x200)
  let (v, fl) := s.arowSums w.k t fmt wfmt bank got
  (v, (w.p.plus (w.p.both Tok.order w.t.cyc) (s.inFlight w.p.deps)).flagged fl, s)

/-- AROW's consumed event, with the first group, and the group adds that follow it one per cycle (R122, R124).
(DEDUCED, log 49.) -/
def State.arowAddDo (s : State) (w : Where) (row ea fmt wfmt bank : Nat) (got : List Payload) (c : Nat) (sums : Option (List (List Nat))) : State :=
  let kid := w.k.id
  let t := w.t.id
  let (vals, p, s) := match sums with
    | some v => (v, w.p, s)
    | none => s.arowConsume w fmt wfmt bank got
  if w.t.rowHeld w.p.no row then s.putPend w { p with work := .arow row ea fmt wfmt bank got c (some vals), next := w.t.cyc + 1 }
  else
    let s := if vals.length == 4 then s.rowSettled w row else s
    let (s, fl) := s.arowAdd kid t row (vals.headD [])
    let p := p.flagged fl
    if vals.length ≤ 1 then
      (s.putPend w { p with work := .finish, doneAt := w.t.cyc }).modTile kid t
        fun tl => { tl with rowsDone := tl.rowsDone ++ [row], arowAt := some (max c (tl.arowAt.getD 0)) }
    else s.putPend w { p with work := .arow row ea fmt wfmt bank got c (some (vals.drop 1)), next := w.t.cyc + 1 }

/-! ADRN and AZERO (R126, R327, R329). -/

/-- A record of ADRN (R126). -/
def State.adrnRec (s : State) (w : Where) (row t : Nat) (got : List Payload) : Payload :=
  if got.isEmpty then payOf (s.ocRead w.k.id w.t.id 1 (256 * row + 16 * t) 16).1 else got.getD t 0

def State.adrnReady (s : State) (w : Where) (row t : Nat) (got : List Payload) : Bool :=
  if t < 16 then (0 < t || !got.isEmpty || !w.t.rowBusy w.p.no (some row)) && w.free (.data (DTok.record (s.adrnRec w row t got) false))
  else w.idle

/-- ADRN sends its next record, or after the last its order token. -/
def State.adrnDo (s : State) (w : Where) (row t : Nat) (clr : Bool) (got : List Payload) : State :=
  if t < 16 then
    let pay := s.adrnRec w row t got
    let s := s.ensure w.k.id w.t.id 1 (256 * row + 16 * t)
    let s := if clr && got.isEmpty then s.ocWrite w.k.id w.t.id 1 (256 * row + 16 * t) (List.replicate 16 0) else s
    s.streamSend w (.data (DTok.record pay false)) (.adrn row (t + 1) clr got)
  else s.streamEnd w Tok.order

def azeroReady (w : Where) (rows : List Nat) : Bool :=
  w.p.next ≤ w.t.cyc && (match rows with
    | [] => true
    | r :: _ => !w.t.rowBusy w.p.no (some r))

/-- AZERO writes one row; order tokens follow in the cycle after the last. -/
def State.azeroDo (s : State) (w : Where) (rows : List Nat) : State :=
  match rows with
  | [] => s.putPend w (w.p.last (w.p.both Tok.order w.t.cyc) (s.inFlight w.p.deps))
  | r :: rest =>
    let s := if r < 64 then s.ocWrite w.k.id w.t.id 1 (256 * r) (List.replicate 256 0) else s
    s.putPend w { w.p with work := .azero rest, next := w.t.cyc + 1 }

/-! Complex arithmetic (R132). -/

/-- The parts of a complex lane, with the fraction width of their NaNs. -/
def cparts (fmt n : Nat) : FV × FV :=
  if fmt == 0xD then (FF.bf16.read n, FF.bf16.read (n / 2 ^ 16)) else (FF.fp32.read n, FF.fp32.read (n / 2 ^ 32))

def cfrac (fmt : Nat) : Nat := if fmt == 0xD then 7 else 23

/-- One part of a complex product: x y - u v, or x y + u v; exact, rounded once to FP32. -/
def cdot (fb : Nat) (nans : List FV) (x y u v : FV) (sub : Bool) : Nat × Fl :=
  let f := FF.fp32
  match nans.find? FV.isNan with
  | some (.nan s _ fr) => (f.nanFrom s fb fr, { inv := nans.any FV.isSnan })
  | _ =>
    match fvMul x y, fvMul u v with
    | some a, some b =>
      match fvAdd a (if sub then b.neg else b) with
      | some r => let o := f.ofFV r; (o.1, { ovf := o.2.ovf })
      | none => f.invalid
    | _, _ => f.invalid

/-- A complex product (a + bi)(c + di) in FP32 parts (R132). -/
def cmulParts (fmt a w : Nat) : (Nat × Nat) × Fl :=
  let (ar, ai) := cparts fmt a
  let (wr, wi) := cparts fmt w
  let ns := [ar, ai, wr, wi]
  let re := cdot (cfrac fmt) ns ar wr ai wi true
  let im := cdot (cfrac fmt) ns ar wi ai wr false
  ((re.1, im.1), re.2.or im.2)

/-- CMUL of a lane (R132). -/
def cmulLane (fmt a b : Nat) : Nat × Fl :=
  let ((re, im), fl) := cmulParts fmt a b
  if fmt == 0xD then
    let x := convert 7 6 0 false 0 re
    let y := convert 7 6 0 false 0 im
    (x.1 + y.1 * 2 ^ 16, (fl.or (x.2.or y.2)).invOvf)
  else (re + im * 2 ^ 32, fl.invOvf)

/-- CMAC's accumulation of one bin (R132). -/
def State.cmacBin (s : State) (k t aoff : Nat) (p : Nat × Nat) : State × Fl :=
  let (bs, s) := s.ocRead k t 1 aoff 8
  let re := FF.fp32.add false (leNat (bs.take 4)) p.1
  let im := FF.fp32.add false (leNat (bs.drop 4)) p.2
  (s.ocWrite k t 1 aoff (leBytes 4 re.1 ++ leBytes 4 im.1), (re.2.or im.2).invOvf)

/-- CMAC acts in cycle c + 4 (R331). -/
def State.cmacDo (s : State) (w : Where) (fmt : Nat) (pay : Payload) (d : Word) : State :=
  let kid := w.k.id
  let t := w.t.id
  let (s, fl) := (cmacBins fmt d).foldl (fun (acc : State × Fl) b =>
    let (bs, s) := acc.1.ocReadN kid t 2 b.2.1 (binBytes fmt)
    let (p, f) := cmulParts fmt (lane (8 * binBytes fmt) pay b.1) (leNat bs)
    let (s, g) := s.cmacBin kid t b.2.2 p
    (s, acc.2.or (f.or g))) (s, {})
  (s.putPend w ((w.p.last (w.p.both Tok.order w.t.cyc) (s.inFlight w.p.deps)).flagged fl.invOvf)).modTile kid t
    fun tl => { tl with rowsDone := tl.rowsDone ++ cmacRows fmt d }

/-! The STU (R133 to R136). -/

/-- A transform value: two FP32 parts. -/
abbrev Cpx := Nat × Nat

/-- Bit reversal of `n` bits. -/
def bitRev : Nat → Nat → Nat
  | 0, _ => 0
  | n + 1, x => x % 2 * 2 ^ n + bitRev n (x / 2)

def rneMul (a b : Nat) : Nat := (FF.fp32.mul a b).1
def rneAdd (a b : Nat) : Nat := (FF.fp32.add false a b).1
def rneSub (a b : Nat) : Nat := (FF.fp32.add true a b).1

/-- One butterfly (R133). -/
def butterfly (inv : Bool) (tw : Nat × Nat) (x y : Cpx) : Cpx × Cpx :=
  let (c, s) := tw
  let p1 := rneMul c y.1
  let p2 := rneMul s y.2
  let p3 := rneMul c y.2
  let p4 := rneMul s y.1
  let t : Cpx := if inv then (rneSub p1 p2, rneAdd p3 p4) else (rneAdd p1 p2, rneSub p3 p4)
  ((rneAdd x.1 t.1, rneAdd x.2 t.2), (rneSub x.1 t.1, rneSub x.2 t.2))

/-- One stage of length `len` over the array. -/
def fftStage (inv : Bool) (tw : List (Nat × Nat)) (b len : Nat) (a : List Cpx) : List Cpx :=
  let half := len / 2
  (List.range (b / len)).flatMap fun i =>
    let seg := (a.drop (i * len)).take len
    let r := (List.range half).map fun j => butterfly inv (tw.getD (j * b / len) (0, 0)) (seg.getD j (0, 0)) (seg.getD (j + half) (0, 0))
    r.map Prod.fst ++ r.map Prod.snd

/-- Fft (R133). -/
def fft (inv : Bool) (z : List Cpx) : List Cpx :=
  let b := z.length
  let n := Nat.log2 b
  let tw := (List.range (b / 2)).map (twiddle b)
  let a := (List.range b).map fun m => z.getD (bitRev n m) (0, 0)
  (List.range n).foldl (fun a st => fftStage inv tw b (2 ^ (st + 1)) a) a

/-- Block size from BSIZE's code (R203). -/
def bsizeOf (code : Nat) : Nat := 2 ^ (4 + min code 4)

/-- Padded bins (R129). -/
def padBins (b : Nat) : Nat := (b / 2 + 4) / 4 * 4

/-- Split bytes into elements of `n` bytes. -/
def chunksOf (n cnt : Nat) (bs : List Byte) : List Nat := (List.range cnt).map fun i => leNat ((bs.drop (n * i)).take n)

/-- XFWD of a time tile (R134). -/
def xfwdBytes (b fmt conv : Nat) (src : List Byte) : List Byte :=
  let (_, dst, mode, sat) := convFields conv
  let xs := (chunksOf (fmtWidth fmt / 8) b src).map fun x => (widen32 fmt x, 0)
  let out := fft false xs
  let pb := if dst == 6 then 2 else 4
  let cv := fun x => leBytes pb (convert 7 dst mode sat 0 x).1
  let bins := (List.range (b / 2 + 1)).flatMap fun k =>
    let z := out.getD k (0, 0)
    cv z.1 ++ cv (if k == 0 || k == b / 2 then 0 else z.2)
  bins ++ List.replicate (padBins b * 2 * pb - bins.length) 0

/-- XINV of a spectral tile (R135). -/
def xinvBytes (b fmt conv : Nat) (src : List Byte) : List Byte :=
  let (_, dst, mode, sat) := convFields conv
  let pf := if fmt == 0xD then 6 else 7
  let pb := if fmt == 0xD then 2 else 4
  let parts := chunksOf pb (2 * padBins b) src
  let bin := fun k : Nat =>
    ((widen32 pf (parts.getD (2 * k) 0), if k == 0 || k == b / 2 then 0 else widen32 pf (parts.getD (2 * k + 1) 0)) : Cpx)
  let z := (List.range b).map fun k =>
    if k ≤ b / 2 then bin k else let v := bin (b - k); (v.1, v.2 ^^^ 2 ^ 31)
  (fft true z).flatMap fun v =>
    let r := match FF.fp32.read v.1 with
      | .fin s m e => (FF.fp32.rne s m (e - Nat.log2 b)).1
      | _ => v.1
    leBytes (fmtWidth dst / 8) (convert 7 dst mode sat 0 r).1

/-- Source and destination bytes of a transform (R330). -/
def stuSizes (inv : Bool) (b fmt conv : Nat) : Nat × Nat :=
  let dst := (convFields conv).2.1
  if inv then (padBins b * (if fmt == 0xD then 4 else 8), b * fmtWidth dst / 8)
  else (b * fmtWidth fmt / 8, padBins b * (if dst == 6 then 4 else 8))

/-- The STU of a shelf of a kiln. -/
def Kiln.stu (k : Kiln) (shelf : Nat) : StuSt := (k.stus.find? fun x => x.shelf == shelf).getD ⟨shelf, [], none, [], 0, none⟩

def Kiln.setStu (k : Kiln) (x : StuSt) : Kiln :=
  let rest := k.stus.filter fun y => y.shelf != x.shelf
  { k with stus := rest ++ [x] }

/-- XFWD or XINV enters the STU's queue (R136).
(DEDUCED, log 103.) -/
def State.stuEnter (s : State) (w : Where) (inv : Bool) (fmt conv src dst : Nat) : State :=
  let s := s.putPend w { w.p with work := .stu true inv fmt conv src dst }
  s.modKiln w.k.id fun k =>
    let x := k.stu (w.t.id / 128)
    k.setStu { x with queue := x.queue ++ [(w.t.id, w.x.task, w.p.slot)] }

/-- The instruction that a queued or served transform belongs to. -/
def State.stuWork (s : State) (k : Nat) (q : Nat × Nat × Nat) : Option Where := s.where? k q.1 q.2.1 q.2.2

/-- Whether the STU reads a granule now. Its cycles are those of the tile whose transform it serves.
(DESIGN CHOICE, log 112.) -/
def Kiln.stuReads (k : Kiln) (x : StuSt) (now : Nat) : Bool :=
  match x.serving.orElse fun _ => x.queue.head? with
  | none => false
  | some q => x.doneAt.isNone && x.nextAt ≤ now && (k.tileD q.1).cycAt == now

/-- The STU begins the next queued transform, or goes on, and reads one granule (R136, R131, R397). -/
def State.stuRead (s : State) (k shelf : Nat) : State :=
  match s.kiln? k with
  | none => s
  | some kl =>
    let x := kl.stu shelf
    let (x, q?) := match x.serving with
      | some q => (x, some q)
      | none => ({ x with queue := x.queue.drop 1, serving := x.queue.head?, got := [] }, x.queue.head?)
    match q? with
    | none => s
    | some q =>
      let gone := { x with serving := none, got := [], nextAt := s.now + 1 }
      match s.stuWork k q with
      | none => s.modKiln k fun kl => kl.setStu gone
      | some w =>
        match w.p.work with
        | .stu _ inv fmt conv src _ =>
          let off := src + 16 * x.got.length
          let tag := w.t.tags.contains (off / 512)
          if tag != inv then
            (s.modKiln k fun kl => kl.setStu gone).stopAt w 0x38 w.p.slot (off + tag.toNat * 2 ^ 39 + 2 ^ 63)
          else
            let (pay, s) := s.granule k q.1 off
            let got := x.got ++ [pay]
            let b := bsizeOf w.t.bsize
            let fin := got.length * 16 ≥ (stuSizes inv b fmt conv).1
            s.modKiln k fun kl => kl.setStu { x with
              got := got
              nextAt := s.now + 1
              doneAt := if fin then some (w.t.cyc + b / 2 * Nat.log2 b / 8 + 12) else none }
        | _ => s.modKiln k fun kl => kl.setStu gone

/-- Whether the STU writes its result now: its time has come, and what is ob before the instruction has performed at KILN,
as for a store with FS 00 (R184, R330). -/
def State.stuWrites (s : State) (k : Kiln) (x : StuSt) : Bool :=
  match x.serving, x.doneAt with
  | some q, some d => k.begun s.now q.1 d && (k.tileD q.1).cycAt == s.now &&
      (match s.stuWork k.id q with
       | some w => s.performed k.id w.p.deps 1
       | none => true)
  | _, _ => false

/-- Write bytes as a store with FS 00 does, in step 4 of R285: chunks and granules are marked as by such a store. -/
def State.stuStore (s : State) (k t dst : Nat) (bs : List Byte) (dom : Bool) : State :=
  let s := (List.range (bs.length / 16)).foldl (fun s i => s.ocWrite k t 0 (dst + 16 * i) ((bs.drop (16 * i)).take 16)) s
  s.modTile k t fun tl => tl.stored ((List.range (bs.length / 16)).map fun i => dst + 16 * i) 16 0 dom

/-- The STU writes a whole result (R136, R330). -/
def State.stuWrite (s : State) (k shelf : Nat) : State :=
  match s.kiln? k with
  | none => s
  | some kl =>
    let x := kl.stu shelf
    let s := s.modKiln k fun kl => kl.setStu { x with serving := none, got := [], doneAt := none, nextAt := s.now + 1 }
    match x.serving.bind (s.stuWork k) with
    | none => s
    | some w =>
      match w.p.work with
      | .stu _ inv fmt conv _ dst =>
        let b := bsizeOf w.t.bsize
        let src := x.got.flatMap payBytes
        let out := if inv then xinvBytes b fmt conv src else xfwdBytes b fmt conv src
        (s.stuStore k w.t.id dst out (!inv)).putPend w (w.p.last (w.p.both Tok.order (w.t.cyc + 1)) (s.inFlight w.p.deps))
      | _ => s

/-- A transform that the STU has begun completes at once, for a freeze (R53, R136), unless a unit of storage must wait (R56). -/
def State.stuFinish (s : State) (k shelf : Nat) : Nat → State
  | 0 => s
  | fuel + 1 =>
    match (s.kiln? k).map fun kl => kl.stu shelf with
    | none => s
    | some x =>
      if x.serving.isNone || s.waitsUnit k then s
      else if x.doneAt.isSome then s.attempt (s.stuWrite k shelf)
      else (s.attempt (s.stuRead k shelf)).stuFinish k shelf fuel

/-! Meanings of row 0xC_. -/

/-- WLD (R325). -/
def execWld (p : Pred) (fs : BitVec 2) (ta tb : Target) (bank : BitVec 5) (vc : BitVec 3) (s : State) : Host.Outcome State Fault Refusal :=
  onTile s true p ta tb fun c =>
    let n := wldTakes (c.fmt fs)
    { c.nothing with work := .wld bank.toNat (c.fmt fs) vc.toNat 0 (n.1 + n.2) }

/-- A span of scratchpad that is misaligned or reaches beyond it (R282, R412): the offset. -/
def spanBad (ea : Word) (n : Nat) : Bool := ea.toNat % 16 != 0 || ea.toNat + n > 0x18000

/-- WLDS (R326). -/
def execWlds (p : Pred) (fs : BitVec 2) (ta tb : Target) (bank : BitVec 5) (s : State) : Host.Outcome State Fault Refusal :=
  onTileS s true p .both ta tb fun s c =>
    let n := (wldTakes (c.fmt fs)).1 + (wldTakes (c.fmt fs)).2
    (s, if spanBad c.av (16 * n) then c.stop 0x25 c.slot c.av.toNat
      else { c.nothing with work := .wlds bank.toNat (c.fmt fs) c.av.toNat 0 n, next := c.t.cyc + 1 })

/-- WSEL (R327). -/
def execWsel (p : Pred) (ta tb : Target) (bank : BitVec 5) (s : State) : Host.Outcome State Fault Refusal :=
  onTile s false p ta tb fun c => { c.emit 1 ta tb Tok.order with bank := bank.toNat }

/-- AROW (R328), with the current bank as the cycle began: a WSEL of its own cycle does not affect it (R120). -/
def execArow (p : Pred) (fs : BitVec 2) (ta tb : Target) (row : BitVec 6) (off : BitVec 16) (s : State) : Host.Outcome State Fault Refusal :=
  onTileS s true p .both ta tb fun s c =>
    let fmt := c.fmt fs
    let ea := c.av + sext off
    let (wf, upper) := c.t.bankOf c.t.bankAt
    (s, match c.stopAtA with
      | some lv => c.passStop ta tb false lv 1
      | none =>
        if spanBad ea (16 * (arowTiming fmt).1) then c.stop 0x25 c.slot ea.toNat
        else if upper || !arowPair fmt wf then c.stop 0x3B (c.slot + c.t.bankAt * 2 ^ 8) (fmt + wf * 2 ^ 4)
        else { c.nothing with work := .arow row.toNat ea.toNat fmt wf c.t.bankAt [] c.t.cyc none })

/-- ADRN (R329). -/
def execAdrn (p : Pred) (ta tb : Target) (row : BitVec 6) (clr : BitVec 1) (s : State) : Host.Outcome State Fault Refusal :=
  onTile s true p ta tb fun c => { c.nothing with work := .adrn row.toNat 0 (clr == 1) [] }

/-- AZERO (R327). -/
def execAzero (p : Pred) (ta tb : Target) (row : BitVec 6) (n : BitVec 6) (s : State) : Host.Outcome State Fault Refusal :=
  onTile s false p ta tb fun c => { c.nothing with work := .azero ((List.range (n.toNat + 1)).map fun i => row.toNat + i) }

/-! Meanings of row 0xD_, first part. -/

/-- XFWD and XINV at issue (R330). -/
def Ctx.transform (c : Ctx) (inv : Bool) (fs cv : BitVec 2) : Issue :=
  let fmt := c.fmt fs
  let conv := c.t.conv.getD cv.toNat 0
  let (nin, nout) := stuSizes inv (bsizeOf c.t.bsize) fmt conv
  if spanBad c.av nin then c.stop 0x25 c.slot c.av.toNat
  else if spanBad c.bv nout then c.stop 0x25 c.slot c.bv.toNat
  else { c.nothing with work := .stu false inv fmt conv c.av.toNat c.bv.toNat, next := c.t.cyc + 1 }

/-- XFWD (R330). -/
def execXfwd (p : Pred) (fs : BitVec 2) (ta tb : Target) (c : BitVec 2) (s : State) : Host.Outcome State Fault Refusal :=
  onTileS s true p .both ta tb fun s x => (s, x.transform false fs c)

/-- XINV (R330). -/
def execXinv (p : Pred) (fs : BitVec 2) (ta tb : Target) (c : BitVec 2) (s : State) : Host.Outcome State Fault Refusal :=
  onTileS s true p .both ta tb fun s x => (s, x.transform true fs c)

/-- CMAC (R331). -/
def execCmac (p : Pred) (fs : BitVec 2) (ta tb : Target) (s : State) : Host.Outcome State Fault Refusal :=
  onTile s true p ta tb fun c =>
    let fmt := c.fmt fs
    match c.badDomain true [.a] with
    | some i => i
    | none =>
      if c.ad.isRecord then
        if (cmacBins fmt c.bv).any fun b => b.2.1 + binBytes fmt > 0x30000 || b.2.2 + 8 > 0x4000 then c.stop 0x3C c.slot c.bv.toNat
        else { c.nothing with work := .cmac fmt c.ad.pay c.bv (c.t.cyc + 4), next := c.t.cyc + 4 }
      else c.send2 4 ta (if c.ad.isStop then Tok.stop false c.ad.level else Tok.order) tb Tok.order

/-- CMUL (R332). -/
def execCmul (p : Pred) (fs : BitVec 2) (ta tb : Target) (s : State) : Host.Outcome State Fault Refusal :=
  onTile s true p ta tb fun c =>
    c.lanesOf true 4 ta tb [.a, .b] (map2 (fmtWidth (c.fmt fs)) c.ad.pay c.bd.pay (cmulLane (c.fmt fs)))

/-- CCONJ (R332). -/
def execCconj (p : Pred) (fs : BitVec 2) (ta tb : Target) (s : State) : Host.Outcome State Fault Refusal :=
  onTile s true p ta tb fun c =>
    let w := fmtWidth (c.fmt fs)
    c.lanesOf true 1 ta tb [.a] (map1 w c.ad.pay fun x => noFl (x ^^^ 2 ^ (w - 1)))

/-- DTAG (R332). -/
def execDtag (p : Pred) (ta tb : Target) (d : BitVec 1) (s : State) : Host.Outcome State Fault Refusal :=
  onTile s true p ta tb fun c => c.emit 1 ta tb (.data { c.ad with domain := d == 1 })

end Sys2Proof.Machine
end

