-- ==== Sys2Proof/Machine/Engine.lean ====
section
/-! DEFINITION. What the engines share: their accesses, with holds and stops (R141, R412, R415, R421), handles and glazes
(R167 to R171, R218), folds (R172, R336), BTU copies (R144, R165, R166), and rows 0xD6 to 0xDA of the opcode map (R333 to
R336). -/

namespace Sys2Proof.Machine

/-! Accesses of engines. -/

/-- An access that an engine could not make: what it was translated for. -/
structure Reach where
  paddock : Nat
  placer : Placer
  need : Need
  va : Nat
  n : Nat
  deriving DecidableEq, Repr

/-- What an engine's access comes to: a value and the state after, a hold at a VA (CLASS 1), a stop (CLASS 0), or a wait for
a frame that is being moved (R160); a hold, or a stop, that a translation ended in names that translation. -/
inductive Eng (α : Type) where
  | ok (a : α) (s : State)
  | hold (f : XFault) (va : Nat) (r : Option Reach)
  | stop (cause w6 w7 : Nat) (r : Option Reach := none)
  | wait (until_ : Nat)

/-- What the translation of an access that could not be made has placed and counted (R159, R160). -/
def State.reached (s : State) (r : Option Reach) : State :=
  match r with
  | none => s
  | some x => match s.paddock? x.paddock with
    | none => s
    | some p => (s.xlate p x.placer x.need x.va x.n).2

/-- Go on with the value of an access. -/
def Eng.next {α β : Type} (e : Eng α) (f : α → State → Eng β) : Eng β :=
  match e with
  | .ok a s => f a s
  | .hold x v r => .hold x v r
  | .stop c a b r => .stop c a b r
  | .wait u => .wait u

/-- Who makes an engine's access: paddock, kiln if any, its die and shelf, how its frames are placed, the code that
ADDRESS_FORM reports, and the fields of its records (R413). -/
structure Agent where
  paddock : Nat
  kiln : Option Nat
  die : Nat
  shelf : Nat
  placer : Placer
  op : Nat
  who : FaultReq
  deriving DecidableEq, Repr

/-- An engine at an element of its walk. -/
def Agent.atElem (g : Agent) (e : Nat) : Agent := { g with who := { g.who with w3 := g.who.w3 / 2 ^ 32 * 2 ^ 32 + e % 2 ^ 32 } }

/-- When the migration that touches some locations will be complete. -/
def State.migratesUntil (s : State) (ls : List Loc) : Option Nat :=
  (s.migrations.find? fun m => ls.any fun l => l.pa / 2 ^ 16 == m.old / 2 ^ 16).map Migration.doneAt

/-- Translate an engine's access at a VA.
(DEDUCED, log 52.) -/
def State.engXlate (s : State) (g : Agent) (need : Need) (va n : Nat) : Eng (List Loc) :=
  let va := va % 2 ^ 64
  if 2 ^ 48 ≤ va then .stop 0x20 g.op va
  else
    match s.paddock? g.paddock with
    | none => .hold ⟨0x21, need.code, 1, 0, 0⟩ va none
    | some p =>
      let r : Reach := ⟨g.paddock, g.placer, need, va, n⟩
      match s.xlate p g.placer need va n with
      | (.error f, _) => if f.cause == 0x3F then .stop 0x3F f.w7 0 r else .hold f va r
      | (.ok ls, s) =>
        if !locsExist ls then .stop 0x20 g.op va r
        else
          match s.migratesUntil ls with
          | some u => .wait (u + 1)
          | none => .ok ls (s.countFrame (if g.placer == .outside then 4 else g.die) g.shelf ls)

/-- Read a VA. -/
def State.engRead (s : State) (g : Agent) (va n : Nat) : Eng (List Byte) :=
  (s.engXlate g .read va n).next fun ls s =>
    let (bs, s) := s.cleanBytes g.who ls
    .ok bs s

/-- Write a VA. -/
def State.engWrite (s : State) (g : Agent) (va : Nat) (bs : List Byte) : Eng Unit :=
  (s.engXlate g .write va bs.length).next fun ls s => .ok () (s.locWrite ls bs)

/-- Read a little-endian number. -/
def State.engNum (s : State) (g : Agent) (va n : Nat) : Eng Nat := (s.engRead g va n).next fun bs s => .ok (leNat bs) s

/-- The tile, space and offset of `n` bytes at a kiln-relative address (R140, R141), its KIND left out. -/
def State.engPlace (s : State) (g : Agent) (addr n : Nat) : Option (Nat × Nat × Nat × Nat) :=
  match g.kiln.bind s.kiln? with
  | none => none
  | some kl =>
    let t := fld addr 32 13
    let space := fld addr 29 3
    let off := fld addr 0 29
    if t / 128 < kl.shelves && off + n ≤ spaceSize (t % 128) space && (space ≤ 3 || space == 6) then some (kl.id, t, space, off) else none

/-- Whether a drover's 64-bit value has the form of a kiln-relative address (R140). -/
def ocForm (a : Nat) : Bool := a / 2 ^ 45 == 0xE * 8

/-- The on-chip address that a record names: a drover's has the KIND of R140, a BTU packet's has none (R165). -/
def Agent.ocEa (g : Agent) (addr : Nat) : Nat := if g.op == 0xD6 then addr else 0xE * 2 ^ 48 + addr

/-- Read on-chip bytes, with zeros for poisoned granules (R421). -/
def State.engOcRead (s : State) (g : Agent) (addr n : Nat) : Eng (List Byte) :=
  match s.engPlace g addr n with
  | none => .stop 0x20 g.op (g.ocEa addr)
  | some (k, t, space, off) =>
    let (bs, s) := s.ocReadN k t space off n
    match s.kiln? k with
    | none => .ok bs s
    | some kl =>
      let (bs, s) := s.cleanAt g.who (kl.pa t space off) n
      .ok bs s

/-- Write on-chip bytes as an engine does (R141). -/
def State.engOcWrite (s : State) (g : Agent) (addr : Nat) (bs : List Byte) (dom : Bool) : Eng Unit :=
  match s.engPlace g addr bs.length with
  | none => .stop 0x20 g.op (g.ocEa addr)
  | some (k, t, space, off) => .ok () (s.windowWriteN k t space off bs dom)

/-! Handles (R167, R218). -/

/-- Whether a code is a real format (R167). -/
def realFmt (f : Nat) : Bool := f ≤ 3 || (5 ≤ f && f ≤ 9)

/-- Word `i` of an entry. -/
def entWord (e : List Word) (i : Nat) : Nat := (e.getD i 0).toNat

def entBody (e : List Word) : Nat := fld (entWord e 0) 0 48
def entFmt (e : List Word) : Nat := fld (entWord e 0) 48 4
def entCirc (e : List Word) : Nat := fld (entWord e 0) 52 4
def entGlazes (e : List Word) : Nat := fld (entWord e 0) 56 3
def entExt (e : List Word) (d : Nat) : Nat := fld (entWord e (1 + d / 2)) (32 * (d % 2)) 32
def entStride (e : List Word) (d : Nat) : Int := sextInt 32 (fld (entWord e (3 + d / 2)) (32 * (d % 2)) 32)
def entGen (e : List Word) : Word := e.getD 5 0

/-- Split bytes into 64-bit words. -/
def wordsOf (n : Nat) (bs : List Byte) : List Word := (List.range n).map fun i => BitVec.ofNat 64 (leNat ((bs.drop (8 * i)).take 8))
def bytesOf (ws : List Word) : List Byte := ws.flatMap fun w => leBytes 8 w.toNat

/-- Where a handle's entry stands: none when [63:24] is not zero (R412). -/
def State.entryVa (s : State) (paddock : Nat) (h : Word) : Option Nat :=
  if h.toNat < 2 ^ 24 then (s.paddock? paddock).map fun p => (p.handles + 256 * h.toNat) % 2 ^ 48 else none

/-- Read a handle's entry in one access; HANDLE_INDEX if it is malformed (R170, R412).
(DEDUCED, log 54.) -/
def State.handleEntry (s : State) (g : Agent) (h : Word) : Eng (List Word) :=
  match s.entryVa g.paddock h with
  | none => .stop 0x45 h.toNat 0
  | some va => (s.engRead g va 256).next fun bs s =>
      let e := wordsOf 32 bs
      if realFmt (entFmt e) && (List.range 4).all fun d => entExt e d != 0 then .ok e s
      else .stop 0x45 h.toNat (entFmt e)

/-- Write a handle's entry. -/
def State.putEntry (s : State) (g : Agent) (h : Word) (e : List Word) : Eng Unit :=
  match s.entryVa g.paddock h with
  | none => .stop 0x45 h.toNat 0
  | some va => s.engWrite g va (bytesOf e)

/-- Whether a glaze descriptor breaks R218 (R412). -/
def glazeBad (d : List Word) : Bool :=
  let a := entWord d 0
  let b := entWord d 1
  let c := entWord d 2
  match fld a 48 4 with
  | 1 => fld a 60 4 != 0 || fld b 48 16 != 0 || fld c 32 16 == 0 || fld c 48 16 == 0
  | 2 => fld a 52 12 != 0 || fld a 0 4 != 0 || fld b 25 39 != 0 || fld b 0 25 == 0 || fld b 0 25 > 2 ^ 24 || c != 0
  | _ => true

/-- The first glaze of an entry that breaks R218, from glaze `q` on. -/
def entGlazeBad (e : List Word) : Nat → Nat → Option Nat
  | 0, _ => none
  | n + 1, q => if glazeBad ((e.drop (8 + 3 * q)).take 3) then some q else entGlazeBad e n (q + 1)

/-- Capture a handle's entry to use its glazes (R170): a malformed one raises GLAZE_DESCRIPTOR, naming the VA of its field (R412).
(DEDUCED, log 54.) -/
def State.captureEntry (s : State) (g : Agent) (h : Word) : Eng (List Word) :=
  (s.handleEntry g h).next fun e s =>
    match entGlazeBad e (entGlazes e) 0 with
    | some q => .stop 0x43 h.toNat (((s.entryVa g.paddock h).getD 0 + 64 + 24 * q) % 2 ^ 48)
    | none => .ok e s

/-- An entry with GLAZES and GEN changed. -/
def setGlazes (e : List Word) (n : Nat) : List Word :=
  let w := entWord e 0
  (e.set 0 (BitVec.ofNat 64 (w - fld w 56 3 * 2 ^ 56 + n * 2 ^ 56))).set 5 (entGen e + 1)

/-- Append a glaze (R170, R335): the new GEN. -/
def State.glazeAttach (s : State) (g : Agent) (h desc : Word) : Eng Word :=
  (s.handleEntry g h).next fun e s =>
    let n := entGlazes e
    if n == 7 then .stop 0x42 h.toNat (entGen e).toNat
    else if desc.toNat % 8 != 0 then .stop 0x43 h.toNat desc.toNat
    else (s.engRead g desc.toNat 24).next fun bs s =>
      let d := wordsOf 3 bs
      if glazeBad d then .stop 0x43 h.toNat desc.toNat
      else
        let e := setGlazes (((e.set (8 + 3 * n) (d.getD 0 0)).set (9 + 3 * n) (d.getD 1 0)).set (10 + 3 * n) (d.getD 2 0)) (n + 1)
        (s.putEntry g h e).next fun _ s => .ok (entGen e) s

/-- Remove the glaze at a position (R170, R218, R335): the new GEN. -/
def State.glazeDetach (s : State) (g : Agent) (h pos : Word) : Eng Word :=
  (s.handleEntry g h).next fun e s =>
    let n := entGlazes e
    if n ≤ pos.toNat then .stop 0x44 h.toNat pos.toNat
    else
      let gl := ((e.drop 8).take 21)
      let gl := gl.take (3 * pos.toNat) ++ gl.drop (3 * pos.toNat + 3) ++ [0, 0, 0]
      let e := setGlazes (e.take 8 ++ gl ++ e.drop 29) (n - 1)
      (s.putEntry g h e).next fun _ s => .ok (entGen e) s

/-! Glazed elements (R168, R169). -/

/-- Read an FP32 or BF16 factor as FP32 bits. -/
def State.factor (s : State) (g : Agent) (bf : Bool) (va : Nat) : Eng Nat :=
  if bf then (s.engNum g va 2).next fun n s => .ok (n * 2 ^ 16) s else s.engNum g va 4

/-- The sum over the rank, one rounding per step, from `t` on. -/
def State.lowRank (s : State) (g : Agent) (ub vb : Bool) (u v : Nat) : Nat → Nat → Nat → Eng Nat
  | 0, _, a => .ok a s
  | n + 1, t, a =>
    (s.factor g ub (u + t * (if ub then 2 else 4))).next fun x s =>
      (s.factor g vb (v + t * (if vb then 2 else 4))).next fun y s =>
        s.lowRank g ub vb u v n (t + 1) (FF.fp32.fma false false x y a).1

/-- The value that a SPARSE list gives a position, if it lists it: `n` entries from a VA, after the last kept position. -/
def State.sparse (s : State) (g : Agent) (i j : Nat) : Nat → Nat → Option (Nat × Nat) → Eng (Option Nat)
  | 0, _, _ => .ok none s
  | n + 1, va, last =>
    (s.engNum g va 16).next fun x s =>
      let r := fld x 0 32
      let c := fld x 32 32
      let follows := match last with
        | none => true
        | some (a, b) => a < r || (a == r && b < c)
      if !follows then s.sparse g i j n (va + 16) last
      else if r == i && c == j then .ok (some (fld x 64 32)) s
      else s.sparse g i j n (va + 16) (some (r, c))

/-- Add the glazes of an entry, from glaze `q` on, to an element's FP32 value. -/
def State.glazed (s : State) (g : Agent) (e : List Word) (i j : Nat) : Nat → Nat → Nat → Eng Nat
  | 0, _, v => .ok v s
  | n + 1, q, v =>
    let a := entWord e (8 + 3 * q)
    let b := entWord e (9 + 3 * q)
    let c := entWord e (10 + 3 * q)
    if fld a 48 4 == 1 then
      (s.lowRank g (fld a 52 1 == 1) (fld a 53 1 == 1) (fld a 0 48 + i * fld c 32 16) (fld b 0 48 + j * fld c 48 16)
        (fld a 54 6 + 1) 0 0).next fun sum s =>
          s.glazed g e i j n (q + 1) (FF.fp32.add false v (FF.fp32.mul (fld c 0 32) sum).1).1
    else
      (s.sparse g i j (fld b 0 25) (fld a 0 48) none).next fun w s =>
        s.glazed g e i j n (q + 1) (match w with
          | some w => (FF.fp32.add false v w).1
          | none => v)

/-- The VA of an element of a body at coordinates. -/
def bodyVa (e : List Word) (x : List Nat) : Nat :=
  (((entBody e : Int) + (x.zipIdx.map fun (p : Nat × Nat) => (p.1 : Int) * entStride e p.2).sum) % 2 ^ 64).toNat

/-- The FP32 value of an element delivered through a handle (R169). -/
def State.glazeElem (s : State) (g : Agent) (e : List Word) (x : List Nat) : Eng Nat :=
  let fmt := entFmt e
  let i := x.getD 1 0 + entExt e 1 * (x.getD 2 0 + entExt e 2 * x.getD 3 0)
  (s.engNum g (bodyVa e x) (fmtWidth fmt / 8)).next fun b s =>
    s.glazed g e i (x.getD 0 0) (entGlazes e) 0 (convert fmt 7 0 false 0 b).1

/-! Folds (R172, R336). -/

/-- Read and check a fold descriptor: body VA, format, new handle, counter. -/
def State.foldDesc (s : State) (g : Agent) (h desc : Word) : Eng (Nat × Nat × Nat × Nat) :=
  if desc.toNat % 8 != 0 then (s.engNum g desc.toNat 8).next fun a _ => .stop 0x46 h.toNat a
  else (s.engRead g desc.toNat 32).next fun bs s =>
    let d := wordsOf 4 bs
    let a := entWord d 0
    let f := fld a 48 4
    if !realFmt f || fld a 52 12 != 0 || fld (entWord d 1) 24 40 != 0 || fld (entWord d 2) 12 52 != 0 || entWord d 3 != 0 then
      .stop 0x46 h.toNat a
    else .ok (fld a 0 48, f, entWord d 1, entWord d 2) s

/-- Capture a source entry and start its fold (R172, R336). -/
def State.foldStart (s : State) (g : Agent) (h desc : Word) : Eng Unit :=
  (s.captureEntry g h).next fun e s =>
    (s.foldDesc g h desc).next fun d s =>
      let (id, s) := s.fresh
      let (w, s) := s.draw
      .ok () { s with folds := s.folds ++ [⟨id, g.paddock, g.die, g.shelf, g.kiln.getD 0, e, d.1, d.2.1, d.2.2.1, d.2.2.2, 0, none, false, s.now + 1 + w⟩] }

/-- Elements of an entry's body. -/
def entCount (e : List Word) : Nat := entExt e 0 * entExt e 1 * entExt e 2 * entExt e 3

/-- Coordinates of element `n`, dimension 0 fastest. -/
def entCoords (e : List Word) (n : Nat) : List Nat :=
  let a := n / entExt e 0
  let b := a / entExt e 1
  [n % entExt e 0, a % entExt e 1, b % entExt e 2, b / entExt e 2]

/-- The new entry of a fold: the source's extents and circular mask, dense strides, no glazes, generation 0 (R336). -/
def foldEntry (j : FoldJob) : List Word :=
  let z := fmtWidth j.fmt / 8
  let st := fun n => BitVec.ofNat 64 (n % 2 ^ 32)
  let s1 := z * entExt j.entry 0
  let s2 := s1 * entExt j.entry 1
  let s3 := s2 * entExt j.entry 2
  [BitVec.ofNat 64 (j.body + j.fmt * 2 ^ 48 + entCirc j.entry * 2 ^ 52), j.entry.getD 1 0, j.entry.getD 2 0,
    st z ||| (st s1 <<< 32), st s2 ||| (st s3 <<< 32)] ++ List.replicate 27 0

/-- The die and slice of the fold engine that computes the next element: those that own the frame of the new body where it goes
(R172); for a unit not yet placed, and for a body outside DRAM, those of the request.
(DESIGN CHOICE, log 116.) -/
def State.foldEngine (s : State) (j : FoldJob) : Nat × Nat :=
  let z := fmtWidth j.fmt / 8
  let va := (j.body + z * min j.pos (entCount j.entry - 1)) % 2 ^ 48
  match (s.paddock? j.paddock).map fun p => (s.xlate p .never .write va z).1 with
  | some (.ok (l :: _)) => if l.pa / 2 ^ 48 == 0 then (fld l.pa 46 2, fld l.pa 39 7) else (j.die, j.shelf)
  | _ => (j.die, j.shelf)

/-- The record of a fold (R413), with the die and slice of the engine that computes its next element. -/
def FoldJob.faultReq (j : FoldJob) (at_ : Nat × Nat) (queue cause cls w6 w7 : Nat) : FaultReq where
  cause := cause
  cls := cls
  die := at_.1
  shelf := at_.2
  agent := 3
  w3 := j.pos % 2 ^ 32
  paddock := j.paddock
  kiln := j.kiln
  queue := queue
  w6 := w6
  w7 := w7

/-- The agent of a fold. -/
def State.foldAgent (s : State) (j : FoldJob) : Agent :=
  let (die, slice) := s.foldEngine j
  ⟨j.paddock, none, die, slice, .fold die, 0xDA, j.faultReq (die, slice) (((s.kiln? j.kiln).map Kiln.queue).getD 0) 0x29 2 0 0⟩

/-- A part of a fold: an element of the new body; at its end the new entry. True when the fold is done. -/
def State.foldPart (s : State) (j : FoldJob) : Eng (FoldJob × Bool) :=
  let z := fmtWidth j.fmt / 8
  let g := s.foldAgent j
  if entCount j.entry ≤ j.pos then
    (s.putEntry g (BitVec.ofNat 64 j.handle) (foldEntry j)).next fun _ s => .ok (j, true) s
  else
    (s.glazeElem g j.entry (entCoords j.entry j.pos)).next fun v s =>
      (s.engWrite g (j.body + z * j.pos) (leBytes z (convert 7 j.fmt 0 false 0 v).1)).next fun _ s => .ok ({ j with pos := j.pos + 1 }, false) s

/-! BTU copies (R144, R165, R166). -/

/-- A field of a packet. -/
def pktFld (p : BitVec 256) (lo w : Nat) : Nat := fld p.toNat lo w

def pktPitch (p : BitVec 256) : Nat := (pktFld p 128 16 + 15) / 16 * 16

/-- The first field of a packet, in the order of R165, that breaks it.
(DEDUCED, log 51.) -/
def pktBad (p : BitVec 256) : Option Nat :=
  let dstOc := pktFld p 112 1 == 1
  let bm := pktFld p 127 1 == 1
  let len := pktFld p 144 16 * pktPitch p
  if pktFld p 48 1 == 1 && pktFld p 45 3 != 0 then some 0
  else if pktFld p 51 13 != 0 then some 4
  else if pktFld p 64 4 != 0 || (dstOc && pktFld p 109 3 != 0) then some 5
  else if bm && pktFld p 113 14 * 8 + 8 > 0x18000 then some 7
  else if bm && !(dstOc && pktFld p 93 3 == 0 && pktFld p 96 7 < 64) then some 8
  else if pktFld p 128 16 == 0 || pktFld p 128 16 > 32768 then some 9
  else if pktFld p 144 16 == 0 || pktFld p 144 16 > 4096 || len > 32768 || (bm && pktFld p 64 9 + len > 32768) then some 10
  else none

/-- The source address of byte `j` of row `i`, or nothing when it is out of range (R166). -/
def pktSource (p : BitVec 256) (i j : Nat) : Option Nat :=
  let e0 := pktFld p 208 16
  let e1 := pktFld p 240 16
  let x0 := pktFld p 192 16 + j
  let x1 := pktFld p 224 16 + i
  let x0 := if pktFld p 49 1 == 1 && e0 != 0 then x0 % e0 else x0
  let x1 := if pktFld p 50 1 == 1 && e1 != 0 then x1 % e1 else x1
  if (e0 == 0 || x0 < e0) && (e1 == 0 || x1 < e1) then
    some (((pktFld p 0 48 : Int) + x1 * sextInt 32 (pktFld p 160 32) + x0) % 2 ^ 64).toNat
  else none

/-- Read one byte of a copy's source.
(DESIGN CHOICE, log 132.) -/
def State.pktRead (s : State) (g : Agent) (p : BitVec 256) (i j : Nat) : Eng Byte :=
  match pktSource p i j with
  | none => .ok 0 s
  | some a =>
    let r := if pktFld p 48 1 == 1 then s.engOcRead g (a % 2 ^ 45) 1 else s.engRead g (a % 2 ^ 48) 1
    r.next fun bs s => .ok (bs.headD 0) s

/-- Read `n` more bytes of row `i`, after those already read; what was read stays read when one has to wait. -/
def State.pktFill (s : State) (g : Agent) (p : BitVec 256) (i j : Nat) : Nat → List Byte → State × List Byte × Eng Unit
  | 0, buf => (s, buf, .ok () s)
  | n + 1, buf =>
    match s.pktRead g p i (j + buf.length) with
    | .ok b s => s.pktFill g p i j n (buf ++ [b])
    | r => (s, buf, r.next fun _ s => .ok () s)

/-- Write bytes of a copy from an offset from DST on.
(DESIGN CHOICE, log 132.) -/
def State.pktWrite (s : State) (g : Agent) (p : BitVec 256) (pos : Nat) (bs : List Byte) : Eng Unit :=
  if pktFld p 112 1 == 1 then s.engOcWrite g (pktFld p 64 45 + pos) bs false
  else s.engWrite g ((pktFld p 64 48 + pos) % 2 ^ 48) bs

/-- The number of destination bytes from DST to the end of a copy's last written byte. -/
def pktSpan (p : BitVec 256) : Nat := (pktFld p 144 16 - 1) * pktPitch p + pktFld p 128 16

/-- The word of a copy's request bitmap: kiln-relative tile and offset (R144). -/
def pktBitmap (p : BitVec 256) : Nat × Nat := (pktFld p 96 13, 8 * pktFld p 113 14)

/-- Change a copy's bitmap word. -/
def State.pktMark (s : State) (k : Nat) (p : BitVec 256) (f : Nat → Nat) : State :=
  if pktFld p 127 1 == 0 then s
  else
    let (t, off) := pktBitmap p
    let (bs, s) := s.ocRead k t 0 off 8
    s.windowWrite k t 0 off (leBytes 8 (f (leNat bs))) false

/-- The bits of the chunks that a copy touches. -/
def pktChunks (p : BitVec 256) : Nat := (pktFld p 64 9 + pktSpan p + 511) / 512

/-- The chunk of a granule of a copy, counted from the one that holds DST (R144). -/
def pktChunk (p : BitVec 256) (pos : Nat) : Nat := (pktFld p 64 9 + pos) / 512

/-- Start a copy: the bits of its chunks are cleared (R144); a bitmap word on a shelf beyond the kiln has no place (R140). -/
def State.pktBegin (s : State) (g : Agent) (p : BitVec 256) : Eng Unit :=
  let (t, off) := pktBitmap p
  if pktFld p 127 1 == 1 && (s.engPlace g (relAddr t 0 off) 8).isNone then .stop 0x20 g.op (g.ocEa (pktFld p 64 45))
  else
    let m := 2 ^ pktChunks p - 1
    .ok () (s.pktMark (g.kiln.getD 0) p fun n => n - (n &&& m))

/-- The offsets from DST of a copy's granules. -/
def pktGranules (p : BitVec 256) : List Nat := (List.range ((pktSpan p + 15) / 16)).map (16 * ·)

/-- A copy goes on to a granule among those left, in an order that the spec leaves open (R144, R166).
(DESIGN CHOICE, log 126.) -/
def State.copyNext (s : State) (c : BtuCopy) : BtuCopy × State :=
  let i := Config.freeNat s.freeCount % max 1 c.left.length
  ({ c with pos := c.left.getD i 0, left := c.left.eraseIdx i, buf := [] }, { s with freeCount := s.freeCount + 1 })

/-- The bytes of the granule at a copy's next place. -/
def BtuCopy.width (c : BtuCopy) : Nat := min 16 (pktFld c.packet 128 16 - c.pos % pktPitch c.packet)

/-- The byte index, within the copy, of the access that a copy makes next (R413). -/
def BtuCopy.elem (c : BtuCopy) : Nat :=
  c.pos / pktPitch c.packet * pktFld c.packet 128 16 + c.pos % pktPitch c.packet + (if c.buf.length < c.width then c.buf.length else 0)

/-- The record of a copy (R413), by its kiln and the die shelf of its BTU. -/
def BtuCopy.faultReq (c : BtuCopy) (k : Kiln) (shelf cause cls w6 w7 : Nat) : FaultReq :=
  { k.faultReq 0 0 0 0 cause cls w6 w7 with shelf := shelf, tile := 0, agent := 2, w3 := c.elem }

/-- The agent of a copy. -/
def BtuCopy.agent (c : BtuCopy) (die shelf : Nat) (k : Kiln) : Agent :=
  ⟨k.paddock, some c.kiln, die, shelf, .slice die shelf, 0xD6, c.faultReq k shelf 0x29 2 0 0⟩

/-- Move the next destination granule of a copy, and set its chunk's bit when it was the chunk's last to land (R144, R166); true when it
was the last of all. What was read stays read when an access has to wait. -/
def State.pktPart (s : State) (g : Agent) (c : BtuCopy) : State × BtuCopy × Eng Bool :=
  let p := c.packet
  let (s, buf, r) := s.pktFill g p (c.pos / pktPitch p) (c.pos % pktPitch p) (c.width - c.buf.length) c.buf
  match r.next fun _ s => s.pktWrite g p c.pos buf with
  | .ok _ s =>
    let q := pktChunk p c.pos
    let s := if c.left.all fun x => pktChunk p x != q then s.pktMark c.kiln p fun n => n ||| 2 ^ q else s
    let (c', s) := s.copyNext c
    (s, c', .ok c.left.isEmpty s)
  | r => (s, { c with buf := buf }, r.next fun _ s => .ok false s)

/-! Tile requests to the engines (R333 to R336). -/

/-- The pattern registers, converter and binding at the start of a list (R337). -/
def PatDim.blank : PatDim := ⟨0, 1, 1, 0, false⟩

/-- A list at its start. -/
def DList.start (kiln shelf : Nat) (ref : ListRef) (g : List Word) (deps : List Nat) : DList where
  kiln := kiln
  shelf := shelf
  ref := ref
  g := (g ++ List.replicate 16 0).take 16
  p := List.replicate 4 (List.replicate 4 PatDim.blank)
  conv := none
  binding := none
  index := 0
  word := none
  pos := 0
  buf := []
  row := none
  entry := none
  waits := false
  deps := deps
  held := none
  retry := false
  at_ := 0

/-- Submit a list to a drover (R163, R338). -/
def State.kick (s : State) (die slice : Nat) (l : DList) : State :=
  let d := s.drover die slice
  s.setDrover { d with queue := d.queue ++ [l] }

/-- The list that DRVK names (R338). -/
def listRefOf (v : Word) : ListRef := if v.getLsbD 63 then .charge (fld v.toNat 0 16) else .va v.toNat

/-- The die shelf on which a request acts. -/
def Where.shelf (w : Where) : Nat := w.k.shelf (w.t.id / 128)

/-- The agent of a tile's request at a slice. -/
def Where.agent (w : Where) (op : Nat) : Agent := ⟨w.k.paddock, some w.k.id, w.k.die, w.shelf, .slice w.k.die w.shelf, op, w.req⟩

/-- Whether a request may be accepted now: what it releases has performed at DEVICE, and its engine has a place. -/
def State.engineReady (s : State) (w : Where) (op : EngineOp) (deps : List Nat) (held : Option (Nat × Bool)) : Bool :=
  w.p.next ≤ w.t.cyc && (held.elim true Prod.snd) &&
  (match op with
   | .xreq _ => ((s.btu w.k.die w.shelf).copies.countP fun c => !c.started) < 16
   | .drvk shelf _ _ => (s.drover w.k.die (w.k.shelf shelf)).queue.length < 16
   | _ => s.performed w.k.id deps 3)

/-- The results of an access at the handle's slice: answered, held or stopped (R335, R336, R415). -/
def State.engineAnswer {α : Type} (s : State) (w : Where) (op : EngineOp) (deps : List Nat) (r : Eng α)
    (f : α → List Send) : State :=
  match r with
  | .ok a s => s.putPend w (w.p.last (f a) (s.inFlight deps))
  | .wait u => s.putPend w { w.p with next := w.t.cyc + 1 + (u - s.now) / w.k.period w.t }
  | .stop 0x3F pa _ r => ((s.reached r).poisonSeen w.req pa).tokenError w
  | .stop cause a b r => (s.reached r).stopAt w cause a b (match op with | .gtfld _ _ => 1 | _ => 0)
  | .hold f va r =>
    let (uid, s) := (s.reached r).postFault { w.k.faultReq w.t.id w.x.task w.x.block w.p.slot f.cause 1 f.w6 f.w7 with
      access := f.access, stage := f.stage, va := va }
    s.putPend w { w.p with work := .engine op deps (some (uid, false)) }

/-- A request is accepted, or acts at the slice. -/
def State.engineDo (s : State) (w : Where) (op : EngineOp) (deps : List Nat) : State :=
  let d := s.inFlight deps
  match op with
  | .xreq p =>
    let (id, s) := s.fresh
    let (x, s) := s.draw
    let b := s.btu w.k.die w.shelf
    (s.setBtu { b with copies := b.copies ++ [⟨id, w.k.id, w.t.id / 128, p, false, 0, pktGranules p, [], deps, none, false, s.now + 1 + x⟩] }).putPend w
      (w.p.last (w.p.both Tok.order w.t.cyc) d)
  | .drvk shelf list g0 =>
    (s.kick w.k.die (w.k.shelf shelf) (DList.start w.k.id shelf (listRefOf list) [g0] deps)).putPend w
      (w.p.last (w.p.both Tok.order w.t.cyc) d)
  | .gtatt h desc =>
    s.engineAnswer w op deps (s.glazeAttach (w.agent 0xD8) h desc) fun g => [⟨w.p.ta, Tok.val g, w.t.cyc⟩, ⟨w.p.tb, Tok.order, w.t.cyc⟩]
  | .gtdet h pos =>
    s.engineAnswer w op deps (s.glazeDetach (w.agent 0xD9) h pos) fun g => [⟨w.p.ta, Tok.val g, w.t.cyc⟩, ⟨w.p.tb, Tok.order, w.t.cyc⟩]
  | .gtfld h desc => s.engineAnswer w op deps (s.foldStart (w.agent 0xDA) h desc) fun _ => w.p.both Tok.order w.t.cyc

/-- Issue a request; one that acts at the handle's slice reaches it after a free latency. -/
def Ctx.request (s : State) (c : Ctx) (far : Bool) (op : EngineOp) : State × Issue :=
  let (d, s) := if far then s.draw else (0, s)
  (s, { c.nothing with work := .engine op c.deps none, next := c.t.cyc + 1 + d })

/-- XREQ (R333): a packet that breaks R165 raises BTU_PACKET (R412). -/
def execXreq (p : Pred) (ta tb : Target) (s : State) : Host.Outcome State Fault Refusal :=
  onTileS s true p .neither ta tb fun s c =>
    let pkt : BitVec 256 := c.bd.pay ++ c.ad.pay
    match pktBad pkt with
    | some f => (s, c.stop 0x40 f (pktFld pkt 64 48))
    | none => Ctx.request s c false (.xreq pkt)

/-- DRVK (R334). -/
def execDrvk (p : Pred) (ta tb : Target) (named : BitVec 1) (shelf : BitVec 6) (s : State) : Host.Outcome State Fault Refusal :=
  onTileS s false p .neither ta tb fun s c =>
    Ctx.request s c false (.drvk (if named == 1 then shelf.toNat else c.t.id / 128) c.av c.bv)

/-- GTATT (R335). -/
def execGtatt (p : Pred) (ta tb : Target) (s : State) : Host.Outcome State Fault Refusal :=
  onTileS s false p .neither ta tb fun s c => Ctx.request s c true (.gtatt c.av c.bv)

/-- GTDET (R335). -/
def execGtdet (p : Pred) (ta tb : Target) (s : State) : Host.Outcome State Fault Refusal :=
  onTileS s false p .neither ta tb fun s c => Ctx.request s c true (.gtdet c.av c.bv)

/-- GTFLD (R336). -/
def execGtfld (p : Pred) (ta tb : Target) (s : State) : Host.Outcome State Fault Refusal :=
  onTileS s false p .neither ta tb fun s c => Ctx.request s c true (.gtfld c.av c.bv)

end Sys2Proof.Machine
end

