-- ==== Sys2Proof/Machine/Drover.lean ====
section
/-! DEFINITION. Drove lists: what a list's next command is, the data commands' walks and parts, and the meanings of the
drove-list commands (R337 to R355). -/

namespace Sys2Proof.Machine

/-! The running list. -/

/-- The drover that a command acts on: die, slice, the running list, its kiln. -/
structure DCtx where
  die : Nat
  slice : Nat
  l : DList
  k : Kiln
  deriving DecidableEq, Repr

/-- The running list of a drover, with its kiln. -/
def State.dctx? (s : State) (die slice : Nat) : Option DCtx :=
  match (s.drover die slice).run with
  | none => none
  | some l => (s.kiln? l.kiln).map fun k => ⟨die, slice, l, k⟩

/-- The drover that the cursor names. -/
def State.curDrover (s : State) : Option DCtx :=
  match s.cursor with
  | .die d n _ => s.dctx? d n
  | _ => none

/-- A drove-list command: an effect on the drover that the cursor names. -/
def onDrover (s : State) (f : State → DCtx → State) : Host.Outcome State Fault Refusal :=
  match s.curDrover with
  | none => .fault .noActor
  | some c => s.run fun s => f s c

/-- Replace the running list. -/
def State.putList (s : State) (c : DCtx) (l : Option DList) : State := s.setDrover { s.drover c.die c.slice with run := l }

/-- The list at another command; its next step comes after a free latency. -/
def State.listGo (s : State) (c : DCtx) (l : DList) (index : Nat) : State :=
  let (d, s) := s.draw
  s.putList c (some { l with index := index, word := none, pos := 0, buf := [], row := none, entry := none, waits := false, held := none, retry := false, at_ := s.now + 1 + d })

/-- The list after its present command. -/
def State.listNext (s : State) (c : DCtx) (l : DList) : State := s.listGo c l (c.l.index + 1)

/-- The list within its present command. -/
def State.listStay (s : State) (c : DCtx) (l : DList) : State :=
  let (d, s) := s.draw
  s.putList c (some { l with held := none, retry := false, at_ := s.now + 1 + d })

def DList.get (l : DList) (g : BitVec 4) : Word := l.g.getD g.toNat 0
def DList.put (l : DList) (g : BitVec 4) (v : Word) : DList := { l with g := l.g.set g.toNat v }

/-- The value that IMMB, IMMN and IMMT choose (R339). -/
def DList.src (l : DList) : DSrc → Word
  | .reg g => l.get g
  | .imm v => v

/-- The record of a drover (R413).
(DEDUCED, log 56.) -/
def DCtx.faultReq (c : DCtx) (cause cls elem w6 w7 : Nat) : FaultReq where
  cause := cause
  cls := cls
  die := c.die
  shelf := c.slice
  agent := 1
  w3 := elem % 2 ^ 32 + c.l.index % 2 ^ 16 * 2 ^ 48
  paddock := c.k.paddock
  kiln := c.k.id
  queue := c.k.queue
  w6 := w6
  w7 := w7

/-- The agent of a drover. -/
def DCtx.agent (c : DCtx) (op : Nat) : Agent :=
  ⟨c.k.paddock, some c.k.id, c.die, c.slice, .slice c.die c.slice, op, c.faultReq 0x29 2 0 0 0⟩

/-- A stop cause that a list raises: the list, by its kiln-relative shelf, stands where a tile's stop names its task. -/
def State.stopList (s : State) (c : DCtx) (f : FaultReq) : State := s.stopBy c.k.id f (2 ^ 13) 0 0 c.l.shelf

/-- A list's access is held, stops the kiln, or waits (R351, R412, R415). -/
def State.listTrouble {α : Type} (s : State) (c : DCtx) (elem : Nat) (r : Eng α) : State :=
  match r with
  | .ok _ _ => s
  | .wait u => s.putList c (some { c.l with at_ := u })
  | .stop 0x3F pa _ r => ((s.reached r).poisonSeen (c.faultReq 0x29 2 elem 0 0) pa).stopList c (c.faultReq 0x3F 0 0 0 0)
  | .stop cause a b r => (s.reached r).stopList c (c.faultReq cause 0 elem a b)
  | .hold f va r =>
    let (uid, s) := (s.reached r).postFault { c.faultReq f.cause 1 elem f.w6 f.w7 with access := f.access, stage := f.stage, va := va % 2 ^ 48 }
    s.putList c (some { c.l with held := some uid, retry := false })

/-! The next command (R338, R339, R342, R395). -/

/-- Checks of a list reached by VA as it runs (R339, R352): the tile and wicket, which some context of the charge declares, and the
converter in force. -/
def State.listBad (s : State) (c : DCtx) (i : Instr) : Bool :=
  let conv := fun fmt : BitVec 4 => match c.l.conv with
    | some (src, _, _, _) => src != fmt.toNat
    | none => false
  match i with
  | .dwick tile w bind => bind == 1 &&
      !((s.image? c.k.charge).any fun im => im.wickets.any fun x => x.id == tile.toNat && x.index == w.toNat)
  | .dpush _ _ _ fmt _ _ _ _ => conv fmt
  | .dgath _ _ _ _ fmt _ _ _ => conv fmt
  | .dpull _ _ _ fmt _ _ => conv fmt
  | .dcopy _ _ _ fmt _ => conv fmt
  | .dgtld _ _ _ _ _ _ => conv 7
  | _ => false

/-- What a drover's running list does next: a command, or a state after a fault of reaching it. -/
inductive DNext where
  | cmd (i : Instr) (s : State)
  | none_ (s : State)

/-- Read the present command of a running list (R338). -/
def State.droverNext (s : State) (c : DCtx) : DNext :=
  let bad := fun (s : State) (op : Nat) => DNext.none_ (s.stopList c (c.faultReq 0x41 0 0 c.l.index op))
  match c.l.ref with
  | .charge n =>
    match ((s.image? c.k.charge).bind fun im => im.lists[n]?).bind fun x => x.cmds[c.l.index]? with
    | none => bad s 0
    | some w =>
      match decodeDroveNat w with
      | .ok i => .cmd i s
      | .error _ => bad s (fld w 120 8)
  | .va a =>
    let go := fun (s : State) (w : Nat) =>
      match decodeDroveNat w with
      | .error _ => bad s (fld w 120 8)
      | .ok i => if c.l.word.isNone && s.listBad c i then bad s (fld w 120 8)
        else .cmd i (s.putList c (some { c.l with word := some w, held := none, retry := false }))
    match c.l.word with
    | some w => go s w
    | none =>
      match s.engNum (c.agent 0) (a + 16 * c.l.index) 16 with
      | .ok w s => go s w
      | r => .none_ (s.listTrouble c 0 r)

/-! Walks (R164, R343). -/

/-- The coordinate of an iteration index in a dimension, if it is in range. -/
def coordOf (start : Int) (i ext : Nat) (circ : Bool) : Option Nat :=
  let x := start + i
  let x := if circ then x % (ext : Int) else x
  if 0 ≤ x && x < ext then some x.toNat else none

/-- The iteration indices of element `e`, dimension 0 fastest. -/
def idxOf : List PatDim → Nat → List Nat
  | [], _ => []
  | d :: r, e => e % max 1 d.count :: idxOf r (e / max 1 d.count)

/-- The number of elements of a walk. -/
def walkCount (ds : List PatDim) : Nat := ds.foldl (fun n d => n * d.count) 1

/-- All the coordinates, if each is in range. -/
def allSome {α : Type} : List (Option α) → Option (List α)
  | [] => some []
  | none :: _ => none
  | some x :: r => (allSome r).map (x :: ·)

/-- The coordinates of element `e` of a walk, if they are in range. -/
def walkCoords (ds : List PatDim) (e : Nat) : Option (List Nat) :=
  allSome ((ds.zip (idxOf ds e)).map fun p => coordOf p.1.start p.2 p.1.extent p.1.circ)

/-- The address of element `e` of a walk, if it is in range. -/
def walkAt (ds : List PatDim) (base : Word) (e : Nat) : Option Nat :=
  (walkCoords ds e).map fun xs =>
    (((base.toNat : Int) + ((xs.zip ds).map fun (p : Nat × PatDim) => (p.1 : Int) * p.2.stride).sum) % 2 ^ 64).toNat

/-! Data commands (R346 to R349). -/

/-- A data command whose output goes to a destination of R344, or DCOPY. -/
inductive DataCmd where
  | push (base : Word) (fmt : Nat) (oc : Bool)
  | gath (base index : Word) (fmt : Nat)
  | gtld
  deriving DecidableEq, Repr

/-- The format of a data command's elements: DGTLD's stand in FP32. -/
def DataCmd.fmt : DataCmd → Nat
  | .push _ f _ | .gath _ _ f => f
  | .gtld => 7

/-- The output format (R346, R347). -/
def DList.outFmt (l : DList) (c : DataCmd) : Nat :=
  match l.conv with
  | some (_, dst, _, _) => dst
  | none => match c with
    | .gtld => entFmt (l.entry.getD [])
    | c => c.fmt

/-- An element in the output format (R346, R347). -/
def DList.outBits (l : DList) (c : DataCmd) (v : Option Nat) : Nat :=
  match v with
  | none => if l.outFmt c == 0xC then 0x77 else 0
  | some n =>
    match l.conv with
    | some (src, dst, mode, sat) => convertElem src dst mode sat n
    | none => match c with
      | .gtld => if l.outFmt c == 7 then n else convertElem 7 (l.outFmt c) 0 false n
      | _ => n

/-- The row of DGATH that element `e` belongs to, with its index (R348): read once, when the walk comes to the row. -/
def State.rowIndex (s : State) (g : Agent) (l : DList) (ds : List PatDim) (c : DataCmd) (e : Nat) : Eng (Option (Nat × Nat)) :=
  match c with
  | .gath _ index _ =>
    let j := e / walkCount (ds.drop 1)
    if (l.row.map Prod.fst) == some j then .ok l.row s
    else (s.engNum g ((index.toNat + 4 * j) % 2 ^ 64) 4).next fun x s => .ok (some (j, x)) s
  | _ => .ok none s

/-- On-chip bytes from `a` on, as the list's own output that is read and not yet written leaves them (R353): `at_` gives the
kiln-relative address of each output byte. -/
def DList.overlay (l : DList) (at_ : Nat → Option Nat) (a : Nat) (bs : List Byte) : List Byte :=
  bs.zipIdx.map fun x => (((l.buf.zipIdx.find? fun y => at_ (l.pos + y.2) == some (a + x.2))).map Prod.fst).getD x.1

/-- Read element `e` of a data command (R346 to R348). -/
def State.dataElem (s : State) (g : Agent) (l : DList) (ds : List PatDim) (at_ : Nat → Option Nat) (c : DataCmd) (e : Nat) :
    Eng (Option Nat) :=
  match c with
  | .push base fmt oc =>
    match walkAt ds base e with
    | none => .ok none s
    | some a =>
      if oc then
        (if ocForm a then
          (s.engOcRead g (a % 2 ^ 45) (fmtWidth fmt / 8)).next fun bs s => .ok (some (leNat (l.overlay at_ (a % 2 ^ 45) bs))) s
        else .stop 0x20 g.op a)
      else (s.engNum g a (fmtWidth fmt / 8)).next fun n s => .ok (some n) s
  | .gath base _ fmt =>
    let d0 := ds.getD 0 PatDim.blank
    let x := (l.row.map Prod.snd).getD 0
    let x := if d0.circ then x % d0.extent else x
    if d0.extent ≤ x then .ok none s
    else
      match walkAt (ds.drop 1) (base + BitVec.ofInt 64 ((x : Int) * d0.stride)) (e % walkCount (ds.drop 1)) with
      | none => .ok none s
      | some a => (s.engNum g a (fmtWidth fmt / 8)).next fun n s => .ok (some n) s
  | .gtld =>
    let ent := l.entry.getD []
    match allSome ((ds.zip (idxOf ds e)).zipIdx.map fun p => coordOf p.1.1.start p.1.2 (entExt ent p.2) ((entCirc ent).testBit p.2)) with
    | none => .ok none s
    | some xs => (s.glazeElem g ent xs).next fun n s => .ok (some n) s

/-- The bytes of an output element. -/
def DList.width (l : DList) (c : DataCmd) : Nat := fmtWidth (l.outFmt c) / 8

/-- The element that a list reads next. -/
def DList.elem (l : DList) (c : DataCmd) : Nat := (l.pos + l.buf.length) / l.width c

/-- Read elements until `n` output bytes stand ready; what was read stays read when an access has to wait (R351, R415).
(DEDUCED, log 58.) -/
def State.fillBuf (s : State) (g : Agent) (ds : List PatDim) (at_ : Nat → Option Nat) (c : DataCmd) (n : Nat) :
    Nat → DList → State × DList × Eng Unit
  | 0, l => (s, l, .ok () s)
  | fuel + 1, l =>
    if n ≤ l.buf.length then (s, l, .ok () s)
    else
      let g := g.atElem (l.elem c)
      match s.rowIndex g l ds c (l.elem c) with
      | .ok row s =>
        let l := { l with row := row }
        match s.dataElem g l ds at_ c (l.elem c) with
        | .ok v s => s.fillBuf g ds at_ c n fuel { l with buf := l.buf ++ leBytes (l.width c) (l.outBits c v) }
        | r => (s, l, r.next fun _ s => .ok () s)
      | r => (s, l, r.next fun _ s => .ok () s)

/-- The wicket that a list is bound to, and whether its window admits a stream chunk (R145, R344). -/
def DCtx.wicket? (c : DCtx) : Option (Nat × Wicket) :=
  match c.l.binding with
  | none => none
  | some (t, n) => ((c.k.tile? t).bind fun tl => tl.wickets.find? fun x => x.1 == n).map fun x => (t, x.2)

def Wicket.admits (w : Wicket) (i : Nat) : Bool := i < w.seen + w.window

/-- The chunk that a push's next byte belongs to is admitted, or the list is not bound. -/
def DCtx.admitted (c : DCtx) (d : Nat) : Bool :=
  match c.l.binding with
  | none => true
  | some _ => (c.wicket?.map fun w => w.2.admits ((d + c.l.pos) % 2 ^ 64 / 512)).getD false

/-- The destination of R344: IMM64 and, with DGEN, a register. -/
def DList.dest (l : DList) (dgen : BitVec 1) (gd : BitVec 4) (imm : Word) : Nat := (imm + (if dgen == 1 then l.get gd else 0)).toNat

/-- The place of byte `q` of a bound push in its wicket: tile, chunk of the region, offset (R145, R344). -/
def DCtx.windowAt (c : DCtx) (q : Nat) : Option (Nat × Nat × Nat) :=
  c.wicket?.map fun x => (x.1, x.2.base + q / 512 % max 1 x.2.chunks, q % 512)

/-- The kiln-relative address of output byte `p` of a push to `d`. -/
def DCtx.outAt (c : DCtx) (d p : Nat) : Option Nat :=
  let q := (d + p) % 2 ^ 64
  match c.l.binding with
  | none => if ocForm q then some (q % 2 ^ 45) else none
  | some _ => (c.windowAt q).map fun x => relAddr x.1 0 (x.2.1 * 512 + x.2.2)

/-- Write a granule of a push; with its last byte in a chunk, `last`, the chunk is marked as arrived (R143, R344, R345). -/
def State.pushWrite (s : State) (c : DCtx) (g : Agent) (d : Nat) (bs : List Byte) (dom last : Bool) : Eng Unit :=
  let q := (d + c.l.pos) % 2 ^ 64
  match c.l.binding with
  | none =>
    if !ocForm q then .stop 0x20 g.op q
    else (s.engOcWrite g (q % 2 ^ 45) bs dom).next fun _ s =>
      if last && fld q 29 3 == 0 && fld q 32 7 < 64 then .ok () (s.modTile c.k.id (fld q 32 13) fun t => t.setArrived (fld q 0 29 / 512) true)
      else .ok () s
  | some _ =>
    match c.windowAt q with
    | none => .ok () s
    | some (t, chunk, off) =>
      let s := s.windowWriteN c.k.id t 0 (chunk * 512 + off) bs dom
      .ok () (if last then s.modTile c.k.id t fun tl => tl.setArrived chunk true else s)

/-- The list has written `n` units of `total` of its command. -/
def State.listWrote (s : State) (c : DCtx) (l : DList) (n used total : Nat) : State :=
  if total ≤ l.pos + n then s.listNext c l else s.listStay c { l with pos := l.pos + n, buf := l.buf.drop used }

/-- One part of DPUSH, DGATH or DGTLD: the output bytes that fall in one destination granule (R344 to R348, R355).
(DEDUCED, log 55.) -/
def State.pushPart (s : State) (c : DCtx) (g : Agent) (ds : List PatDim) (cmd : DataCmd) (d : Nat) (dom : Bool) : State :=
  let total := walkCount ds * c.l.width cmd
  let n := min (total - c.l.pos) (16 - (d + c.l.pos) % 16)
  if !c.admitted d then s.putList c (some { c.l with waits := true, held := none, retry := false })
  else
    let (s, l, r) := s.fillBuf g ds (c.outAt d) cmd n 16 c.l
    let last := total ≤ l.pos + n || (d + l.pos + n) % 512 == 0
    match r.next fun _ s => s.pushWrite c g d (l.buf.take n) dom last with
    | .ok _ s => s.listWrote c l n n total
    | r => s.listTrouble { c with l := l } (if n ≤ l.buf.length then l.pos / l.width cmd else l.elem cmd) r

/-- One part of DCOPY: an output element (R346, R355). -/
def State.copyPart (s : State) (c : DCtx) (g : Agent) (ds : List PatDim) (cmd : DataCmd) (d : Nat) : State :=
  let z := c.l.width cmd
  let (s, l, r) := s.fillBuf g ds (fun _ => none) cmd z 1 c.l
  match r.next fun _ s => s.engWrite g ((d + l.pos) % 2 ^ 64) l.buf with
  | .ok _ s => s.listWrote c l z z (walkCount ds * z)
  | r => s.listTrouble { c with l := l } (l.pos / z) r

/-- Read an element of DPULL, in its output format (R346). -/
def State.pullRead (s : State) (g : Agent) (l : DList) (base : Word) (fmt q : Nat) : Eng (List Byte) :=
  let cmd := DataCmd.push base fmt true
  if !l.buf.isEmpty then .ok l.buf s
  else if !ocForm q then .stop 0x20 g.op q
  else (s.engOcRead g (q % 2 ^ 45) (fmtWidth fmt / 8)).next fun bs s => .ok (leBytes (l.width cmd) (l.outBits cmd (some (leNat bs)))) s

/-- One part of DPULL: an element, which is not written where it is out of range (R346). -/
def State.pullPart (s : State) (c : DCtx) (g : Agent) (ds : List PatDim) (base : Word) (fmt d : Nat) : State :=
  let e := c.l.pos
  match walkAt ds base e with
  | none => s.listWrote c c.l 1 0 (walkCount ds)
  | some a =>
    match s.pullRead (g.atElem e) c.l base fmt ((d + e * (fmtWidth fmt / 8)) % 2 ^ 64) with
    | .ok bs s =>
      match s.engWrite g a bs with
      | .ok _ s => s.listWrote c { c.l with buf := bs } 1 bs.length (walkCount ds)
      | r => s.listTrouble { c with l := { c.l with buf := bs } } e r
    | r => s.listTrouble c e r

/-- A pattern register. -/
def DList.pat (l : DList) (pr : BitVec 2) : List PatDim := l.p.getD pr.toNat (List.replicate 4 PatDim.blank)

/-- The destination of a data command (R344, R346); a DPULL's is its on-chip source. -/
def DList.to (l : DList) (i : Instr) : Nat :=
  match i with
  | .dpush _ _ gd _ _ dgen _ imm => l.dest dgen gd imm
  | .dpull _ _ gd _ dgen imm => l.dest dgen gd imm
  | .dgath _ _ _ gd _ dgen _ imm => l.dest dgen gd imm
  | .dgtld _ _ gd dgen _ imm => l.dest dgen gd imm
  | .dcopy _ _ gd _ imm => (l.get gd + imm).toNat
  | _ => 0

/-- A part of a data command (R346 to R348); DGTLD captures its entry first (R170, R347). -/
def State.dataDo (s : State) (c : DCtx) (i : Instr) : State :=
  let l := c.l
  match i with
  | .dpush pr ga _ fmt srcoc _ dom _ =>
    s.pushPart c (c.agent 0x0A) (l.pat pr) (.push (l.get ga) fmt.toNat (srcoc == 1)) (l.to i) (dom == 1)
  | .dpull pr ga _ fmt _ _ => s.pullPart c (c.agent 0x0B) (l.pat pr) (l.get ga) fmt.toNat (l.to i)
  | .dgtld pr ga _ _ dom _ =>
    match l.entry with
    | some _ => s.pushPart c (c.agent 0x0C) (l.pat pr) .gtld (l.to i) (dom == 1)
    | none =>
      match s.captureEntry (c.agent 0x0C) (l.get ga) with
      | .ok e s => s.listStay c { l with entry := some e }
      | r => s.listTrouble c 0 r
  | .dgath pr ga gb _ fmt _ dom _ =>
    s.pushPart c (c.agent 0x0D) (l.pat pr) (.gath (l.get ga) (l.get gb) fmt.toNat) (l.to i) (dom == 1)
  | .dcopy pr ga _ fmt _ => s.copyPart c (c.agent 0x13) (l.pat pr) (.push (l.get ga) fmt.toNat false) (l.to i)
  | _ => s

/-! When a list may go on. -/

/-- Whether a list's present command, once read, would only wait: DWAITC below its threshold, a push that waits for its
window, or the wait that PUSH_RESUME ends. -/
def State.listWaits (s : State) (c : DCtx) (i : Instr) : Bool :=
  c.l.waits ||
  (match i with
   | .dwaitc ctr src => (s.counter c.k.paddock ctr.toNat).toNat < (c.l.src src).toNat
   | _ => false)

/-- Whether the running list of a drover may act now. -/
def State.listReady (s : State) (c : DCtx) : Bool := c.k.enginesRun && c.l.at_ ≤ s.now && (c.l.held.isNone || c.l.retry)

/-- Whether a push that waits may go on (R344). -/
def DCtx.resumes (c : DCtx) (i : Instr) : Bool :=
  c.l.waits && c.k.enginesRun &&
  (match i with
   | .dpush _ _ _ _ _ _ _ _ | .dgath _ _ _ _ _ _ _ _ | .dgtld _ _ _ _ _ _ => c.admitted (c.l.to i)
   | _ => true)

/-- Whether a list stands where a freeze or a retirement leaves it (R53, R355, R388): at a command boundary. -/
def DList.atBoundary (l : DList) : Bool := l.pos == 0 && l.buf.isEmpty && l.row.isNone

/-- Whether a list cannot go on within its command: it waits for a window, or at a held access. -/
def DList.blocked (l : DList) : Bool := l.waits || (l.held.isSome && !l.retry)

/-! Meanings. -/

/-- DNOP (R341). -/
def execDnop (s : State) : Host.Outcome State Fault Refusal := onDrover s fun s c => s.listNext c c.l

/-- DHALT (R341): the list ends. -/
def execDhalt (s : State) : Host.Outcome State Fault Refusal := onDrover s fun s c => s.putList c none

/-- DSET (R341). -/
def execDset (gd : BitVec 4) (imm : BitVec 64) (s : State) : Host.Outcome State Fault Refusal :=
  onDrover s fun s c => s.listNext c (c.l.put gd imm)

/-- DADD (R341). -/
def execDadd (gd ga : BitVec 4) (src : DSrc) (s : State) : Host.Outcome State Fault Refusal :=
  onDrover s fun s c => s.listNext c (c.l.put gd (c.l.get ga + c.l.src src))

/-- DMOV (R341). -/
def execDmov (gd ga : BitVec 4) (s : State) : Host.Outcome State Fault Refusal :=
  onDrover s fun s c => s.listNext c (c.l.put gd (c.l.get ga))

/-- DLOOP (R342). -/
def execDloop (gd : BitVec 4) (src : DSrc) (tgt : BitVec 16) (s : State) : Host.Outcome State Fault Refusal :=
  onDrover s fun s c =>
    let n := c.l.src src
    s.listGo c (c.l.put gd n) (if n == 0 then tgt.toNat else c.l.index + 1)

/-- DNEXT (R342). -/
def execDnext (gd : BitVec 4) (tgt : BitVec 16) (s : State) : Host.Outcome State Fault Refusal :=
  onDrover s fun s c =>
    let n := c.l.get gd - 1
    s.listGo c (c.l.put gd n) (if n != 0 then tgt.toNat else c.l.index + 1)

/-- DJMP (R342). -/
def execDjmp (tgt : BitVec 16) (s : State) : Host.Outcome State Fault Refusal := onDrover s fun s c => s.listGo c c.l tgt.toNat

/-- DJZ (R342). -/
def execDjz (ga : BitVec 4) (tgt : BitVec 16) (s : State) : Host.Outcome State Fault Refusal :=
  onDrover s fun s c => s.listGo c c.l (if c.l.get ga == 0 then tgt.toNat else c.l.index + 1)

/-- DPAT (R343). -/
def execDpat (pr dim : BitVec 2) (circ : BitVec 1) (count : BitVec 16) (stride : BitVec 32) (extent start : BitVec 16) (s : State) :
    Host.Outcome State Fault Refusal :=
  onDrover s fun s c =>
    let d : PatDim := ⟨start.toInt, count.toNat + 1, extent.toNat + 1, stride.toInt, circ == 1⟩
    s.listNext c { c.l with p := c.l.p.set pr.toNat ((c.l.pat pr).set dim.toNat d) }

/-- DPUSH (R346). -/
def execDpush (pr : BitVec 2) (ga gd fmt : BitVec 4) (srcoc dgen dom : BitVec 1) (imm : BitVec 64) (s : State) : Host.Outcome State Fault Refusal :=
  onDrover s fun s c => s.dataDo c (.dpush pr ga gd fmt srcoc dgen dom imm)

/-- DPULL (R346). -/
def execDpull (pr : BitVec 2) (ga gd fmt : BitVec 4) (dgen : BitVec 1) (imm : BitVec 64) (s : State) : Host.Outcome State Fault Refusal :=
  onDrover s fun s c => s.dataDo c (.dpull pr ga gd fmt dgen imm)

/-- DGTLD (R347): the entry is captured when the command starts (R170). -/
def execDgtld (pr : BitVec 2) (ga gd : BitVec 4) (dgen dom : BitVec 1) (imm : BitVec 64) (s : State) : Host.Outcome State Fault Refusal :=
  onDrover s fun s c => s.dataDo c (.dgtld pr ga gd dgen dom imm)

/-- DGATH (R348). -/
def execDgath (pr : BitVec 2) (ga gb gd fmt : BitVec 4) (dgen dom : BitVec 1) (imm : BitVec 64) (s : State) : Host.Outcome State Fault Refusal :=
  onDrover s fun s c => s.dataDo c (.dgath pr ga gb gd fmt dgen dom imm)

/-- DWICK (R344). -/
def execDwick (tile : BitVec 13) (wicket : BitVec 4) (bind : BitVec 1) (s : State) : Host.Outcome State Fault Refusal :=
  onDrover s fun s c => s.listNext c { c.l with binding := if bind == 1 then some (tile.toNat, wicket.toNat) else none }

/-- DSIG (R353): every access of the earlier commands has performed at its owner. -/
def execDsig (ctr : BitVec 12) (inc : BitVec 16) (s : State) : Host.Outcome State Fault Refusal :=
  onDrover s fun s c => (s.addCounter c.k.paddock ctr.toNat inc.toNat).listNext c c.l

/-- DWAITC (R353): below the threshold the list stays where it is. -/
def execDwaitc (ctr : BitVec 12) (src : DSrc) (s : State) : Host.Outcome State Fault Refusal :=
  onDrover s fun s c => if (c.l.src src).toNat ≤ (s.counter c.k.paddock ctr.toNat).toNat then s.listNext c c.l else s

/-- DFENCE (R353): the accesses of the earlier commands have performed at every scope. -/
def execDfence (_scope : BitVec 3) (s : State) : Host.Outcome State Fault Refusal := onDrover s fun s c => s.listNext c c.l

/-- DFOLD (R350). -/
def execDfold (ga gb : BitVec 4) (s : State) : Host.Outcome State Fault Refusal :=
  onDrover s fun s c =>
    match s.foldStart (c.agent 0x12) (c.l.get ga) (c.l.get gb) with
    | .ok _ s => s.listNext c c.l
    | r => s.listTrouble c 0 r

/-- DCOPY (R346). -/
def execDcopy (pr : BitVec 2) (ga gd fmt : BitVec 4) (imm : BitVec 64) (s : State) : Host.Outcome State Fault Refusal :=
  onDrover s fun s c => s.dataDo c (.dcopy pr ga gd fmt imm)

/-- DPREF (R349): only its timing would show.
(DEDUCED, log 57.) -/
def execDpref (_pr : BitVec 2) (_ga _fmt : BitVec 4) (s : State) : Host.Outcome State Fault Refusal :=
  onDrover s fun s c => s.listNext c c.l

/-- DCONV (R352). -/
def execDconv (src dst : BitVec 4) (mode : BitVec 3) (sat on : BitVec 1) (s : State) : Host.Outcome State Fault Refusal :=
  onDrover s fun s c =>
    s.listNext c { c.l with conv := if on == 1 then some (src.toNat, dst.toNat, mode.toNat, sat == 1) else none }

end Sys2Proof.Machine
end

