-- ==== Sys2Proof/Machine/Waits.lean ====
section
/-! DEFINITION. Issued instructions under way: when a waiting instruction may go on and what it then does (R281, R285, R288 to
R290, R298 to R304), and the events of the table that a tile's tasks and instructions raise (BLOCK_FIRE to FWSVC_RESULT,
AROW_CONSUMED, the STU's events, BELL_RELEASE, ACCESS_RESPONSE). -/

namespace Sys2Proof.Machine

/-! What a waiting instruction does. -/

/-- Whether an instruction takes from a queue or adds to one, in a cycle of the queue (R357). -/
def Work.isQueue : Work → Bool
  | .queue (.push _ _) _ | .queue (.pop _ _) _ | .queue (.lnch _ _) _ => true
  | _ => false

/-- Whether it takes from a queue: those come first in a cycle (R357). -/
def Work.isPop : Work → Bool
  | .queue (.pop _ _) _ => true
  | _ => false


/-- Whether a queue or counter instruction may act now (R299 to R303, R391). -/
def State.queueOpReady (s : State) (w : Where) (op : QueueOp) (deps : List Nat) : Bool :=
  let closed := fun q => ((s.queue? q).map QueueSt.closed).getD true
  match op with
  | .push q r => closed q || (s.performed w.k.id deps 3 && (s.pushRec q r none).isSome)
  | .pop q _ => closed q || ((s.queue? q).map fun x => x.canPop s.now).getD false
  | .len _ => true
  | .lnch q r => closed q || (s.performed w.k.id deps 3 && ((s.launchCheck w.k.paddock r).isSome || (s.enqueueLaunch q r none).isSome))
  | .closed _ _ => true
  | .sigc _ _ => s.performed w.k.id deps 4
  | .waitc c th => th.toNat ≤ (s.counter w.k.paddock c).toNat

/-- The keeps that a popped record goes to, written in the cycle of the order tokens (R299). -/
def popSends (r : Rec8) (k due : Nat) : List Send :=
  (List.range 4).map fun i =>
    ⟨.keep (BitVec.ofNat 6 (k + i)), .data (DTok.record (payOf (((recBytes r).drop (16 * i)).take 16)) false), due⟩

/-- A queue or counter instruction acts; its results leave in the tile's present cycle, or the next one where it acts between two. -/
def State.queueOpDo (s : State) (w : Where) (op : QueueOp) (deps : List Nat) : State :=
  let d := s.inFlight deps
  let closed := fun q => ((s.queue? q).map QueueSt.closed).getD true
  let cyc := w.t.cyc
  match op with
  | .push q r =>
    if closed q then s.stopAt w 0x09 q 0x95
    else
      match s.pushRec q r none with
      | some s => s.putPend w (w.p.last (w.p.both Tok.order cyc) d)
      | none => s
  | .pop q k =>
    if closed q then s.stopAt w 0x09 q 0x96
    else
      match s.popRec q with
      | some (r, s) => s.putPend w (w.p.last (popSends r k cyc ++ w.p.both Tok.order cyc) d)
      | none => s
  | .len q =>
    s.putPend w (w.p.last (w.p.both (Tok.val (BitVec.ofNat 64 (((s.queue? q).map QueueSt.occupancy).getD 0))) cyc) d)
  | .lnch q r =>
    if closed q then s.stopAt w 0x09 q 0x98
    else
      match s.launchCheck w.k.paddock r with
      | some n => s.stopAt w 0x0A n r.w0.toNat
      | none =>
        match s.enqueueLaunch q r none with
        | some s => s.putPend w (w.p.last (w.p.both Tok.order cyc) d)
        | none => s
  | .closed q op => s.stopAt w 0x09 q op
  | .sigc c inc => (s.addCounter w.k.paddock c inc).putPend w (w.p.last (w.p.both Tok.order cyc) d)
  | .waitc c _ => s.putPend w (w.p.last [⟨w.p.ta, Tok.val (s.counter w.k.paddock c), cyc⟩, ⟨w.p.tb, Tok.order, cyc⟩] d)

/-- ACRD and ACWR act (R288, R421). -/
def State.accumDo (s : State) (w : Where) (row qr : Nat) (wr : Option Tok) : State :=
  let off := 256 * row + 16 * qr
  let due := w.t.cyc + 2
  let d := s.inFlight w.p.deps
  match wr with
  | some x =>
    let s := match x with
      | .data t => if t.isRecord then s.ocWrite w.k.id w.t.id 1 off (payBytes t.pay) else s
      | .ctl _ => s
    s.putPend w (w.p.last (w.p.both x due) d)
  | none =>
    let dom := w.t.mode == 2
    if s.ocPoisoned w.k.id w.t.id 1 off 16 then
      (s.poisonSeen w.req (w.k.pa w.t.id 1 off)).putPend w
        (w.p.last (w.p.both (.data (DTok.void true false 0)) due) d)
    else
      let (bs, s) := s.ocRead w.k.id w.t.id 1 off 16
      s.putPend w (w.p.last (w.p.both (.data (DTok.record (payOf bs) dom)) due) d)

/-- ACCLR zeroes the accumulator (R288). -/
def State.acclrDo (s : State) (w : Where) : State :=
  let s := (List.range 4).foldl (fun s i => s.ocWrite w.k.id w.t.id 1 (4096 * i) (List.replicate 4096 0)) s
  s.putPend w (w.p.last (w.p.both Tok.order (max w.p.doneAt w.t.cyc)) (s.inFlight w.p.deps))

/-- A wicket of a tile. -/
def TileSt.wicket? (t : TileSt) (n : Nat) : Option Wicket := (t.wickets.find? fun x => x.1 == n).map Prod.snd

/-- The chunks of a run of a wicket's region (R289, R145). -/
def Wicket.run (w : Wicket) (first n : Nat) : List Nat := (List.range n).map fun i => w.base + (first + i) % max 1 w.chunks

/-- WADV (R145, R290). -/
def TileSt.wadv (t : TileSt) (n m : Nat) : TileSt :=
  match t.wicket? n with
  | none => t
  | some w =>
    let t := (w.run w.consumed m).foldl (fun t c => t.setArrived c false) t
    { t with wickets := updateWhere (fun x => x.1 == n) (fun x => (x.1, { x.2 with consumed := x.2.consumed + m })) t.wickets }

/-- The request-bitmap word of BMWAIT (R304). -/
def State.bitmapWord (s : State) (w : Where) (ea : Nat) : Word := BitVec.ofNat 64 (leNat (s.ocRead w.k.id w.t.id 0 ea 8).1)

/-- Whether a waiting instruction finds its condition met in the present cycle (R281). -/
def State.workReady (s : State) (w : Where) : Bool :=
  let due := w.p.next ≤ w.t.cyc
  let free := due && !w.t.fenced w.p.no
  (!w.p.work.inScratchpad || !s.windowBusy w) &&
  match w.p.work with
  | .finish | .trapped | .access _ | .bell _ _ | .timer _ | .fwsvc _ _ _ => false
  | .wacc _ _ _ _ _ _ _ | .wincl _ _ _ _ _ _ | .cmac _ _ _ _ => false
  | .lgen _ _ _ _ _ _ | .lgen2 _ _ _ _ _ _ _ _ _ | .spscn _ _ _ _ _ _ => w.genReady
  | .rptc base _ _ => s.rptcReady w base
  | .rpte base cap r rep e run => s.rpteReady w base cap r rep e run
  | .adrn row t _ got => s.adrnReady w row t got
  | .scratch eas op fs deps start => s.scratchReady w eas op fs deps start
  | .accum row _ _ => due && !w.t.rowBusy w.p.no (some row)
  | .acclr => due && !w.t.rowBusy w.p.no none
  | .wick n first m => free && ((w.t.wicket? n).map fun x => (x.run first m).all fun c => w.t.arrived.contains c).getD false
  | .wadv _ _ deps => free && s.performed w.k.id deps 1
  | .bmwait ea mask => free && w.t.step4.isNone && s.bitmapWord w ea &&& mask == mask
  | .portWait r _ held => s.portReady w r held
  | .fence scope => due && s.fenceDone w.k w.t w.p.no scope
  | .queue op deps => due && s.queueOpReady w op deps
  | .engine op deps held => s.engineReady w op deps held
  | .take plane vc => s.takeReady w plane vc
  | .itgate vc _ _ _ => s.takeReady w false vc
  | .cnttk _ _ _ _ at_ => at_ ≤ w.t.cyc
  | .joink vcl vcr k _ => s.joinNext w vcl vcr k != .wait
  | .wld bank fmt vc j _ => s.wldReady w bank fmt vc j
  | .wlds bank fmt _ j _ => wldsReady w bank fmt j
  | .arow _ _ fmt _ _ got c _ => arowReadReady w fmt got c && s.storesLanded w
  | .azero rows => azeroReady w rows
  | .stu queued _ _ _ _ _ => free && !queued

/-- What a waiting instruction does when its condition is met. -/
def State.workDo (s : State) (w : Where) : State :=
  match w.p.work with
  | .finish | .trapped | .access _ | .bell _ _ | .timer _ | .fwsvc _ _ _ => s
  | .wacc _ _ _ _ _ _ _ | .wincl _ _ _ _ _ _ | .cmac _ _ _ _ => s
  | .lgen _ _ _ _ _ _ | .lgen2 _ _ _ _ _ _ _ _ _ | .spscn _ _ _ _ _ _ => s.genDo w
  | .rptc base cap tok => s.rptcDo w base cap tok
  | .rpte base cap r rep e run => s.rpteDo w base cap r rep e run
  | .adrn row t clr got => s.adrnDo w row t clr got
  | .scratch eas op fs deps _ => s.scratchDo w eas op fs deps
  | .accum row qr wr => s.accumDo w row qr wr
  | .acclr => s.acclrDo w
  | .wick _ _ _ => s.putPend w (w.p.last (w.p.both Tok.order (w.t.cyc + 1)) (s.inFlight w.p.deps))
  | .wadv n m deps =>
    (s.modTile w.k.id w.t.id fun t => t.wadv n m).putPend w (w.p.last (w.p.both Tok.order (w.t.cyc + 1)) (s.inFlight deps))
  | .bmwait ea _ => (s.ensure w.k.id w.t.id 0 ea).putPend w (w.p.last (w.p.both Tok.order (w.t.cyc + 1)) (s.inFlight w.p.deps))
  | .portWait r taken _ => s.portDo w r taken
  | .fence _ => s.putPend w (w.p.last (w.p.both Tok.order w.t.cyc) (s.inFlight w.p.deps))
  | .queue op deps => s.queueOpDo w op deps
  | .engine op deps _ => s.engineDo w op deps
  | .take plane vc => s.takeDo w plane vc
  | .itgate vc left tok last => s.itgateDo w vc left tok last
  | .cnttk ctr inc lv dpl _ => s.cnttkDo w ctr inc lv dpl
  | .joink vcl vcr k emit => s.joinDo w vcl vcr k emit
  | .wld bank fmt vc j n => s.wldDo w bank fmt vc j n
  | .wlds bank fmt ea j n => s.wldsDo w bank fmt ea j n
  | .arow row ea fmt wfmt bank got c _ => s.arowRead w row ea fmt wfmt bank got c
  | .azero rows => s.azeroDo w rows
  | .stu _ inv fmt conv src dst => s.stuEnter w inv fmt conv src dst

/-- The steps of R285 in which work reads or writes scratchpad granules: 1 a read, 2 a WAITC load, 3 a store; 0 otherwise. -/
def Work.granuleStep : Work → Nat
  | .scratch _ op fs _ _ => if op.isRead then (if fs == 2 then 2 else 1) else 3
  | .bmwait _ _ | .wlds _ _ _ _ _ => 1
  | .arow _ _ _ _ _ _ _ none => 1
  | _ => 0

/-- Work that acts when it completes: WACC, WINCL, CMAC (R322, R323, R331). -/
def State.lateReady (w : Where) : Bool :=
  match w.p.work with
  | .wacc _ _ _ _ _ _ at_ | .wincl _ _ _ _ _ at_ | .cmac _ _ _ at_ => at_ ≤ w.t.cyc
  | _ => false

def State.lateDo (s : State) (w : Where) : State :=
  match w.p.work with
  | .wacc acc wk wen sat fp tok _ => s.waccDo w acc wk wen sat fp tok
  | .wincl zl k sat fp tok _ => s.winclDo w zl k sat fp tok
  | .cmac fmt pay d _ => s.cmacDo w fmt pay d
  | _ => s

/-- Whether TIMER's deadline has come, or the management cores answer (R248, R249). -/
def State.timerReady (w : Where) : Bool :=
  match w.p.work with
  | .timer d => d.toNat ≤ w.t.cyc
  | _ => false

def State.svcReady (s : State) (w : Where) : Bool :=
  match w.p.work with
  | .fwsvc _ _ at_ => at_ ≤ s.now
  | _ => false

/-- The result of a firmware service (R249).
(DEDUCED, log 19.) -/
def State.svcResult (s : State) (w : Where) (svc : Nat) (a : Word) : Word :=
  match svc with
  | 0 => a
  | 1 => BitVec.ofNat 64 s.timeNs
  | 2 => BitVec.ofNat 64 (s.die w.k.die).powerMw
  | _ => BitVec.ofNat 64 (s.die w.k.die).capMw

/-! Bells (R298). -/

/-- The first release of a bell that is due: its place in the list.
(DEDUCED, log 42.) -/
def State.releaseDue (s : State) (k : Kiln) (b : BellSt) : Option Nat :=
  b.releases.findIdx? fun r => k.begun s.now r.2.1 r.2.2.1 && s.performed k.id r.2.2.2 1

/-- One BELL's result at its release. -/
def Pending.released (p : Pending) (t : TileSt) (now b gen : Nat) (deps : List Nat) : Pending :=
  if p.work == .bell b gen then
    p.last (p.both (Tok.val (BitVec.ofNat 64 (gen + 1))) (if t.cycAt == now then t.cyc else t.cyc + 1)) deps
  else p

/-- A generation is released to every BELL that waits for it. -/
def State.release (s : State) (k b i : Nat) : State :=
  s.modKiln k fun kl =>
    match (kl.bells[b]?).bind fun x => (x.releases[i]?).map fun r => (x, r) with
    | none => kl
    | some (x, r) =>
      let deps := s.inFlight r.2.2.2
      { kl with
        bells := kl.bells.set b { x with releases := x.releases.eraseIdx i }
        tiles := kl.tiles.map fun t =>
          { t with execs := t.execs.map fun e => { e with pend := e.pend.map fun p => p.released t s.now b r.1 deps } } }

/-! Events of the table. -/

/-- An event whose meaning is the effect `f` when `due`, and which otherwise is not due. -/
def State.happen (s : State) (due : Bool) (f : State → State) : Host.Outcome State Fault Refusal :=
  if due then s.run f else .fault .notDue

/-- The issued instruction that the cursor names. -/
def State.curWhere (s : State) : Option Where :=
  match s.cursor with
  | .tile k t task slot => s.where? k t task slot
  | _ => none

/-- Whether a tile of a kiln acts at the present instant. -/
def State.tileLive (s : State) (k : Kiln) (t : TileSt) : Bool := k.runs s.now && t.cycAt == s.now

/-- Whether a waiting instruction may act at the present instant: in its tile's cycle; on a queue, as a cycle of the queues begins. -/
def State.actsNow (s : State) (w : Where) : Bool :=
  if w.p.work.isQueue then w.k.runs s.now && s.now % queueCycle == 0 && w.k.begun s.now w.t.id w.p.next else s.tileLive w.k w.t

/-- An event of the issued instruction that the cursor names. -/
def State.onWhere (s : State) (due : Where → Bool) (f : State → Where → State) : Host.Outcome State Fault Refusal :=
  match s.curWhere with
  | none => .fault .notDue
  | some w => s.happen (s.tileLive w.k w.t && due w) fun s => f s w

/-- The kiln, tile and task that the cursor names. -/
def State.curTask (s : State) : Option (Kiln × TileSt × Nat) :=
  match s.cursor with
  | .tile k t task _ => (s.kiln? k).bind fun kl => (kl.tile? t).map fun tl => (kl, tl, task)
  | _ => none

/-- BLOCK_FIRE (R28, R29, R35). -/
def execBlockFire (s : State) : Host.Outcome State Fault Refusal :=
  match s.curTask with
  | none => .fault .notDue
  | some (k, t, task) => s.happen (s.tileLive k t && s.mayFire k t task) fun s => s.fire k.id t.id task

/-- INSTRUCTION_COMPLETE (R32, R107): late work, then what can be sent, then completion. -/
def execInstructionComplete (s : State) : Host.Outcome State Fault Refusal :=
  s.onWhere (fun w => State.lateReady w || w.k.settles w.t w.p) fun s w =>
    (if State.lateReady w then s.lateDo w else s).settle w.k.id w.t.id w.x.task w.p.slot

/-- BLOCK_END (R33). -/
def execBlockEnd (s : State) : Host.Outcome State Fault Refusal :=
  match s.curTask with
  | none => .fault .notDue
  | some (k, t, task) =>
    s.happen (s.tileLive k t && ((t.exec? task).map fun x => s.ends k t x).getD false) fun s => s.endBlock k.id t.id task

/-- WAIT_SATISFIED (R281). -/
def execWaitSatisfied (s : State) : Host.Outcome State Fault Refusal :=
  match s.curWhere with
  | none => .fault .notDue
  | some w => s.happen (s.actsNow w && s.workReady w) fun s => s.workDo w

/-- TIMER_DEADLINE (R248).
(DESIGN CHOICE, log 136.) -/
def execTimerDeadline (s : State) : Host.Outcome State Fault Refusal :=
  s.onWhere State.timerReady fun s w =>
    s.putPend w (w.p.last (w.p.both (Tok.val (BitVec.ofNat 64 w.t.cyc)) (w.t.cyc + 1)) (s.inFlight w.p.deps))

/-- FWSVC_RESULT (R249).
(DESIGN CHOICE, log 141.) -/
def execFwsvcResult (s : State) : Host.Outcome State Fault Refusal :=
  s.onWhere s.svcReady fun s w =>
    match w.p.work with
    | .fwsvc svc a _ => s.putPend w (w.p.last (w.p.both (Tok.val (s.svcResult w svc a)) w.t.cyc) (s.inFlight w.p.deps))
    | _ => s

/-- ACCESS_RESPONSE (R175 to R181, R416). -/
def execAccessResponse (s : State) : Host.Outcome State Fault Refusal :=
  match s.cursor with
  | .kiln k n =>
    match s.accs.find? fun a => a.is k n with
    | none => .fault .notDue
    | some a => s.happen (s.accReady a) fun s => s.accDo a
  | _ => .fault .notDue

/-- AROW_CONSUMED (R122, R124): the consumed event, and the group adds that follow it. -/
def execArowConsumed (s : State) : Host.Outcome State Fault Refusal :=
  s.onWhere (fun w => match w.p.work with
    | .arow row _ fmt _ _ got c sums => arowAddReady w row fmt got c sums
    | _ => false) fun s w =>
    match w.p.work with
    | .arow row ea fmt wfmt bank got c sums => s.arowAddDo w row ea fmt wfmt bank got c sums
    | _ => s

/-- The kiln and number that the cursor names. -/
def State.curKiln (s : State) : Option (Kiln × Nat) :=
  match s.cursor with
  | .kiln k n => (s.kiln? k).map fun kl => (kl, n)
  | _ => none

/-- STU_TRANSFORM_SERVE (R136). -/
def execStuTransformServe (s : State) : Host.Outcome State Fault Refusal :=
  match s.curKiln with
  | none => .fault .notDue
  | some (k, n) => s.happen (k.runs s.now && k.stuReads (k.stu n) s.now) fun s => s.stuRead k.id n

/-- STU_RESULT_WRITE (R136). -/
def execStuResultWrite (s : State) : Host.Outcome State Fault Refusal :=
  match s.curKiln with
  | none => .fault .notDue
  | some (k, n) => s.happen (k.runs s.now && s.stuWrites k (k.stu n)) fun s => s.stuWrite k.id n

/-- The signals after the writes that are due: of several writes to one signal in one cycle the value 1 is kept (R40). -/
def applySignals (due : List (Nat × Bool)) (v : BitVec 16) : BitVec 16 :=
  due.foldl (fun (v : BitVec 16) x =>
    let m := BitVec.ofNat 16 (2 ^ x.1)
    if due.contains (x.1, true) then v ||| m else v &&& ~~~m) v

/-- The signal writes of a kiln that are seen from the present instant on (R40). -/
def Kiln.signalsDue (k : Kiln) (now : Nat) (x : Nat × Nat × Nat × Bool) : Bool := k.begun now x.1 x.2.1

/-- SIGNAL_PROPAGATE (R40): the writes whose time has come, in the order they were made. -/
def execSignalPropagate (s : State) : Host.Outcome State Fault Refusal :=
  match s.curKiln with
  | none => .fault .notDue
  | some (k, _) => s.happen (k.clocked s.now && k.sigWrites.any (k.signalsDue s.now)) fun s => s.modKiln k.id fun kl =>
      { kl with
        signals := applySignals ((kl.sigWrites.filter (k.signalsDue s.now)).map fun x => x.2.2) kl.signals
        sigWrites := kl.sigWrites.filter fun x => !k.signalsDue s.now x }

/-- BELL_RELEASE (R298). -/
def execBellRelease (s : State) : Host.Outcome State Fault Refusal :=
  match s.curKiln with
  | none => .fault .notDue
  | some (k, n) =>
    match (k.bells[n]?).bind (s.releaseDue k) with
    | none => .fault .notDue
    | some i => s.happen (k.runs s.now) fun s => s.release k.id n i

/-- BELL_TIMEOUT (R389), also in a context switch and while the kiln waits for a unit of storage: the kiln stops; word 2 names the
task whose entry opened the generation. -/
def execBellTimeout (s : State) : Host.Outcome State Fault Refusal :=
  match s.curKiln with
  | none => .fault .notDue
  | some (k, n) =>
    match k.bells[n]? with
    | none => .fault .notDue
    | some b =>
      match b.opened with
      | none => .fault .notDue
      | some (t, task, since) =>
        s.happen (k.awake s.now && !b.timedOut && since + queueCycle * b.timeout ≤ s.now) fun s =>
          let s := s.modKiln k.id fun kl => { kl with bells := kl.bells.set n { b with timedOut := true } }
          let blk := ((k.tileD t).task task).block
          s.stopBy k.id (k.faultReq t task blk 0 0x06 0 (n + b.count * 2 ^ 16) (b.tally % 2 ^ 32 + (b.gen + 1) % 2 ^ 32 * 2 ^ 32)) t task 0 n

end Sys2Proof.Machine
end

