-- ==== Sys2Proof/Machine/EngineEvents.lean ====
section
/-! DEFINITION. Events of the engines: a drover starts a list or goes on with a push (R187, R338, R344, R354), BTU copies
(R144, R165, R166), folds (R172, R336). -/

namespace Sys2Proof.Machine

/-! Drovers. -/

/-- Whether a drover starts its next list now: none runs, the list's kiln runs, and what its kick releases has performed at
DEVICE (R187). -/
def State.listStarts (s : State) (d : DroverSt) : Bool :=
  d.run.isNone && (match d.queue with
    | [] => false
    | l :: _ => ((s.kiln? l.kiln).map Kiln.enginesRun).getD false && s.performed l.kiln l.deps 3)

/-- The next submitted list runs; its first step comes after a free latency. -/
def State.listStart (s : State) (d : DroverSt) : State :=
  match d.queue with
  | [] => s
  | l :: rest =>
    let (w, s) := s.draw
    s.setDrover { d with run := some { l with at_ := s.now + 1 + w }, queue := rest }

/-- The drover that the cursor names. -/
def State.curDroverSt (s : State) : Option DroverSt :=
  match s.cursor with
  | .die d n _ => some (s.drover d n)
  | _ => none

/-- DROVE_LIST_START (R187). -/
def execDroveListStart (s : State) : Host.Outcome State Fault Refusal :=
  match s.curDroverSt with
  | none => .fault .notDue
  | some d => s.happen (s.listStarts d) fun s => s.listStart d

/-- Whether a push that waits on a wicket window may go on. -/
def State.pushResumes (s : State) (c : DCtx) : Bool :=
  match s.droverNext c with
  | .cmd i _ => c.resumes i
  | .none_ _ => false

/-- PUSH_RESUME (R145, R344). -/
def execPushResume (s : State) : Host.Outcome State Fault Refusal :=
  match s.curDrover with
  | none => .fault .notDue
  | some c => s.happen (s.pushResumes c) fun s => s.putList c (some { c.l with waits := false })

/-! BTUs. -/

/-- A BTU and one of its copies. -/
structure BtuAt where
  b : BtuSt
  c : BtuCopy
  k : Kiln
  deriving DecidableEq, Repr

/-- The copy that the cursor names. -/
def State.curCopy (s : State) : Option BtuAt :=
  match s.cursor with
  | .die d n i =>
    let b := s.btu d n
    match b.copies.find? fun c => c.id == i with
    | none => none
    | some c => (s.kiln? c.kiln).map fun k => ⟨b, c, k⟩
  | _ => none

/-- Replace a copy, or remove it. -/
def State.putCopy (s : State) (a : BtuAt) (c : Option BtuCopy) : State :=
  let b := s.btu a.b.die a.b.shelf
  s.setBtu { b with copies := b.copies.filterMap fun x => if x.id == a.c.id then c else some x }

/-- Whether a queued copy begins now: it is the first to have arrived of those that have not begun (R166, R187), fewer than 8 run,
and what its request releases has performed (R187). -/
def State.copyBegins (s : State) (a : BtuAt) : Bool :=
  !a.c.started && ((a.b.copies.find? fun c => !c.started).map BtuCopy.id) == some a.c.id && a.k.enginesRun && a.c.at_ ≤ s.now &&
  (a.b.copies.countP fun c => c.started) < 8 && s.performed a.k.id a.c.deps 3

/-- Whether a running copy moves its next granule now. -/
def State.copyLands (s : State) (a : BtuAt) : Bool := a.c.started && a.k.enginesRun && a.c.at_ ≤ s.now && (a.c.held.isNone || a.c.retry)

/-- An access of a copy is held, stops the kiln, or waits (R412, R413, R415). -/
def State.copyTrouble {α : Type} (s : State) (a : BtuAt) (r : Eng α) : State :=
  let req := a.c.faultReq a.k a.b.shelf
  match r with
  | .ok _ _ => s
  | .wait u => s.putCopy a (some { a.c with at_ := u })
  | .stop 0x3F pa _ r => ((s.reached r).poisonSeen (req 0x29 2 0 0) pa).stopBy a.k.id (req 0x3F 0 0 0) 0 0 0 0
  | .stop cause x y r => (s.reached r).stopBy a.k.id (req cause 0 x y) 0 0 0 0
  | .hold f va r =>
    let (uid, s) := (s.reached r).postFault { req f.cause 1 f.w6 f.w7 with access := f.access, stage := f.stage, va := va % 2 ^ 48 }
    s.putCopy a (some { a.c with held := some uid, retry := false })

/-- The agent of a copy. -/
def BtuAt.agent (a : BtuAt) : Agent := a.c.agent a.b.die a.b.shelf a.k

/-- A queued copy begins. -/
def State.copyBegin (s : State) (a : BtuAt) : State :=
  match s.pktBegin a.agent a.c.packet with
  | .ok _ s =>
    let (c, s) := s.copyNext a.c
    let (w, s) := s.draw
    s.putCopy a (some { c with started := true, at_ := s.now + 1 + w })
  | r => s.copyTrouble a r

/-- BTU_COPY (R144, R165): a queued copy begins. -/
def execBtuCopy (s : State) : Host.Outcome State Fault Refusal :=
  match s.curCopy with
  | none => .fault .notDue
  | some a => s.happen (s.copyBegins a) fun s => s.copyBegin a

/-- A running copy goes on by one granule. -/
def State.copyDo (s : State) (a : BtuAt) : State :=
  let (s, c, r) := s.pktPart a.agent a.c
  match r with
  | .ok true s => s.putCopy a none
  | .ok false s =>
    let (w, s) := s.draw
    s.putCopy a (some { c with held := none, retry := false, at_ := s.now + 1 + w })
  | r => s.copyTrouble { a with c := c } r

/-- BTU_COPY_COMPLETE (R144, R166): the copy's bytes in its next granule land; with the last of a chunk, the chunk's bit is set. -/
def execBtuCopyComplete (s : State) : Host.Outcome State Fault Refusal :=
  match s.curCopy with
  | none => .fault .notDue
  | some a => s.happen (s.copyLands a) fun s => s.copyDo a

/-! Folds. -/

/-- Replace a fold, or remove it. -/
def State.putFold (s : State) (id : Nat) (j : Option FoldJob) : State :=
  { s with folds := s.folds.filterMap fun x => if x.id == id then j else some x }

/-- Whether a fold goes on now; a held access is retried once the kiln that asked for the fold goes on (R415).
(DEDUCED, log 125.) -/
def State.foldReady (s : State) (j : FoldJob) : Bool :=
  s.power != 3 && j.at_ ≤ s.now && (j.held.isNone || (j.retry && !(s.kiln? j.kiln).any Kiln.asleep))

/-- An access of a fold is held, waits, or stops the kiln that asked for it; a fold that no kiln asked for ends. -/
def State.foldTrouble {α : Type} (s : State) (j : FoldJob) (r : Eng α) : State :=
  let k? := s.kiln? j.kiln
  let at_ := s.foldEngine j
  let req := j.faultReq at_ ((k?.map Kiln.queue).getD 0)
  match r with
  | .ok _ _ => s
  | .wait u => s.putFold j.id (some { j with at_ := u })
  | .stop cause x y r =>
    let s := (s.reached r).putFold j.id none
    let s := if cause == 0x3F then s.poisonSeen (req 0x29 2 0 0) x else s
    if k?.isSome then s.stopBy j.kiln (if cause == 0x3F then req cause 0 0 0 else req cause 0 x y) 0 0 0 0 else s
  | .hold f va r =>
    let (uid, s) := (s.reached r).postFault { req f.cause 1 f.w6 f.w7 with access := f.access, stage := f.stage, va := va % 2 ^ 48 }
    s.putFold j.id (some { j with held := some uid, retry := false })

/-- FOLD_COMPLETE (R172, R336): the fold engines go on; with the last part the new handle becomes valid, and then the
counter is raised by 1. -/
def execFoldComplete (s : State) : Host.Outcome State Fault Refusal :=
  match s.cursor with
  | .item n =>
    match s.folds.find? fun j => j.id == n with
    | none => .fault .notDue
    | some j => s.happen (s.foldReady j) fun s =>
        match s.foldPart j with
        | .ok (x, done) s =>
          let (w, s) := s.draw
          if done then (s.putFold n none).addCounter j.paddock j.counter 1
          else s.putFold n (some { x with held := none, retry := false, at_ := s.now + 1 + w })
        | r => s.foldTrouble j r
  | _ => .fault .notDue

end Sys2Proof.Machine
end

