-- ==== Sys2Proof/Machine/Fabric.lean ====
section
/-! DEFINITION. Events of the fabric: arrivals, waiting stops, credits and slot-return delays (R70 to R86), tick sources
(R87, R360), RSU channels (R88, R89), the installation of units (R56), queue refills (R300, R357), and the ports of memory
tiles (R146 to R149, R420). -/

namespace Sys2Proof.Machine

/-! Links. -/

/-- The kiln and the link that the cursor names. -/
def State.curLink (s : State) : Option (Kiln × Nat × LinkSt) :=
  match s.curKiln with
  | none => none
  | some (k, n) => (k.links[n]?).map fun l => (k, n, l)

/-- An event of the link that the cursor names. -/
def State.onLink (s : State) (due : Kiln → LinkSt → Bool) (f : State → Kiln → Nat → LinkSt → State) : Host.Outcome State Fault Refusal :=
  match s.curLink with
  | none => .fault .notDue
  | some (k, n, l) => s.happen (k.clocked s.now && due k l) fun s => f s k n l

/-- Whether a token in flight reaches the tail in the consumer's present cycle (R70). -/
def Kiln.arrives (k : Kiln) (now : Nat) (l : LinkSt) : Bool :=
  let t := k.tileD l.cfg.dst
  t.cycAt == now && (l.flight.head?.any fun x => x.due ≤ t.cyc)

/-- A ninth stop or gap at a tail where eight wait goes back to its sending instruction, and the kiln stops (R79, R397).
(DEDUCED, log 102.) -/
def State.overrun (s : State) (k : Kiln) (n : Nat) (l : LinkSt) (x : Flying) (rest : List Flying) : State :=
  (s.modLink k.id n fun l => { l with flight := rest, back := l.back ++ [(x.tok, x.by_)] }).stopBy k.id
    (k.linkReq l.cfg.dst 0x3A 0 (match x.tok with | .data d => d.seq.toNat | .ctl _ => 0) (l.cfg.dst + l.cfg.dvc * 2 ^ 13)
      (x.tok.level.toNat + (if x.tok.isStop then 0 else 8))) l.cfg.dst 0 0 n

/-- A token reaches a link's tail (R70, R75, R79, R85, R397, R399, R400). -/
def State.arriveAt (s : State) (k : Kiln) (n : Nat) (l : LinkSt) : State :=
  match l.flight with
  | [] => s
  | x :: rest =>
    if l.overruns x.tok then s.overrun k n l x rest
    else
      let (l, r, joined) := { l with flight := rest }.arrive (k.narrowConv l) s.now x.tok
      let l := if joined then k.giveBack l false else l
      (s.modLink k.id n fun _ => l).postLink k.id l.cfg.dst r

/-- LINK_ARRIVAL (R70, R75). -/
def execLinkArrival (s : State) : Host.Outcome State Fault Refusal := s.onLink (fun k l => k.arrives s.now l) State.arriveAt

/-- A stop that has waited in its sending instruction is sent again once fewer than eight wait (R397). -/
def Kiln.sendBack (k : Kiln) (l : LinkSt) : LinkSt :=
  match l.back with
  | [] => l
  | (t, by_) :: r =>
    if l.waitsFull then l
    else { l with
      back := r
      flight := l.flight ++ [⟨k.arriveAt (k.tileD l.cfg.src) (k.tileD l.cfg.dst) l.hops, t, by_⟩] }

/-- WAITING_STOP_ENTERS (R79): the oldest waiting token enters once there is a place. -/
def execWaitingStopEnters (s : State) : Host.Outcome State Fault Refusal :=
  s.onLink (fun _ l => !l.waiting.isEmpty && l.occupancy < l.cfg.slots) fun s k n l =>
    match l.waiting with
    | [] => s
    | (t, after) :: rest =>
      let (l, r) := { l with waiting := rest }.enterStop s.now t after
      (s.modLink k.id n fun _ => k.sendBack l).postLink k.id l.cfg.dst r

/-- CREDIT_RETURN (R71, R85): credits become usable by the producer. -/
def execCreditReturn (s : State) : Host.Outcome State Fault Refusal :=
  s.onLink (fun k l => l.returning.any fun x => k.begun s.now l.cfg.src x) fun s k n _ => s.modLink k.id n (k.takeCredits s.now)

/-- SLOT_RETURN_DELAY_EXPIRY (R86). -/
def execSlotReturnDelayExpiry (s : State) : Host.Outcome State Fault Refusal :=
  s.onLink (fun k l => l.delays.any fun x => k.begun s.now l.cfg.dst x.due) fun s k n _ => s.modLink k.id n (k.endDelays s.now)

/-! Raddles (R58). -/

/-- A link as it stands behind its raddle, with nothing in flight: its channel state.
(DEDUCED, log 68.) -/
def LinkSt.behind (l : LinkSt) : LinkSt :=
  { l with
    flight := []
    returning := []
    delays := if l.culled then l.delays else []
    credits := if l.culled then l.credits else l.cfg.slots - l.slots.length
    offer := none
    sentAt := none
    sealed := false }

/-- A link whose raddle has been taken is unsealed, and what stands behind the raddle is recorded. -/
def State.snapLink (s : State) (k n : Nat) : State :=
  s.modKiln k fun kl => { kl with
    links := kl.links.modify n fun l => { l with sealed := false }
    snap := kl.snap.map fun r => { r with links := r.links ++ (kl.links[n]?).toList.map fun l => (n, l.behind) } }

/-! Ticks (R87). -/

/-- Whether a tick falls in the tile's present cycle. -/
def TickSt.due (x : TickSt) (cyc : Nat) : Bool := x.fromCyc ≤ cyc && x.phase ≤ cyc && (cyc - x.phase) % max 1 x.period == 0

/-- TICK (R87): the tick's index enters the VC, or is discarded where N wait. -/
def execTick (s : State) : Host.Outcome State Fault Refusal :=
  match s.curTask with
  | none => .fault .notDue
  | some (k, t, _) =>
    s.happen (k.clocked s.now && t.cycAt == s.now && (t.tick.any fun x => x.due t.cyc)) fun s => s.modTile k.id t.id fun t =>
      { t with tick := t.tick.map fun x =>
          { x with
            fromCyc := t.cyc + 1
            queue := if x.queue.length < x.slots then x.queue ++ [((t.cyc - x.phase) / max 1 x.period, s.now)] else x.queue } }

/-! RSU channels (R88, R89). -/

/-- The tile of a channel's row in a column. -/
def RsuSt.tile (r : RsuSt) (col : Nat) : Nat := r.shelf * 128 + r.row * 8 + col

/-- The masked columns, ascending. -/
def RsuSt.cols (r : RsuSt) : List Nat := (List.range 8).filter fun c => r.mask.testBit c

/-- The links into a channel, in column order. -/
def Kiln.rsuLinks (k : Kiln) (r : RsuSt) : List Nat := r.cols.filterMap fun c => k.linkFrom (r.tile c) 7 r.chan true

/-- The tile on whose clock a channel runs: that of its lowest masked column. -/
def RsuSt.clock (r : RsuSt) : Nat := r.tile (r.cols.headD 0)

/-- The token at a latch's head, an uncorrectable payload already replaced (R398). -/
def LinkSt.latch? (l : LinkSt) (now : Nat) : Option DTok :=
  match l.head? now with
  | some (.data d) => some (if (l.slots.head?.any fun x => x.badPay) && d.recordLike then d.voided else d)
  | _ => none

/-- The heads of all masked columns, if each has one. -/
def Kiln.rsuHeads (k : Kiln) (r : RsuSt) (now : Nat) : Option (List DTok) :=
  let hs := (k.rsuLinks r).map fun n => (k.links[n]?).bind fun l => l.latch? now
  if hs.all Option.isSome && !hs.isEmpty then some (hs.filterMap fun x => x) else none

/-- Whether a channel fires now: once a cycle; a SCAN only after its last token has left, and none while a result that is
due has not left. A column whose head is a raddle waits until every column's is (R58, R59). -/
def Kiln.rsuFires (k : Kiln) (r : RsuSt) (now : Nat) : Bool :=
  let t := k.tileD r.clock
  t.cycAt == now && r.lastFire != t.cyc + 1 && (if r.scan then r.out.isEmpty else r.out.all fun x => t.cyc ≤ x.1) &&
  (k.rsuHeads r now).any fun hs => hs.all DTok.isRaddle || !hs.any DTok.isRaddle

/-- One lane-wise addition of a channel. -/
def rsuAdd (int32 : Bool) (a b : Payload) : Payload :=
  ofLanes 32 (((lanes 32 a).zip (lanes 32 b)).map fun (p : Nat × Nat) => if int32 then (p.1 + p.2) % 2 ^ 32 else (FF.fp32.add false p.1 p.2).1)

/-- The running sums of a list of payloads. -/
def runningSums (int32 : Bool) : Payload → List Payload → List Payload
  | acc, [] => [acc]
  | acc, x :: r => acc :: runningSums int32 (rsuAdd int32 acc x) r

/-- A free payload. -/
def State.freePay (s : State) : Payload × State :=
  (payOf ((List.range 16).map fun i => Config.freeByte (16 * s.freeCount + i)), { s with freeCount := s.freeCount + 1 })

/-- The tokens that a channel forms from heads of one KIND, level and DOMAIN. For void records and gaps no rule gives the
result: a token of that KIND with a free payload.
(DESIGN CHOICE, log 105.) -/
def State.rsuResult (s : State) (r : RsuSt) (h : DTok) (hs : List DTok) : List DTok × State :=
  let deps := (hs.flatMap DTok.deps).eraseDups
  if h.isRecord then
    let sums := runningSums r.int32 h.pay ((hs.drop 1).map DTok.pay)
    (((if r.scan then sums else sums.drop (sums.length - 1)).map fun p => { DTok.record p h.domain with deps := deps }), s)
  else if h.isStop then ([{ DTok.stop h.level with domain := h.domain, deps := deps }], s)
  else if h.isRaddle then ([DTok.raddle], s)
  else
    let (p, s) := s.freePay
    ([{ h with pay := p, deps := deps }], s)

/-- Dequeue every head of a channel; raddles seal no more than they have. -/
def State.rsuPop (s : State) (k dst : Nat) (raddle : Bool) : List Nat → State
  | [] => s
  | n :: r =>
    let s := (s.vcPop k dst (.link n)).2
    (if raddle then s.snapLink k n else s).rsuPop k dst raddle r

/-- A record at a latch's head whose payload is lost is replaced where it stands (R398). -/
def LinkSt.voidHead (l : LinkSt) : LinkSt × LinkReport :=
  match l.slots with
  | ⟨(a, .data d) :: more, half, true, side⟩ :: rest =>
    if d.recordLike then
      ({ l with slots := ⟨(a, .data d.voided) :: more, half, false, side⟩ :: rest }, ⟨none, some (d.seq.toNat, d.weight.toNat, false)⟩)
    else (l, .nothing)
  | _ => (l, .nothing)

/-- The lost heads of a channel that does not dequeue them are replaced, each with its event (R398). -/
def State.rsuVoid (s : State) (k : Kiln) (r : RsuSt) : State :=
  (k.rsuLinks r).foldl (fun (s : State) n => match k.links[n]? with
    | some l =>
      let (y, rep) := l.voidHead
      (s.modLink k.id n fun _ => y).postLink k.id l.cfg.dst rep
    | none => s) s

/-- A channel fires (R89), or meets heads that differ (R397). -/
def State.rsuFire (s : State) (k : Kiln) (n : Nat) (r : RsuSt) : State :=
  let t := k.tileD r.clock
  match k.rsuHeads r s.now with
  | none => s
  | some hs =>
    let h := hs.headD (DTok.stop 0)
    match hs.find? fun x => x.kind != h.kind || (h.isStop && x.level != h.level) || x.domain != h.domain with
    | some x =>
      ((s.rsuVoid k r).modKiln k.id fun k => { k with rsus := k.rsus.modify n fun r => { r with lastFire := t.cyc + 1 } }).stopBy k.id (k.linkReq r.clock 0x39 0 h.seq.toNat (r.chan + r.row * 8)
        (h.kind.toNat + x.kind.toNat * 2 ^ 4 + h.level.toNat * 2 ^ 8 + x.level.toNat * 2 ^ 11 + h.domain.toNat * 2 ^ 14 + x.domain.toNat * 2 ^ 15))
        r.clock 0 0 0
    | none =>
      let s := s.rsuPop k.id r.clock h.isRaddle (k.rsuLinks r)
      let (out, s) := s.rsuResult r h hs
      s.modKiln k.id fun k => { k with rsus := k.rsus.modify n fun r =>
        { r with lastFire := t.cyc + 1, out := r.out ++ out.zipIdx.map fun x => (t.cyc + 2 + x.2, x.1) } }

/-- RSU_FIRE (R89). -/
def execRsuFire (s : State) : Host.Outcome State Fault Refusal :=
  match s.curKiln with
  | none => .fault .notDue
  | some (k, n) =>
    match k.rsus[n]? with
    | none => .fault .notDue
    | some r => s.happen (k.clocked s.now && k.rsuFires r s.now) fun s => s.rsuFire k n r

/-- The link on which a channel's results leave (R88, R207). -/
def Kiln.rsuOut (k : Kiln) (r : RsuSt) : Option Nat :=
  k.links.findIdx? fun l => l.cfg.port == 7 && l.cfg.svc == r.chan && l.cfg.src / 128 == r.shelf && l.cfg.src % 128 / 8 == r.row

/-- Whether a channel's first result can leave now. -/
def Kiln.rsuLeaves (k : Kiln) (r : RsuSt) (now : Nat) : Bool :=
  match r.out.head?, (k.rsuOut r).bind fun n => k.links[n]? with
  | some (a, _), some l => k.begun now r.clock a && (k.tileD l.cfg.src).cycAt == now && k.canSend l
  | _, _ => false

/-- A unit that is no instruction sends a token: on a link of SLOTS 0 it shows at the head until the consumer takes it (R72), and
`sent` follows only then. -/
def State.unitSend (s : State) (k : Kiln) (n : Nat) (by_ : OfferBy) (d : DTok) (keepSeq : Bool) : State :=
  match k.links[n]? with
  | none => s
  | some l =>
    if !l.culled && l.cfg.slots == 0 then
      s.modLink k.id n fun y => { y with offer := some (.data d, by_), sentAt := some (k.tileD y.cfg.src).cycAt }
    else (s.modLink k.id n fun y => k.launchTok y (.data d) keepSeq .unit).offerTaken k.id l.cfg by_

/-- RSU_RESULT (R89): a result leaves on the channel's output link. -/
def execRsuResult (s : State) : Host.Outcome State Fault Refusal :=
  match s.curKiln with
  | none => .fault .notDue
  | some (k, n) =>
    match k.rsus[n]? with
    | none => .fault .notDue
    | some r => s.happen (k.clocked s.now && k.rsuLeaves r s.now) fun s =>
        match r.out, k.rsuOut r with
        | (_, d) :: _, some l => s.unitSend k l (.rsu n) d true
        | _, _ => s

/-! Units (R56). -/

/-- The units that a kiln's data images write, as (tile, space, base). -/
def Image.units (im : Image) : List (Nat × Nat × Nat) :=
  (im.images.flatMap fun r =>
    (List.range ((r.off + r.bytes.length + 4095) / 4096 - r.off / 4096)).map fun i => (r.id, r.space, (r.off / 4096 + i) * 4096)).eraseDups

/-- Whether a kiln is about to start for the first time, so that its data images are written (R44). -/
def Kiln.beginning (k : Kiln) : Bool :=
  match k.stat with
  | .starting _ => k.startedAt == 0 && k.restored.isNone
  | _ => false

/-- The units that a kiln still has to install for its data images, unless it waits for one (R56). -/
def State.unitsDue (s : State) (k : Kiln) : List (Nat × Nat × Nat) :=
  if k.beginning && k.paused.isNone then
    match s.image? k.charge with
    | some im => im.units.filter fun u => !s.owns k u.1 u.2.1 u.2.2
    | none => []
  else []

/-- UNIT_INSTALL (R56): the first write of a data image into a unit. An access's own first use of a unit installs it within
the access. -/
def execUnitInstall (s : State) : Host.Outcome State Fault Refusal :=
  match s.curKiln with
  | none => .fault .notDue
  | some (k, n) =>
    match (s.unitsDue k)[n]? with
    | none => .fault .notDue
    | some u => s.happen true fun s => s.install k.id u.1 u.2.1 u.2.2

/-! Queues. -/

/-- QUEUE_REFILL (R300, R357). -/
def execQueueRefill (s : State) : Host.Outcome State Fault Refusal :=
  match s.cursor with
  | .item q => s.happen (s.refill q).isSome fun s => (s.refill q).getD s
  | _ => .fault .notDue

/-! Memory tiles (R146 to R149, R205, R420). -/

/-- The number of elements of a pattern. -/
def PortSt.total (p : PortSt) : Nat := p.dims.foldl (fun n d => n * d.1) 1

/-- The SRAM address of an element of a pattern; one that a pattern forms outside the SRAM comes round to it.
(DESIGN CHOICE, log 118.) -/
def PortSt.addr (p : PortSt) (e : Nat) : Nat :=
  let rec go : List (Nat × Int) → Nat → Int
    | [], _ => 0
    | (ext, st) :: r, n => (n % max 1 ext : Nat) * st + go r (n / max 1 ext)
  (((p.base : Int) + go p.dims e) % 0x80000).toNat

/-- Bytes of an element.
(DESIGN CHOICE, log 138.) -/
def PortSt.size (p : PortSt) : Nat := max 1 (fmtWidth p.fmt / 8)

/-- Write one element into SRAM. -/
def State.sramPut (s : State) (k t : Nat) (p : PortSt) (e v : Nat) : State :=
  s.windowWriteN k t 6 (min (p.addr e) (0x80000 - p.size)) (leBytes p.size v) false

/-- Write elements from position `e` on. -/
def State.sramPuts (s : State) (k t : Nat) (p : PortSt) : Nat → List Nat → State
  | _, [] => s
  | e, v :: r => (s.sramPut k t p (e % max 1 p.total) v).sramPuts k t p (e + 1) r

/-- Read one element of SRAM. -/
def State.sramGet (s : State) (k t : Nat) (p : PortSt) (e : Nat) : Nat × State :=
  let (bs, s) := s.ocReadN k t 6 (min (p.addr e) (0x80000 - p.size)) p.size
  (leNat bs, s)

/-- Read `n` elements from position `e` on. -/
def State.sramGets (s : State) (k t : Nat) (p : PortSt) : Nat → Nat → List Nat × State
  | _, 0 => ([], s)
  | e, n + 1 =>
    let (v, s) := s.sramGet k t p e
    let (r, s) := s.sramGets k t p (e + 1) n
    (v :: r, s)

/-- Split a list into runs. -/
def runsOf (n : Nat) : Nat → List Nat → List (List Nat)
  | 0, _ => []
  | fuel + 1, xs => if xs.isEmpty then [] else xs.take n :: runsOf n fuel (xs.drop n)

/-- The tokens that a read port makes of its pattern's elements (R146, R147), ending in `last` where it is DENSE. -/
def PortSt.emit (p : PortSt) (els : List Nat) (last : DTok) : List DTok :=
  if p.enc == 1 then
    let ent := els.zipIdx.filter fun x => x.1 != 0
    let m := ent.length
    let head := (p.dims.zipIdx.map fun x => x.1.1 % 2 ^ 16 * 2 ^ (16 * x.2)).sum + p.fmt * 2 ^ 64 + m * 2 ^ 96
    let halves := ent.map (fun x => x.2 % 2 ^ 32 * 2 ^ 32 + x.1 % 2 ^ 32) ++ (if m % 2 == 1 then [0xFFFFFFFF * 2 ^ 32] else [])
    DTok.record (BitVec.ofNat 128 head) false ::
      (runsOf 2 halves.length halves).map (fun x => DTok.record (BitVec.ofNat 128 (x.headD 0 + x.getD 1 0 * 2 ^ 64)) false) ++ [DTok.stop 0]
  else
    (runsOf (16 / p.size) els.length els).map (fun x => DTok.record (ofLanes (8 * p.size) x) false) ++ [last]

/-- Put tokens into the lanes of a SORT port (R149): a request by its address's bank, any other token into every lane. -/
def sortLanes (lanes : List (List DTok)) (ts : List DTok) : List (List DTok) :=
  ts.foldl (fun ls t => ls.zipIdx.map fun x => if !t.isRecord || fld t.pay.toNat 4 3 == x.2 then x.1 ++ [t] else x.1) lanes

/-- The link that feeds a memory tile's write port: of its data links the one with the lowest VC.
(DESIGN CHOICE, log 14.) -/
def Kiln.portIn (k : Kiln) (t : Nat) : Option Nat := (List.range 8).findSome? fun v => k.linkInto t v true

/-- The link on which lane `v` of a memory tile leaves; without SORT, lane 0, the first of its data links. -/
def Kiln.portOut (k : Kiln) (t : Nat) (v : Option Nat) : Option Nat :=
  k.links.findIdx? fun l => l.cfg.src == t && l.cfg.plane && l.cfg.port != 8 && (v.all fun x => l.cfg.svc == x)

/-- Whether a memory tile's output is sorted. -/
def TileSt.sorts (t : TileSt) : Bool := (t.wport.any fun p => p.enc == 2) || (t.rport.any fun p => p.enc == 2)

/-- Add tokens to what a memory tile sends. -/
def TileSt.portPut (t : TileSt) (ts : List DTok) : TileSt :=
  { t with rport := t.rport.map fun p =>
      if t.sorts then { p with lanes := sortLanes p.lanes ts } else { p with outq := p.outq ++ ts } }

/-- Everything that a read port sends once the write port's stream has ended with a stop.
(DESIGN CHOICE, log 23.) -/
def State.portRead (s : State) (k t : Nat) (last : DTok) : State :=
  match (s.kiln? k).bind fun kl => (kl.tileD t).rport with
  | none => s
  | some p =>
    let (els, s) := s.sramGets k t p 0 p.total
    s.modTile k t fun tl => tl.portPut (p.emit els last)

/-- An entry of a value-and-coordinate stream at the write port (R147, R148, R420). -/
def State.portEntry (s : State) (k t : Nat) (half : Nat) : State :=
  match (s.kiln? k).bind fun kl => (kl.tileD t).wport with
  | none => s
  | some p =>
    match p.header with
    | none => s
    | some (ext, m) =>
      let put := fun s q => State.modTile s k t fun tl => { tl with wport := some q }
      if m ≤ p.elem then s
      else
        let p := { p with elem := p.elem + 1 }
        let i := fld half 32 32
        if p.lastIdx.any fun x => i ≤ x then put s p
        else
          let s := put s { p with lastIdx := some i }
          if i < p.total && i < ext.foldl (fun (n : Nat) (x : Nat) => n * x) 1 then s.sramPut k t p i (fld half 0 32) else s

/-- A header at the write port: every position it claims, up to the pattern's limit, is +0 until an entry names it. -/
def State.portHeader (s : State) (k : Kiln) (t : Nat) (p : PortSt) (pay : Nat) : State :=
  let ext := (List.range 4).map fun i => fld pay (16 * i) 16
  let claimed := ext.foldl (fun (n : Nat) (x : Nat) => n * x) 1
  let s := s.modTile k.id t fun tl => { tl with wport := some { p with header := some (ext, fld pay 96 32), elem := 0, lastIdx := none } }
  s.sramPuts k.id t p 0 (List.replicate (min claimed p.total) 0)

/-- The event of a header that claimed more than the pattern covers, once the stream has been consumed up to its stop (R420). -/
def State.portOverrun (s : State) (k : Kiln) (t : Nat) (p : PortSt) : State :=
  match p.header with
  | none => s
  | some (ext, _) =>
    let claimed := ext.foldl (fun (n : Nat) (x : Nat) => n * x) 1
    if p.total < claimed then s.postEvent (k.faultReq t 0 0 0 0x28 2 claimed p.total) else s

/-- A token at the write port.
(DESIGN CHOICE, log 118.) -/
def State.portTake (s : State) (k : Kiln) (t : Nat) (d : DTok) : State :=
  match (k.tileD t).wport with
  | none => s
  | some p =>
    let (pay, s) := if d.isVoid then s.freePay else (d.pay, s)
    if p.enc == 2 then s.modTile k.id t fun tl => tl.portPut [d]
    else if d.isRaddle then s.modTile k.id t fun tl => tl.portPut [d]
    else if d.isStop then
      ((s.portOverrun k t p).portRead k.id t d).modTile k.id t fun tl => { tl with wport := some { p with elem := 0, header := none, lastIdx := none } }
    else if d.isGap then s
    else if p.enc == 1 then
      if p.header.isNone then s.portHeader k t p pay.toNat
      else (s.portEntry k.id t (pay.toNat % 2 ^ 64)).portEntry k.id t (pay.toNat / 2 ^ 64)
    else
      let vs := lanes (8 * p.size) pay
      let s := s.sramPuts k.id t p p.elem vs
      -- a token written to one granule is a full 16-byte write (R421)
      let s := s.cleanse ((List.range vs.length).flatMap fun i =>
        (List.range p.size).map fun j => k.pa t 6 (min (p.addr ((p.elem + i) % max 1 p.total)) (0x80000 - p.size) + j))
      s.modTile k.id t fun tl => { tl with wport := some { p with elem := (p.elem + vs.length) % max 1 p.total } }

/-- Whether the write port takes a token in this cycle; a stop waits until what an earlier one called for has left, and a
raddle until the tile has been saved (R58). -/
def State.portTakes (s : State) (k : Kiln) (t : TileSt) : Bool :=
  !t.dataIssued && t.wport.isSome &&
  (match (k.portIn t.id).bind fun n => (k.links[n]?).bind fun l => l.head? s.now with
   | some x => if x.isRaddle then t.tileSaved else !x.isStop || (t.rport.all fun p => p.outq.isEmpty && p.lanes.all List.isEmpty)
   | none => false)

/-- The lanes that can send now: the lane, if the output is sorted, its link and its token. -/
def State.portSends (_s : State) (k : Kiln) (t : TileSt) : Option (Option Nat × Nat × DTok) :=
  match t.rport with
  | none => none
  | some p =>
    let try_ := fun (v : Option Nat) (q : List DTok) =>
      match q.head?, k.portOut t.id v with
      | some d, some n => (k.links[n]?).bind fun l => if k.canSend l then some (v, n, d) else none
      | _, _ => none
    if t.sorts then (List.range 8).findSome? fun v => try_ (some v) (p.lanes.getD v []) else try_ none p.outq

/-- MEMORY_TILE_PORT (R146 to R149, R420): the write port takes a token (task 0), or the read port sends one (task 1).
(DESIGN CHOICE, log 129.) -/
def execMemoryTilePort (s : State) : Host.Outcome State Fault Refusal :=
  match s.curTask with
  | none => .fault .notDue
  | some (k, t, side) =>
    if side == 0 then
      s.happen (s.tileLive k t && s.portTakes k t) fun s =>
        match k.portIn t.id with
        | none => s
        | some n =>
          let s := s.modTile k.id t.id fun tl => { tl with dataIssued := true }
          match s.vcPop k.id t.id (.link n) with
          | (some (.data d), s) =>
            let s := if d.isRaddle then s.snapLink k.id n else s
            match s.kiln? k.id with
            | some k => s.portTake k t.id d
            | none => s
          | (_, s) => s
    else
      s.happen (s.tileLive k t && (s.portSends k t).isSome) fun s =>
        match s.portSends k t with
        | none => s
        | some (v, n, d) => s.unitSend k n (.port v) d false

end Sys2Proof.Machine
end

