-- ==== Sys2Proof/Machine/Freeze.lean ====
section
/-! DEFINITION. Placing a kiln's state on a context (R39, R203 to R208), the end of a tile's cycle (R37), migration (R160), the
record of a snapshot (R58, R59, R374), and freezing and resuming a kiln (R53 to R57, R385). -/

namespace Sys2Proof.Machine

/-! A context's tiles and links. -/

/-- The tiles that an image names in any context, ascending. -/
def Image.tileIds (im : Image) : List Nat :=
  let ids := im.tiles.map TileCfg.id ++ im.mtiles.map MTileCfg.id ++ im.wickets.map WicketCfg.id ++
    im.links.flatMap (fun l => [l.2.src, l.2.dst]) ++ im.ticks.map TickCfg.id ++ im.code.map CodeSec.id ++
    im.images.map DataRec.id ++ (im.args.filterMap fun a => a.map Prod.fst) ++ im.sinks.map (fun x => x.2.1) ++
    (im.links.flatMap fun l => if l.2.port == 7 then
      ((List.range 8).filter fun c => l.2.param.testBit c).map fun c => l.2.src / 8 * 8 + c else [])
  ids.foldl (fun acc x => insertNat x acc) []

/-- A memory-tile port from its fields of the configuration record (R205). -/
def PortSt.ofCfg (enc base fmt pat : Nat) : PortSt where
  enc := enc
  base := base
  fmt := fmt
  dims := (List.range 4).map fun d => (fld pat (32 * d) 12 + 1, sextInt 20 (fld pat (32 * d + 12) 20))
  elem := 0
  header := none
  lastIdx := none
  entries := []
  outq := []
  lanes := List.replicate 8 []
  overrun := false

/-- A tile in a context: what the context replaces (R39); a tile that no record names runs in VECTOR mode on spine 0 with no
tasks (R203). `since` is the first cycle whose ticks are delivered.
(DEDUCED, log 107.) -/
def Image.tileIn (im : Image) (ctx : Nat) (t : TileSt) (since : Nat) : TileSt :=
  let cfg := im.tiles.find? fun x => x.ctx == ctx && x.id == t.id
  let mt := im.mtiles.find? fun x => x.ctx == ctx && x.id == t.id
  { t with
    mode := (cfg.map TileCfg.mode).getD 0
    bsize := (cfg.map TileCfg.bsize).getD 0
    spine := (cfg.map TileCfg.spine).getD 0
    fmt := (cfg.map TileCfg.fmt).getD [0, 0, 0, 0]
    conv := (cfg.map TileCfg.conv).getD [0, 0, 0, 0]
    execs := []
    fired := false
    ended := []
    wickets := (im.wickets.filter fun w => w.ctx == ctx && w.id == t.id).map fun w => (w.index, ⟨w.base, w.chunks, w.window, 0, 0⟩)
    tick := (im.ticks.find? fun x => x.ctx == ctx && x.id == t.id).map fun x => ⟨x.period, x.phase, x.slots, since, []⟩
    wport := mt.map fun m => PortSt.ofCfg (fld m.word 371 2) (fld m.word 350 19) (fld m.word 327 4) (fld m.word 128 128)
    rport := mt.map fun m => PortSt.ofCfg (fld m.word 369 2) (fld m.word 331 19) (fld m.word 323 4) (fld m.word 0 128)
    tasks := t.tasks.zipIdx.map fun x =>
      match (cfg.bind fun c => c.entries[x.2]?).getD none with
      | some b => { x.1 with stat := .idle, block := b, notBefore := 0, gates := [], stopped := false, saved := false }
      | none => { x.1 with stat := .absent, block := 0, notBefore := 0, gates := [], stopped := false, saved := false } }

/-- The link into an RSU channel from a column of its mask: HOLD, with two slots, one hop (R88).
(DESIGN CHOICE, log 15.) -/
def LinkCfg.latch (c : LinkCfg) (col dst : Nat) : LinkCfg where
  src := c.src / 8 * 8 + col
  port := 8
  plane := true
  svc := c.svc
  dst := c.src / 8 * 8 + dst
  dvc := 0
  slots := 2
  policy := 0
  param := 0
  thresh := 0
  compress := false
  commutative := false
  cls := c.cls

/-- The links of a context: those of its link words, and the implied links into RSU channels (R88). -/
def Image.linksIn (im : Image) (ctx : Nat) : List LinkSt :=
  let cfgs := (im.links.filter fun x => x.1 == ctx).map Prod.snd
  let into := cfgs.flatMap fun c =>
    if c.port == 7 then
      let cols := (List.range 8).filter fun i => c.param.testBit i
      cols.map fun i => c.latch i (cols.headD 0)
    else []
  (cfgs.map fun c => LinkSt.start c (hopsOf im.cols c.src c.dst)) ++ into.map fun c => LinkSt.start c 1

/-- The RSU channels of a context (R207). -/
def Image.rsusIn (im : Image) (ctx : Nat) : List RsuSt :=
  (im.links.filter fun x => x.1 == ctx && x.2.port == 7).map fun x =>
    ⟨x.2.src / 128, x.2.src % 128 / 8, x.2.svc, x.2.param, x.2.thresh.testBit 0, x.2.thresh.testBit 1, [], 0⟩

/-- Write the instruction stores of a kiln's context (R39, R200, R201). -/
def State.loadCode (s : State) (kl : Kiln) (im : Image) : State :=
  let s := kl.tiles.foldl (fun (s : State) t => if t.id % 128 < 64 then s.wipe (kl.pa t.id 4 0) (kl.pa t.id 4 0x4200) else s) s
  (im.code.filter fun c => c.ctx == kl.ctx).foldl (fun (s : State) c =>
    let s := s.pokes (kl.pa c.id 4 0) (c.words.flatMap (leBytes 8))
    s.pokes (kl.pa c.id 4 0x4000) (c.headers.flatMap (leBytes 16))) s

/-! The end of a tile's cycle. -/

/-- The stall counters of an idle task (R37): they stand while its block may fire and waits only for its turn or for a place. -/
def State.stalled (s : State) (k : Kiln) (t : TileSt) (task : Nat) : List Nat :=
  let x := t.task task
  let h := s.header k t.id x.block
  if x.stat == .idle && !x.stopped && !t.ended.contains task && !(x.notBefore ≤ t.cyc && k.fireCond t h s.now true) then
    x.stalls.zipIdx.map fun c =>
      let up :=
        if c.2 < 4 then ((h.binds.getD c.2 none).map fun b => !b.isLazy && (k.vcHead t b.vc b.plane s.now).isNone).getD false
        else ((h.guards.getD (c.2 - 4) none).map fun g => !k.guardOk t true g).getD false
      if up then min (c.1 + 1) (2 ^ 64 - 1) else c.1
  else x.stalls

/-- A tile at its next cycle. -/
def State.tileNext (s : State) (k : Kiln) (t : TileSt) : TileSt :=
  { t with
    tasks := t.tasks.zipIdx.map fun x => { x.1 with stalls := s.stalled k t x.2 }
    cyc := t.cyc + 1
    cycAt := k.nextEdge t
    bankAt := t.bank
    ctlIssued := false
    dataIssued := false
    fired := false
    ended := []
    step4 := none
    usedC := []
    usedE := []
    rowsDone := []
    ringsDone := []
    keepNos := []
    wickets := t.wickets.map fun w => (w.1, { w.2 with seen := w.2.consumed }) }

/-- Whether a link into a declared sink holds nothing but level-7 stops that have reached it (R45). -/
def LinkSt.sunk (l : LinkSt) : Bool :=
  (l.slots.all fun x => x.toks.all fun t => t.2.isStop7) && l.gap.isNone && l.waiting.isEmpty && l.flight.isEmpty && l.back.isEmpty &&
  l.offer.isNone && (l.culled || (l.credits + l.slots.length == l.cfg.slots && l.returning.isEmpty))

/-- Whether a link is the link into a declared sink VC. -/
def Kiln.intoSink (k : Kiln) (l : LinkSt) : Bool := l.cfg.port != 8 && k.isSink l.cfg.dst l.cfg.dvc l.cfg.plane

/-- Whether every link of the context, and every RSU channel, has drained (R45). -/
def Kiln.linksDrained (k : Kiln) : Bool :=
  (k.links.all fun l => l.drained || (k.intoSink l && l.sunk)) && (k.rsus.all fun r => r.out.isEmpty)

/-- The cycles of a kiln's tiles that began at this instant end (R32, R37, R40). -/
def State.cycleEnd (s : State) (k : Nat) : State :=
  s.modKiln k fun kl => { kl with
    tiles := kl.tiles.map fun t => if t.cycAt == s.now then s.tileNext kl t else t
    drainedAt := if kl.linksDrained then (if kl.drainedAt.isSome then kl.drainedAt else some s.now) else none }

/-! Migration (R160). -/

/-- The stored form of a frame goes with its bytes (R150, R160). -/
def State.moveForm (s : State) (old new : Nat) : State :=
  let rest := s.zeroFrames.filter fun f => f != old / 2 ^ 16 && f != new / 2 ^ 16
  { s with zeroFrames := if s.zeroFrames.contains (old / 2 ^ 16) then insertNat (new / 2 ^ 16) rest else rest }

/-- The drover's copy of a frame ends: the bytes, in their stored form, stand in the new frame (+0 for poisoned granules, R421), the frame map names
it, accesses that waited go there, and the old frame is free. -/
def State.migrateDone (s : State) (m : Migration) : State :=
  let lo := m.old
  let hi := m.old + 2 ^ 16
  let bad := s.poison.filter fun g => lo ≤ 16 * g && 16 * g < hi
  let s := bad.foldl (fun (s : State) g => 
    s.poisonSeen { cause := 0x29, cls := 2, die := m.die, shelf := fld m.old 39 7, agent := 1 } (16 * g)) s
  let cells := (s.cellsIn lo hi).eraseDups.map fun a => (a, if bad.contains (a / 16) then 0 else s.byte a)
  let s := s.wipe m.new (m.new + 2 ^ 16)
  let s := s.pokeAt (cells.map fun c => (c.1 - lo + m.new, c.2))
  let s := match s.frames.find? fun f => f.pa == m.old with
    | some f => s.pokes f.entry (leBytes 8 (m.new + 1))
    | none => s
  let s := s.moveForm m.old m.new
  let move := fun l : Loc => if l.pa / 2 ^ 16 == lo / 2 ^ 16 then { l with pa := l.pa - lo + m.new } else l
  { s with
    migrations := s.migrations.filter fun x => x.id != m.id
    poison := s.poison.filter fun g => !(lo ≤ 16 * g && 16 * g < hi)
    frames := updateWhere (fun f => f.pa == m.old) (fun f => { f with pa := m.new, local_ := 0, remote := [] }) s.frames
    accs := s.accs.map fun a => match a.stage with
      | .port ls => { a with stage := .port (ls.map move) }
      | .flight ls => { a with stage := .flight (ls.map move) }
      | _ => a }

/-- Complete the migrations of the frames that some locations reach. -/
def State.migrateFor (s : State) (ls : List Loc) : State :=
  (s.migrations.filter fun m => ls.any fun l => l.pa / 2 ^ 16 == m.old / 2 ^ 16).foldl State.migrateDone s

/-! Draining accesses (R53, R188). -/

/-- Whether an access has been sent and not yet performed. -/
def Acc.sent (a : Acc) : Bool :=
  match a.stage with
  | .port _ | .flight _ => true
  | _ => false

/-- What must go on before an access does: the first access that keeps it where it is, or what keeps that one (R175, R177). -/
def State.rootOf (s : State) : Nat → Acc → Acc
  | 0, a => a
  | n + 1, a =>
    match (s.before a).find? a.after with
    | some b => s.rootOf n b
    | none => a

/-- The access to complete next for a kiln's freeze: its first, or what must go on before it. One that stands behind an access whose
response was lost (R426), or whose own storage has to wait (R56), stays where it is. -/
def State.nextSent (s : State) (k : Nat) : Option Acc :=
  ((s.accs.filter fun a => a.kiln == k && a.sent).map (s.rootOf s.accs.length)).find? fun a =>
    a.sent && !(a.req.ea.getLsbD 63 && s.waitsUnit a.kiln)

/-- Every access already sent completes, oldest first. -/
def State.drainAccs (s : State) (k : Nat) : Nat → State
  | 0 => s
  | fuel + 1 =>
    match s.nextSent k with
    | none => s
    | some a =>
      let s := match a.stage with
        | .port ls | .flight ls => s.migrateFor ls
        | _ => s
      match s.accs.find? fun b => b.is a.kiln a.id with
      | some b => (s.attempt (s.accDo b)).drainAccs k fuel
      | none => s.drainAccs k fuel

/-! Raddles (R58). -/

/-- A link without the raddles in it, and unsealed. -/
def LinkSt.unraddled (l : LinkSt) : LinkSt :=
  let held := l.slots.countP fun x => x.toks.any fun t => t.2.isRaddle
  let flying := l.flight.countP fun x => x.tok.isRaddle
  let before := fun n => ((l.slots.flatMap fun x => x.toks).take n).countP fun t => t.2.isRaddle
  { l with
    gap := l.gap.map fun x => (x.1, x.2 - before x.2)
    slots := l.slots.filter fun x => !(x.toks.any fun t => t.2.isRaddle)
    waiting := l.waiting.filter fun x => !x.1.isRaddle
    flight := l.flight.filter fun x => !x.tok.isRaddle
    credits := if l.culled then l.credits else l.credits + held + flying
    offer := l.offer.filter fun x => !x.1.isRaddle
    sealed := false }

/-- A kiln without raddles, when a snapshot has been taken or its partial saves are discarded. -/
def Kiln.unraddled (k : Kiln) : Kiln :=
  { k with
    argq := k.argq.filter fun a => !a.tok.isRaddle
    links := k.links.map LinkSt.unraddled
    rsus := k.rsus.map fun r => { r with out := r.out.filter fun x => !x.2.isRaddle }
    tiles := k.tiles.map fun t => { t with
      tileSaved := false
      tasks := t.tasks.map fun x => { x with saved := false }
      rport := t.rport.map fun p => { p with
        outq := p.outq.filter fun d => !d.isRaddle, lanes := p.lanes.map fun q => q.filter fun d => !d.isRaddle } } }

/-! Snapshot records (R374). -/

/-- The units of a tile, as (space, base). -/
def tileUnits (tile : Nat) : List (Nat × Nat) :=
  ([0, 1, 2, 3, 6].flatMap fun sp => (List.range ((spaceSize tile sp + 4095) / 4096)).map fun i => (sp, 4096 * i))

/-- What a kiln's unit holds, wherever it stands. -/
def State.unitNow (s : State) (kl : Kiln) (t space base : Nat) : List Byte :=
  let n := unitLen (t % 128) space base
  let c := if s.owns kl t space base then s.bytes (kl.pa t space base) n else (s.unitContent kl t space base).1
  c ++ List.replicate (n - c.length) 0

/-- Write bytes at a VA of a paddock for firmware; bytes that do not translate are left out.
(DEDUCED, log 66.)
(DEDUCED, log 66.) (DESIGN CHOICE, log 116.) -/
def State.firmWrite (s : State) (paddock die va : Nat) (bs : List Byte) : State :=
  match s.paddock? paddock with
  | none => s
  | some p => (s.vaWrite p (.fold die) va bs).2

/-- Where the image of a kiln-relative shelf stands in a snapshot record. -/
def shelfImage (va rel : Nat) : Nat := va + 0x1000 + 0x2000000 * rel

/-- Save the storage of a tile into a snapshot record. -/
def State.saveTile (s : State) (kl : Kiln) (va t : Nat) : State :=
  (tileUnits (t % 128)).foldl (fun (s : State) u =>
    s.firmWrite kl.paddock kl.die (shelfImage va (t / 128) + slotOff (t % 128) u.1 u.2) (s.unitNow kl t u.1 u.2)) s

/-- The readout of a shelf. The spec gives it no byte format: free bytes, of a free number that the saggar's part of a slot
bounds.
(DESIGN CHOICE, log 10.) -/
def State.readout (s : State) : List Byte × State :=
  let c := s.freeCount
  ((List.range (Config.freeNat c % 0x180001)).map fun i => Config.freeByte (0x180001 * c + i), { s with freeCount := c + 1 })

/-- Write bytes in pieces of 4 KiB. -/
def State.firmWriteAll (s : State) (paddock die va : Nat) (bs : List Byte) : Nat → State
  | 0 => s
  | fuel + 1 => if bs.isEmpty then s else (s.firmWrite paddock die va (bs.take 4096)).firmWriteAll paddock die (va + 4096) (bs.drop 4096) fuel

/-- The readouts of every shelf. -/
def State.saveReadouts (s : State) (kl : Kiln) (va : Nat) : List Nat → State
  | [] => s
  | rel :: r =>
    let (bs, s) := s.readout
    (s.firmWriteAll kl.paddock kl.die (shelfImage va rel) bs 0x181).saveReadouts kl va r

/-- The header of a snapshot record (R374). -/
def snapHeader (kl : Kiln) (method time : Nat) : List Byte :=
  let h := leBytes 8 (0x53504B4E + method * 2 ^ 32 + kl.shelves * 2 ^ 33 + 2 ^ 40) ++ leBytes 8 kl.id ++ recBytes kl.record ++
    leBytes 8 kl.ctx ++ leBytes 8 time
  h ++ List.replicate (4096 - h.length) 0

/-- The captured kiln that a snapshot record stands for (R58, R375). -/
def Kiln.asSnap (k : Kiln) (now : Nat) : Kiln :=
  { k.unraddled with
    stat := .frozen, place := none, lastPlace := none, frozenAt := now, stops := [], snap := none, saveSlots := [], savedUnits := [],
    restored := none, resident := 0, paused := none, switchLeft := k.leftOver now,
    arrivalsAt := none }

/-- A snapshot is complete: its record is written, and the command completes (R370, R374). -/
def State.snapDone (s : State) (k method : Nat) (captured : Kiln) : State :=
  match s.kiln? k with
  | none => s
  | some kl =>
    match kl.snap with
    | none => s
    | some r =>
      let s := s.saveReadouts kl r.va (List.range kl.shelves)
      let s := s.firmWrite kl.paddock kl.die r.va (snapHeader kl method s.timeNs)
      let s := s.modKiln k fun kl => { kl.unraddled with snap := none }
      let s := { s with
        snaps := s.snaps ++ [Snap.mk k s.timeNs captured (s.accs.filter fun a => a.kiln == k)]
        outstanding := s.outstanding.filter fun o => match o with | .snapshot _ x => x != k | _ => true }
      s.complete r.tag 0x0F 0 (BitVec.ofNat 64 method)

/-- A snapshot is taken from a frozen kiln's readout (R59, R390).
(DEDUCED, log 69.) -/
def State.snapFrozen (s : State) (k : Nat) : State :=
  match s.kiln? k with
  | none => s
  | some kl =>
    match kl.snap with
    | none => s
    | some r =>
      let at_ := { kl with place := kl.place.orElse fun _ => kl.lastPlace }
      let tiles := (List.range kl.shelves).flatMap fun rel => (List.range 72).map fun t => rel * 128 + t
      (tiles.foldl (fun (s : State) t => s.saveTile at_ r.va t) s).snapDone k 1 (kl.asSnap s.now)

/-! Freezing (R53, R55, R385). -/

/-- A running list goes on until it stands where a freeze or a retirement leaves it (R53, R355, R388), or a unit of storage
must wait (R56); frames that are being moved are moved first. -/
def State.drainList (s : State) (die slice : Nat) : Nat → State
  | 0 => s
  | fuel + 1 =>
    match s.dctx? die slice with
    | none => s
    | some c =>
      if c.l.atBoundary || c.l.blocked || s.waitsUnit c.k.id then s
      else
        match s.droverNext c with
        | .none_ s => s
        | .cmd i s' =>
          let s'' := s'.migrations.foldl State.migrateDone s'
          match s''.dctx? die slice with
          | none => s
          | some c => (s''.attempt (s''.dataDo c i)).drainList die slice fuel

/-- A kiln's running lists stop (R53, R388); the bound is beyond the steps that a command can take.
(DEDUCED, log 117.) -/
def State.drainLists (s : State) (k : Nat) : State :=
  (s.drovers.filter fun d => (d.run.map DList.kiln) == some k).foldl (fun (s : State) d => s.drainList d.die d.slice (2 ^ 70)) s

/-- A running copy goes on until it is done or held. -/
def State.drainCopy (s : State) (die shelf id : Nat) : Nat → State
  | 0 => s
  | fuel + 1 =>
    let b := s.btu die shelf
    match b.copies.find? fun c => c.id == id with
    | none => s
    | some c =>
      if !c.started || (c.held.isSome && !c.retry) || s.waitsUnit c.kiln then s
      else
        match s.kiln? c.kiln with
        | none => s
        | some k =>
          let s := s.migrations.foldl State.migrateDone s
          (s.attempt (s.copyDo ⟨b, c, k⟩)).drainCopy die shelf id fuel

/-- The copies of a kiln that run are finished (R388), also by a freeze, so that a retirement from it finds them so. -/
def State.drainCopies (s : State) (k : Nat) : State :=
  (s.btus.flatMap fun b => b.copies.filterMap fun c => if c.kiln == k then some (b.die, b.shelf, c.id) else none).foldl
    (fun (s : State) x => s.drainCopy x.1 x.2.1 x.2.2 2049) s

/-- A kiln's lists and copies come to where they may be captured or dropped: a command boundary, the end of a copy, or what they must
wait for (R53, R355, R388). -/
def State.drainEngines (s : State) (k : Nat) : State := (s.drainLists k).drainCopies k

/-- Take a kiln's lists off the drovers, running lists first (R355). -/
def State.takeLists (s : State) (k : Nat) : List DList × State :=
  let mine := fun l : DList => l.kiln == k
  (s.drovers.flatMap fun d => (d.run.toList.filter mine) ++ d.queue.filter mine,
    let rest := s.drovers.map fun d => { d with run := d.run.filter (fun l => !mine l), queue := d.queue.filter (fun l => !mine l) }
    { s with drovers := rest.filter fun d => d.run.isSome || !d.queue.isEmpty })

/-- Take a kiln's copies off the BTUs. -/
def State.takeCopies (s : State) (k : Nat) : List BtuCopy × State :=
  let mine := fun c : BtuCopy => c.kiln == k
  (s.btus.flatMap fun b => b.copies.filter mine,
    let rest := s.btus.map fun b => { b with copies := b.copies.filter fun c => !mine c }
    { s with btus := rest.filter fun b => !b.copies.isEmpty })

/-- A culled link's report at a freeze (R400). -/
def State.linkReports (s : State) (k : Nat) : List LinkSt → Nat → State
  | [], _ => s
  | l :: r, n =>
    let s := if l.culled then
        let (l, x) := l.report
        (s.modLink k n fun _ => l).postLink k l.cfg.dst (LinkReport.mk x none)
      else s
    s.linkReports k r (n + 1)

/-- Write a readout to a save slot, 4 KiB at a time. -/
def State.spillBytes (s : State) (k rel off die shelf : Nat) (bs : List Byte) : Nat → State
  | 0 => s
  | fuel + 1 => if bs.isEmpty then s else (s.saveWrite k rel off die shelf (bs.take 4096)).spillBytes k rel (off + 4096) die shelf (bs.drop 4096) fuel

/-- A shelf's saggar takes a kiln's readout; older content of another kiln is spilled to its save slot first (R55). -/
def State.fillSaggar (s : State) (k rel die shelf : Nat) : State :=
  let s := match ((s.die die).shelf shelf).saggar with
    | some (o, r) =>
      if o != k && (s.kiln? o).isSome then
        let (bs, s) := s.readout
        s.spillBytes o r 0 die shelf bs 0x181
      else s
    | none => s
  s.modDie die fun d =>
    let x := d.shelf shelf
    d.setShelf { x with saggar := some (k, rel) }

/-- A kiln freezes (R53): what its `stat` says caused it. A kiln that waits for a unit of storage stays in the cycle in which it began
to wait (R56); one in a context switch keeps what is left of it (R188). -/
def State.freezeKiln (s : State) (k : Nat) : State :=
  let waits := s.waitsUnit k
  let s := (s.drainAccs k (4 * s.accs.length + 4)).drainEngines k
  let s := match s.kiln? k with
    | some kl => kl.stus.foldl (fun (s : State) (x : StuSt) => s.stuFinish k x.shelf 4096) s
    | none => s
  let s := if waits then s else s.cycleEnd k
  let (ls, s) := s.takeLists k
  let (cs, s) := s.takeCopies k
  match s.kiln? k with
  | none => s
  | some kl =>
    let s := s.linkReports k kl.links 0
    let s := (List.range kl.shelves).foldl (fun (s : State) r => s.fillSaggar k r kl.die (kl.shelf r)) s
    let stop := match kl.stat with
      | .freezing _ .stop => true
      | _ => false
    let s := s.modKiln k fun kl => { kl with
      stat := if stop then .stopped else .frozen
      switchLeft := kl.leftOver s.now
      lastPlace := kl.place
      place := none
      frozenAt := s.now
      waitAt := s.now
      resident := kl.resident + (s.now - kl.quantumAt)
      lists := ls
      copies := cs }
    s.snapFrozen k

/-! Resuming (R54). -/

/-- A kiln after frozen time: nothing of it has moved meanwhile. -/
def Kiln.shift (k : Kiln) (d : Nat) : Kiln :=
  { k with
    stat := match k.stat with
      | .switching t next => .switching (t + d) next
      | x => x
    ctxAt := k.ctxAt + d
    drainedAt := k.drainedAt.map (· + d)
    origin := k.origin + d
    bells := k.bells.map fun b => { b with opened := b.opened.map fun o => (o.1, o.2.1, o.2.2 + d) }
    paused := k.paused.map fun x => { x with since := x.since + d }
    tiles := k.tiles.map fun t => { t with cycAt := t.cycAt + d }
    links := k.links.map fun l => { l with sentAt := l.sentAt.map (· + d) } }

/-- A kiln that waits for a unit of storage goes on, or, frozen meanwhile, will when it is resumed (R56, R415): nothing of it has moved
since it began to wait, but the timeouts of its bells have run (R389). -/
def Kiln.unpaused (k : Kiln) (now since : Nat) : Kiln :=
  let until_ := match k.stat with
    | .frozen | .stopped => k.frozenAt
    | .starting _ => if k.startedAt == 0 then now else k.frozenAt
    | _ => now
  { k.shift (until_ - since) with bells := k.bells, paused := none }

/-- The kilns that wait for a unit under a fault's number go on. -/
def State.unpause (s : State) (uid : Nat) : State :=
  { s with kilns := s.kilns.map fun k => match k.paused with
    | some x => if x.uid == uid then k.unpaused s.now x.since else k
    | none => k }

/-- Submit a captured list ahead of every list that has not started (R355). -/
def State.kickFirst (s : State) (die slice : Nat) (l : DList) : State :=
  let d := s.drover die slice
  s.setDrover { d with queue := l :: d.queue }

/-- Put a kiln's lists and copies back. -/
def State.putEngines (s : State) (k : Nat) : State :=
  match s.kiln? k with
  | none => s
  | some kl =>
    let s := kl.lists.reverse.foldl (fun (s : State) l => s.kickFirst kl.die (kl.shelf l.shelf) l) s
    let s := kl.copies.foldl (fun (s : State) c =>
      let b := s.btu kl.die (kl.shelf c.shelf)
      s.setBtu { b with copies := b.copies ++ [c] }) s
    s.modKiln k fun kl => { kl with lists := [], copies := [] }

/-- A retry that FAULT_RESUME asked for while the kiln was frozen takes place (R415); accesses stand on the kiln's new
shelves. -/
def State.moveAccs (s : State) (kl : Kiln) : State :=
  { s with accs := s.accs.map fun a => if a.kiln == kl.id then { a with die := kl.die, shelf := kl.shelf (a.tile / 128) } else a }

/-- The saggars that held a kiln's readout are free, and slots no longer needed are released. -/
def State.clearSaggars (s : State) (k : Nat) : State :=
  let clear := fun x : ShelfSt => if (x.saggar.map Prod.fst) == some k then { x with saggar := none } else x
  { s with dies := s.dies.map fun d => { d with shelves := d.shelves.map clear } }

/-- Install every unit of a kiln. -/
def State.installAll (s : State) (kl : Kiln) : State :=
  ((List.range kl.shelves).flatMap fun rel => (List.range 72).map fun t => rel * 128 + t).foldl (fun (s : State) t =>
    (tileUnits (t % 128)).foldl (fun (s : State) u => s.ensure kl.id t u.1 u.2) s) s

/-- A placed kiln goes on from its captured state (R54); a restored one is first given the storage of its record (R375). -/
def State.resumeKiln (s : State) (k : Nat) : State :=
  match s.kiln? k with
  | none => s
  | some kl =>
    let kl := { kl.shift (s.now - kl.frozenAt) with
      stat := match kl.switchLeft with
        | some x => .switching (s.now + x.1) x.2
        | none => .running
      switchLeft := none }
    let s := s.modKiln k fun _ => kl
    let s := match s.image? kl.charge with
      | some im => s.loadCode kl im
      | none => s
    let s := if kl.restored.isSome then (s.installAll kl).modKiln k fun kl => { kl with restored := none } else s
    let s := ((s.moveAccs kl).clearSaggars k).putEngines k
    (List.range kl.shelves).foldl (fun (s : State) rel => s.slotFreed k rel) s

end Sys2Proof.Machine
end

