-- ==== Sys2Proof/Machine/Launch.lean ====
section
/-! DEFINITION. Launches and kilns from outside (R44 to R57): the allocator, the launch unit, reservations and quanta, the start
of a kiln, its phases, its completion and retirement, and the cancellation of launches (R388, R391 to R394). -/

namespace Sys2Proof.Machine

/-! Rectangles of shelves (R49). -/

/-- A rectangle of a die's 9 by 8 shelves. -/
structure Rect where
  col : Nat
  row : Nat
  cols : Nat
  rows : Nat
  deriving DecidableEq, Repr

/-- The die shelves of a rectangle, by kiln-relative shelf. -/
def Rect.shelves (r : Rect) : List Nat :=
  (List.range (r.cols * r.rows)).map fun i => 9 * (r.row + i / max 1 r.cols) + (r.col + i % max 1 r.cols)

/-- Whether two rectangles share a shelf. -/
def Rect.hits (a b : Rect) : Bool :=
  a.col < b.col + b.cols && b.col < a.col + a.cols && a.row < b.row + b.rows && b.row < a.row + a.rows

/-- The rectangles of a shape, the lowest die shelf index first. -/
def rectsOf (cols rows : Nat) : List Rect :=
  (List.range 72).filterMap fun x => if x % 9 + cols ≤ 9 && x / 9 + rows ≤ 8 then some ⟨x % 9, x / 9, cols, rows⟩ else none

/-- The rectangle on which a kiln stands. -/
def Kiln.rect? (k : Kiln) : Option Rect := k.place.map fun p => ⟨p.2.1, p.2.2, k.cols, k.rows⟩

/-- The kilns placed on a die. -/
def State.placedOn (s : State) (d : Nat) : List Kiln := s.kilns.filter fun k => (k.place.map Prod.fst) == some d

/-- The shelves of a die that stand free of kilns. -/
def State.freeShelves (s : State) (d : Nat) : Nat := 72 - ((s.placedOn d).map Kiln.shelves).sum

/-- The shelves that a paddock's resident kilns hold on a die. -/
def State.heldBy (s : State) (d p : Nat) : Nat := (((s.placedOn d).filter fun k => k.paddock == p).map Kiln.shelves).sum

/-! Save slots that placements will need (R57). -/

/-- The kilns, with their kiln-relative shelves, whose units or saggar content stand on a die shelf. -/
def State.leftOn (s : State) (d shelf : Nat) : List (Nat × Nat) :=
  ((s.units.filterMap fun u => if fld u.pa 46 2 == d && fld u.pa 39 7 == shelf then some (u.owner, fld u.rel 39 6) else none) ++
    ((s.die d).shelf shelf).saggar.toList).eraseDups.filter fun x => (s.kiln? x.1).isSome

/-- The content of others on shelves that a kiln holds or would hold, which has no save slot yet. -/
def State.slotless (s : State) (k d : Nat) (shelves : List Nat) : List (Nat × Nat) :=
  (shelves.flatMap fun x => s.leftOn d x).filter fun x =>
    x.1 != k && !(((s.kiln? x.1).map fun kl => kl.saveSlots.any fun y => y.1 == x.2).getD true)

/-- The save slots that the present placements may still ask for.
(DEDUCED, log 71.) -/
def State.promised (s : State) : List (Nat × Nat) :=
  (s.kilns.flatMap fun k => match k.place with
    | some p => s.slotless k.id p.1 ((List.range k.shelves).map fun r => k.shelfAt p r)
    | none => []).eraseDups

/-- The save slots of a paddock that are neither assigned nor promised to what stands in a list. -/
def State.slotsLeft (s : State) (p : Paddock) (need : List (Nat × Nat)) : Int :=
  (p.saveCount : Int) - p.slotsUsed.length - (need.countP fun x => ((s.kiln? x.1).map Kiln.paddock) == some p.index : Nat)

/-- Whether a kiln (0: a new one) may be placed on a rectangle: no kiln stands there, no save write is held there, and what
others left there can be saved (R57). -/
def State.rectFree (s : State) (d k : Nat) (r : Rect) : Bool :=
  (((s.placedOn d).filterMap Kiln.rect?).all fun x => !x.hits r) &&
  (s.heldSaves.all fun h => !(h.die == d && r.shelves.contains h.at_)) &&
  (let need := (s.promised ++ s.slotless k d r.shelves).eraseDups
   s.paddocks.all fun p => 0 ≤ s.slotsLeft p need)

/-! Waiting launches. -/

/-- The launch at a queue's head: a frozen kiln, or (kiln 0) the head record; its shape, and since when it has waited. -/
structure Head where
  queue : Nat
  paddock : Nat
  prio : Nat
  cols : Nat
  rows : Nat
  kiln : Nat
  since : Nat
  deriving DecidableEq, Repr

/-- The frozen kiln at the head of a queue: the one frozen last (R54, R388). -/
def State.frozenHead (s : State) (q : Nat) : Option Kiln :=
  (s.kilns.filter fun k => k.queue == q && k.stat == .frozen).foldl (fun b k => match b with
    | some x => if x.waitAt ≤ k.waitAt then some k else b
    | none => some k) none

/-- The waiting launch that a queue offers: its head alone is considered (R48, R54). -/
def State.headOf (s : State) (q : QueueSt) : Option Head :=
  if q.record then none
  else
    match s.frozenHead q.index with
    | some k => some ⟨q.index, q.paddock, q.prio, k.cols, k.rows, k.id, k.waitAt⟩
    | none =>
      match q.onchip, q.metas with
      | r :: _, m :: _ =>
        if m.eligible && q.canPop s.now then
          (s.image? (recCharge r)).map fun im => ⟨q.index, q.paddock, q.prio, im.cols, im.rows, 0, m.eligAt⟩
        else none
      | _, _ => none

/-- The waiting head launches of a die. -/
def State.heads (s : State) (d : Nat) : List Head := (s.queues.filter fun q => q.die == d).filterMap s.headOf

/-- The reservations of a die that stand: those of the launches that are heads now (R51). -/
def State.reserved (s : State) (d : Nat) : List Reservation :=
  (s.die d).reservations.filter fun r => (s.heads d).any fun h =>
    h.queue == r.queue && h.kiln == r.kiln && h.cols == r.cols && h.rows == r.rows

def Reservation.rect (r : Reservation) : Rect := ⟨r.col, r.row, r.cols, r.rows⟩

/-- Whether a head may take a rectangle: it is free, and no reservation of a higher priority covers it (R51). -/
def State.allows (s : State) (d : Nat) (h : Head) (r : Rect) : Bool :=
  s.rectFree d h.kiln r && (s.reserved d).all fun x => x.queue == h.queue || h.prio ≤ x.prio || !x.rect.hits r

/-- The rectangle that the allocator gives a head without compaction (R49). -/
def State.fit (s : State) (d : Nat) (h : Head) : Option Rect := (rectsOf h.cols h.rows).find? fun r => s.allows d h r

/-! Compaction (R50). -/

/-- A kiln takes shelves: its shelves leave their power state (R380), and step 5 or the resumption follows. -/
def State.putOn (s : State) (k d : Nat) (r : Rect) : State :=
  let (w, s) := s.draw
  let die := s.die d
  let wake := fun x : ShelfSt => match x.power with
    | 1 => s.now + 2 * tUs
    | 2 => s.now + 40 * tUs
    | _ => x.wakeAt
  let at_ := r.shelves.foldl (fun a x => max a (wake (die.shelf x))) (s.now + w)
  let s := s.modDie d fun y => r.shelves.foldl (fun y i =>
    let x := y.shelf i
    y.setShelf { x with power := 0, wakeAt := wake x }) y
  s.modKiln k fun kl => { kl with
    place := some (d, r.col, r.row), stat := .starting at_, quantumAt := s.now, throttle := if die.clamped then 7 else kl.throttle }

/-- Bring a kiln's units to the shelves where it now stands; the poison of a granule goes with it. -/
def State.bringUnits (s : State) (k : Nat) : State :=
  match s.kiln? k with
  | none => s
  | some kl =>
    let mine := s.units.filter fun u => u.owner == k
    let held := mine.map fun u => (u, s.bytes u.pa (unitLen (fld u.rel 32 7) (fld u.rel 29 3) (fld u.rel 0 29)))
    let bad := mine.map fun u => (u.pa, s.poison.filter fun g => u.pa ≤ 16 * g && 16 * g < u.pa + 4096)
    let s := { s with units := s.units.filter fun u => u.owner != k }
    let s := { s with poison := s.poison.filter fun g => !(bad.any fun x => x.2.contains g) }
    held.foldl (fun (s : State) (x : UnitSt × List Byte) =>
      let pa := kl.pa (fld x.1.rel 39 6 * 128 + fld x.1.rel 32 7) (fld x.1.rel 29 3) (fld x.1.rel 0 29)
      let s := match s.units.find? fun u => u.pa == pa with
        | some u => s.evict u
        | none => s
      let s := s.wipe pa (pa + x.2.length)
      let s := s.pokeAt (((List.range x.2.length).zip x.2).filterMap fun y => if y.2 = 0 then none else some (pa + y.1, y.2))
      let gs := ((bad.find? fun b => b.1 == x.1.pa).map Prod.snd).getD []
      { s with units := s.units ++ [UnitSt.mk pa x.1.rel k x.1.dirty], poison := s.poison ++ gs.map fun g => g - x.1.pa / 16 + pa / 16 }) s

/-- Move a resident kiln (R50): freeze, copy, and resume where it now stands; the copy takes the readout from the saggars. -/
def State.moveKiln (s : State) (k d : Nat) (r : Rect) : State := (((s.freezeKiln k).putOn k d r).bringUnits k).clearSaggars k

/-- The first resident kiln, by its present origin, that can move to a lower rectangle, with that rectangle: none that a launch of
higher priority has reserved (R51). -/
def State.nextMove (s : State) (d : Nat) : Option (Nat × Rect) :=
  (rectsOf 1 1).findSome? fun x =>
    match (s.placedOn d).find? fun k => k.stat == .running && k.snap.isNone && (k.rect?.any fun r => r.col == x.col && r.row == x.row) with
    | none => none
    | some k =>
      let others := ((s.placedOn d).filter fun y => y.id != k.id).filterMap Kiln.rect?
      ((rectsOf k.cols k.rows).find? fun r =>
        9 * r.row + r.col < 9 * x.row + x.col && (others.all fun y => !y.hits r) &&
        (let prio := ((s.queue? k.queue).map QueueSt.prio).getD 7
         (s.reserved d).all fun y => prio ≤ y.prio || !y.rect.hits r) &&
        (s.heldSaves.all fun h => !(h.die == d && r.shelves.contains h.at_)) &&
        (let need := (s.promised ++ s.slotless k.id d r.shelves).eraseDups
         s.paddocks.all fun p => 0 ≤ s.slotsLeft p need)).map fun r => (k.id, r)

/-- Move kilns one by one until a head's rectangle exists; nothing when no moves make one.
(DEDUCED, log 70.) -/
def State.compact (s : State) (d : Nat) (h : Head) : Nat → Option (State × Rect)
  | 0 => none
  | n + 1 =>
    match s.nextMove d with
    | none => none
    | some m =>
      let s := s.moveKiln m.1 d m.2
      match s.fit d h with
      | some r => some (s, r)
      | none => s.compact d h n

/-- Place for a head: a rectangle, after compaction if that is needed and enough shelves are free (R49, R50). -/
def State.room (s : State) (d : Nat) (h : Head) : Option (State × Rect) :=
  match s.fit d h with
  | some r => some (s, r)
  | none => if h.cols * h.rows ≤ s.freeShelves d then s.compact d h 128 else none

/-! The launch unit (R48). -/

/-- A paddock's credit on a die. -/
def DieSt.creditOf (x : DieSt) (p : Nat) : Int := ((x.credit.find? fun c => c.1 == p).map Prod.snd).getD 0

/-- The place of a queue in the round robin of its paddock and priority. -/
def DieSt.turnOf (x : DieSt) (h : Head) : Nat :=
  match x.lastQueue.find? fun l => l.1 == h.paddock && l.2.1 == h.prio with
  | some l => (h.queue + 255 - l.2.2) % 256
  | none => h.queue

/-- Of a list of heads, the one with the least key. -/
def leastHead (key : Head → Nat) (hs : List Head) : Option Head :=
  hs.foldl (fun b h => match b with
    | some x => if key h < key x then some h else b
    | none => some h) none

/-- A paddock's share on a die. -/
def State.shareOf (s : State) (d p : Nat) : Nat := ((s.paddock? p).map fun x => x.share.getD d 0).getD 0

/-- The head that the launch unit of a die picks, and the credits after it (R48). A reservation whose rectangle is free comes
first (R51); then the paddocks in ascending order, in as many rounds as it takes until one can pay.
(DEDUCED, log 60.) -/
def State.choose (s : State) (d : Nat) : Option (Head × Option Rect × List (Nat × Int)) :=
  let x := s.die d
  let hs := s.heads d
  let credits := (List.range 16).map fun p => (p, x.creditOf p)
  let ready := (s.reserved d).filter fun r => hs.any fun h => h.queue == r.queue && s.allows d h r.rect
  match leastHead (fun h => h.prio * 256 + h.queue) (hs.filter fun h => ready.any fun r => r.queue == h.queue) with
  | some h => some (h, (ready.find? fun r => r.queue == h.queue).map Reservation.rect, credits)
  | none =>
    let chosen := (List.range 16).filterMap fun p =>
      leastHead (fun h => h.prio * 256 + x.turnOf h) (hs.filter fun h => h.paddock == p && (s.room d h).isSome)
    let rounds := chosen.filterMap fun h =>
      let need : Int := h.cols * h.rows - x.creditOf h.paddock
      let share := s.shareOf d h.paddock
      if need ≤ 0 then some 0 else if share == 0 then none else some ((need.toNat + share - 1) / share)
    match rounds with
    | [] => none
    | n :: ns =>
      let m := ns.foldl min n
      let credits := credits.map fun c => (c.1, c.2 + if hs.any fun h => h.paddock == c.1 then (m * s.shareOf d c.1 : Int) else 0)
      let pays := fun h : Head => ((h.cols * h.rows : Nat) : Int) ≤ ((credits.find? fun c => c.1 == h.paddock).map Prod.snd).getD 0
      (chosen.find? pays).map fun h => (h, none, credits)

/-- A kiln of a launch record, before it is placed (R44): the argument words stand in their VCs and enter at the start. Like a later
context, context 0 delivers only the ticks that fall after the cycle in which it begins, its cycle 0 (R87). -/
def State.newKiln (s : State) (q : QueueSt) (r : Rec8) (c : Charge) : Kiln :=
  let im := c.image
  let fullOf := fun t => (im.images.filter fun x => x.id == t && x.space == 0 && !x.bytes.isEmpty).foldl (fun acc x =>
    (List.range ((x.off + x.bytes.length + 15) / 16 - x.off / 16)).foldl (fun acc i => insertNat (x.off / 16 + i) acc) acc) []
  let args := im.args.zipIdx.filterMap fun a => a.1.map fun p => VcTok.mk p.1 p.2 (Tok.val (recArg r a.2)) 0
  { id := s.nextKiln, charge := c.id, paddock := q.paddock, queue := q.index, record := r, cols := im.cols, rows := im.rows
    stat := .starting 0, place := none, lastPlace := none, ctx := 0, ctxAt := 0, race := c.race, origin := 0, signals := 0, sigWrites := []
    bells := im.bells.map fun b => BellSt.mk b.1 b.2 0 0 none false [] []
    counters := List.replicate 8 0
    tiles := im.tileIds.map fun t => { im.tileIn 0 (TileSt.fresh t 0) 1 with full := fullOf t }
    argq := args, links := im.linksIn 0, sinks := im.sinks.map fun x => (x.1, x.2.1, x.2.2, false)
    drainedAt := none, rsus := im.rsusIn 0, stus := [], quantumAt := s.now, resident := 0, startedAt := 0, throttle := 0
    frozenAt := 0, waitAt := 0, stops := [], lists := [], copies := [], snap := none, saveSlots := [], savedUnits := []
    restored := none
    paused := none
    switchLeft := none
    arrivalsAt := none }

/-- The kiln that the readouts of a snapshot record hold, where the record is not one that this package wrote: the spec gives the
readout no format.
(DESIGN CHOICE, log 10.) -/
opaque readoutKiln : List (List Byte) → Option Kiln

/-- The readouts of a snapshot record, one for each shelf (R374). -/
def State.readouts (s : State) (p va shelves : Nat) : List (List Byte) :=
  (List.range shelves).map fun rel =>
    match s.paddock? p with
    | none => []
    | some pd =>
      match (s.vaRead pd .never (va + 0x1000 + 0x2000000 * rel) 0x180000).1 with
      | .ok bs => bs
      | .error _ => []

/-- What a restored launch's record holds (R375): the state that this package captured in it, also before a reset, or what its readouts
give. -/
def State.recordSnap (s : State) (fresh : Kiln) (y : Nat × Nat × Nat) : Option Snap :=
  (s.snaps.reverse.find? fun z => z.kilnId == y.1 && z.time == y.2.1).orElse fun _ =>
    (readoutKiln (s.readouts fresh.paddock y.2.2 fresh.shelves)).map fun k => ⟨y.1, y.2.1, { k with cols := fresh.cols, rows := fresh.rows }, []⟩

/-- A kiln that is given a captured state in place of its charge's images (R375). Its held or waiting accesses come with it,
under their numbers.
(DESIGN CHOICE, log 74.) -/
def State.restoredKiln (s : State) (fresh : Kiln) (x : Snap) (va : Nat) : Kiln × State :=
  ({ x.kiln with
      id := fresh.id, charge := fresh.charge, paddock := fresh.paddock, queue := fresh.queue, record := fresh.record, race := fresh.race
      stat := .starting 0, resident := 0, startedAt := 1, throttle := 0, restored := some (fresh.paddock, va)
      lists := x.kiln.lists.map fun l => { l with kiln := fresh.id }
      copies := x.kiln.copies.map fun c => { c with kiln := fresh.id } },
    { s with accs := s.accs ++ x.accs.map fun a => { a with kiln := fresh.id } })

/-- The head record of a queue leaves it as a kiln (R44, step 3). -/
def State.takeHead (s : State) (q : Nat) : Option (Nat × State) :=
  match s.queue? q with
  | none => none
  | some x =>
    let restore := (x.metas.head?).bind LaunchMeta.restore
    match s.popRec q with
    | none => none
    | some (r, s) =>
      (s.charge? (recCharge r)).map fun c =>
        let fresh := s.newKiln x r c
        let s := { s with nextKiln := s.nextKiln + 1 }
        match restore with
        | some y =>
          match s.recordSnap fresh y with
          | some z =>
            let (kl, s) := s.restoredKiln fresh z y.2.2
            (fresh.id, { s with kilns := s.kilns ++ [kl] })
          | none => (fresh.id, { s with kilns := s.kilns ++ [{ fresh with restored := some (fresh.paddock, y.2.2) }] })
        | none => (fresh.id, { s with kilns := s.kilns ++ [fresh] })

/-- The launch unit picks and places (R44, steps 3 and 4). -/
def State.pick (s : State) (d : Nat) : Option State :=
  if (s.die d).tripped || s.power == 3 then none
  else
    match s.choose d with
    | none => none
    | some (h, r, credits) =>
      match (match r with
        | some r => some (s, r)
        | none => s.room d h) with
      | none => none
      | some (s, r) =>
        match (if h.kiln == 0 then s.takeHead h.queue else some (h.kiln, s)) with
        | none => none
        | some (k, s) =>
          let s := s.putOn k d r
          some (s.modDie d fun y => { y with
            credit := (credits.map fun (c : Nat × Int) => if c.1 == h.paddock then (c.1, c.2 - h.cols * h.rows) else c).filter fun c => c.2 != 0
            lastQueue := (y.lastQueue.filter fun l => !(l.1 == h.paddock && l.2.1 == h.prio)) ++ [(h.paddock, h.prio, h.queue)]
            reservations := y.reservations.filter fun x => !(x.queue == h.queue && x.kiln == h.kiln) })

/-- The die that the cursor names. -/
def State.curDie (s : State) : Option Nat :=
  match s.cursor with
  | .die d _ _ => some d
  | _ => none

/-- LAUNCH_PICK (R48 to R50). -/
def execLaunchPick (s : State) : Host.Outcome State Fault Refusal :=
  match s.curDie with
  | none => .fault .notDue
  | some d => s.happen (s.pick d).isSome fun s => (s.pick d).getD s

/-- The quantum of a paddock, in units of time (R52). -/
def State.quantumOf (s : State) (p : Nat) : Nat := ((s.paddock? p).map Paddock.quantum).getD 100 * tUs

/-- The rectangle that a head which has waited two quanta reserves: the first that holds no kiln of higher priority (R51). -/
def State.reservable (s : State) (d : Nat) (h : Head) : Option Rect :=
  let above := (s.placedOn d).filter fun k => ((s.queue? k.queue).map QueueSt.prio).getD 7 < h.prio
  let taken := above.filterMap Kiln.rect?
  if s.now ≤ h.since + 2 * s.quantumOf h.paddock || (s.reserved d).any fun x => x.queue == h.queue && x.kiln == h.kiln then none
  else (rectsOf h.cols h.rows).find? fun r => taken.all fun x => !x.hits r

/-- LAUNCH_RESERVATION (R51): the die and the queue are the cursor's. -/
def execLaunchReservation (s : State) : Host.Outcome State Fault Refusal :=
  match s.cursor with
  | .die d q _ =>
    match (s.heads d).find? fun h => h.queue == q with
    | none => .fault .notDue
    | some h =>
      match s.reservable d h with
      | none => .fault .notDue
      | some r => s.happen true fun s => s.modDie d fun x => { x with
          reservations := (x.reservations.filter fun y => !(y.queue == q && y.kiln == h.kiln)) ++
            [⟨q, h.kiln, r.col, r.row, r.cols, r.rows, h.prio⟩] }
  | _ => .fault .notDue

/-! Start (R44, step 5). -/

/-- Kick the lists of a charge that a launch starts, all at once (R44, R337, R338). -/
def State.kickAll (s : State) (kl : Kiln) (im : Image) : State :=
  let g := 0 :: (List.range 5).map fun i => recArg kl.record i
  im.lists.zipIdx.foldl (fun (s : State) (x : ListSec × Nat) =>
    if x.1.task then s else s.kick kl.die (kl.shelf x.1.shelf) (DList.start kl.id x.1.shelf (.charge x.2) g [])) s

/-- A placed kiln starts, or goes on from its captured state. -/
def State.startKiln (s : State) (k : Nat) : State :=
  match s.kiln? k with
  | none => s
  | some kl =>
    if kl.startedAt != 0 then s.resumeKiln k
    else
      let kl := { kl with
        stat := .running, startedAt := max 1 s.now, ctxAt := s.now, origin := s.now
        tiles := kl.tiles.map fun t => { t with cycAt := s.now }
        argq := kl.argq.map fun a => { a with at_ := s.now } }
      let s := s.modKiln k fun _ => kl
      match s.image? kl.charge with
      | some im => (s.loadCode kl im).kickAll kl im
      | none => s

/-- Whether the write of an earlier kiln's content to its save slot is held on a shelf where a kiln stands (R57). -/
def State.savesHeldOn (s : State) (k : Kiln) : Bool :=
  s.heldSaves.any fun h => k.rect?.any fun r => h.die == k.die && r.shelves.contains h.at_

/-- Whether a placed kiln may start: its shelves are awake, what others left there is saved, and its data images stand. -/
def State.startsNow (s : State) (k : Kiln) : Bool :=
  match k.stat with
  | .starting t => t ≤ s.now && (s.unitsDue k).isEmpty && k.paused.isNone && !s.savesHeldOn k
  | _ => false

/-- LAUNCH_START (R44, R54). -/
def execLaunchStart (s : State) : Host.Outcome State Fault Refusal :=
  match s.curKiln with
  | none => .fault .notDue
  | some (k, _) => s.happen (s.startsNow k) fun s => s.startKiln k.id

/-! Cancellation (R392). -/

/-- A launch that has not been picked: its queue, its place there, its record, and whether it is eligible. -/
structure Waiting where
  queue : Nat
  pos : Nat
  record : Rec8
  eligible : Bool
  deriving DecidableEq, Repr

/-- The launches of a paddock that have not been picked, in queue order, queue index ascending. -/
def State.waiting (s : State) (p : Nat) : List Waiting :=
  (s.queues.filter fun q => q.paddock == p && !q.record).flatMap fun q =>
    q.metas.zipIdx.filterMap fun x => if x.1.cancelled then none else some ⟨q.index, x.2, (s.queueRec q x.2).getD recUnread, x.1.eligible⟩

/-- The DONE counters of launches, NOCOUNT aside. -/
def doneCounters (ws : List Waiting) : List Nat := ws.filterMap fun w => if recNoCount w.record then none else some (recDone w.record)

/-- Close a cancellation set (R392): launches not yet eligible whose DEP0 or DEP1 names a member's DONE counter join it. -/
def closeSet (all : List Waiting) : Nat → List Waiting → List Nat → List Waiting
  | 0, set, _ => set
  | n + 1, set, ctrs =>
    let more := all.filter fun w => !set.contains w && !w.eligible && (recDeps w.record).any fun d => ctrs.contains d.1
    if more.isEmpty then set else closeSet all n (set ++ more) (ctrs ++ doneCounters more)

/-- The closed cancellation set of seeds and counters, in queue order. -/
def State.cancelSet (s : State) (p : Nat) (seeds : List Waiting) (ctrs : List Nat) : List Waiting :=
  let all := s.waiting p
  let set := closeSet all (all.length + 1) seeds (ctrs ++ doneCounters seeds)
  all.filter fun w => set.contains w

/-- Take records at some places out of a queue: those on-chip at once, those of the ring when they come to its head. The entries
of those that stood on-chip when the cycle began are free from the next cycle on (R357). -/
def QueueSt.without (q : QueueSt) (now : Nat) (ps : List Nat) : QueueSt :=
  let q := q.turn now
  let n := q.onchip.length
  let kept := q.onchip.zipIdx.filterMap fun x => if ps.contains x.2 then none else some x.1
  let old := n - q.addedNow
  let gone := ((List.range n).filter fun i => ps.contains i && i < old).length
  { q with
    onchip := kept
    addedNow := kept.length - (old - gone)
    freedNow := q.freedNow + gone
    metas := q.metas.zipIdx.filterMap fun x =>
      if ps.contains x.2 then (if x.2 < n then none else some { x.1 with cancelled := true }) else some x.1 }

/-- How an absent unit is placed for a completion word.
(DESIGN CHOICE, log 116.) -/
def Retiring.placer (x : Retiring) : Placer :=
  match x.slice with
  | some i => .slice x.die i
  | none => .fold x.die

/-- Write a launch's completion word (R46, R394). One behind a peer port that is down is held (R426): the number of its record is
answered. One that cannot be written otherwise leaves an event record at the queue's home die; a cause that R394 does not name is posted
as TRANSLATION_NOT_PRESENT, with word 6 as R430 gives it.
(DEDUCED, log 108.) -/
def State.writeWord (s : State) (x : Retiring) : Option Nat × State :=
  if recNoWord x.record then (none, s)
  else
    match s.paddock? x.paddock with
    | none => (none, s)
    | some pd =>
      match s.vaWrite pd x.placer (recWordVa x.record) (leBytes 8 x.word) with
      | (.ok _, s) => (none, s)
      | (.error f, s) =>
        let req : FaultReq :=
          { cause := f.cause, cls := 1, access := f.access, stage := f.stage, va := recWordVa x.record, die := x.home,
            paddock := x.paddock, kiln := x.kiln, queue := x.queue, w6 := f.w6, w7 := f.w7 }
        if f.cause == 0x58 then
          let (uid, s) := s.postFault req
          (some uid, s)
        else
          let own := f.cause == 0x21 || f.cause == 0x22
          (none, s.postEvent { req with
            cause := if own then f.cause else 0x21, cls := 2, access := 0, stage := 0
            w6 := if f.cause == 0x24 then 0 else f.w6, w7 := if own || f.cause == 0x24 then f.w7 else 0 })

/-- Count a launch as done (R44, step 8). -/
def State.countDone (s : State) (p : Nat) (r : Rec8) : State := if recNoCount r then s else s.addCounter p (recDone r) 1

/-- Launches retire in order: each with its completion word and then its counter (R47). Where a word is held, what comes after it waits
(R426). -/
def State.retireAll (s : State) : List Retiring → State
  | [] => s
  | x :: rest =>
    match s.writeWord x with
    | (none, s) => (s.countDone x.paddock x.record).retireAll rest
    | (some uid, s) => { s with heldWords := s.heldWords ++ [⟨uid, x, rest⟩] }

/-- A held completion word is written again (R416). -/
def State.retryWord (s : State) (h : HeldWord) : State :=
  { s with heldWords := s.heldWords.filter fun x => x.uid != h.uid }.retireAll (h.launch :: h.rest)

/-- A held completion word is given up: its launch counts as done without it, and those after it retire. -/
def State.dropWord (s : State) (h : HeldWord) : State :=
  ({ s with heldWords := s.heldWords.filter fun x => x.uid != h.uid }.countDone h.launch.paddock h.launch.record).retireAll h.rest

/-- The reservation of a queue's head record goes with the record (R51, R392). -/
def State.unreserve (s : State) (qs : List Nat) : State :=
  { s with dies := s.dies.map fun d => { d with reservations := d.reservations.filter fun r => !(r.kiln == 0 && qs.contains r.queue) } }

/-- The members of a cancellation set leave their queues, to retire CANCELLED (R392). -/
def State.leaveQueues (s : State) (p : Nat) (ws : List Waiting) : List Retiring × State :=
  (ws.map fun w =>
    let race := ((s.charge? (recCharge w.record)).map Charge.race).getD false
    let home := ((s.queue? w.queue).map QueueSt.die).getD 0
    ⟨p, w.queue, home, 0, home, none, w.record, 1 + race.toNat * 2 ^ 8⟩,
  let s := s.unreserve ((ws.filter fun w => w.pos == 0).map Waiting.queue)
  { s with queues := s.queues.map fun q => q.without s.now (ws.filterMap fun w => if w.queue == q.index then some w.pos else none) })

/-- The members of a cancellation set retire CANCELLED, in order (R392). -/
def State.cancelAll (s : State) (p : Nat) (ws : List Waiting) : State :=
  let (xs, s) := s.leaveQueues p ws
  s.retireAll xs

/-! Retirement (R46, R47, R388). -/

/-- A snapshot of a kiln that ends before the capture finishes completes with RESULT 2 (R390).
(DEDUCED, log 80.) -/
def State.snapGone (s : State) (k : Nat) : State :=
  match (s.kiln? k).bind Kiln.snap with
  | none => s
  | some r =>
    let rest := s.outstanding.filter fun o => match o with | .snapshot _ x => x != k | _ => true
    { s with outstanding := rest }.complete r.tag 0x0F 0 2

/-- Everything of a kiln leaves the machine: its shelves, units, saggars and save slots are free. -/
def State.dropKiln (s : State) (k : Nat) : State :=
  let s := ((s.takeLists k).2.takeCopies k).2
  let s := s.clearSaggars k
  { s with
    kilns := s.kilns.filter fun x => x.id != k
    accs := s.accs.filter fun a => a.kiln != k
    units := s.units.filter fun u => u.owner != k
    heldSaves := s.heldSaves.filter fun h => h.kiln != k
    paddocks := s.paddocks.map fun p => { p with slotsUsed := p.slotsUsed.filter fun u => u.2.1 != k } }

/-- A kiln retires: it leaves its shelves, and its launch gets its completion word and its counter; then the cancellation set of an aborted
one, formed before, retires (R46, R47, R388, R392).
(DESIGN CHOICE, log 116.) -/
def State.retire (s : State) (k status : Nat) : State :=
  match s.kiln? k with
  | none => s
  | some kl =>
    let s := s.snapGone k
    let at_ := (kl.place.orElse fun _ => kl.lastPlace).getD (0, 0, 0)
    let time := kl.resident + (if kl.place.isSome then s.now - kl.quantumAt else 0)
    let w := status + kl.race.toNat * 2 ^ 8 + kl.shelves * 2 ^ 16 + min (time / tUs) (2 ^ 32 - 1) * 2 ^ 32
    let me : Retiring := ⟨kl.paddock, kl.queue, ((s.queue? kl.queue).map QueueSt.die).getD 0, k, at_.1, some (kl.shelfAt at_ 0), kl.record, w⟩
    let set := if status == 2 && !recNoCount kl.record then s.cancelSet kl.paddock [] [recDone kl.record] else []
    let (xs, s) := (s.dropKiln k).leaveQueues kl.paddock set
    s.retireAll (me :: xs)

/-- The links of a kiln that stands on shelves report what they have culled since their last report, before it retires (R400). -/
def State.lastReports (s : State) (k : Nat) : State :=
  match s.kiln? k with
  | some kl => if kl.place.isSome then s.linkReports k kl.links 0 else s
  | none => s

/-- A kiln is retired without a readout, STATUS ABORTED (R388): accesses already sent complete, lists and copies stop at a command
boundary, and culled links report as at a freeze (R393, R400), first. -/
def State.abortKiln (s : State) (k : Nat) : State :=
  (((s.drainAccs k (4 * s.accs.length + 4)).drainEngines k).lastReports k).retire k 2

/-- Teardowns whose last launch has retired complete, and their queue indices are free (R391, R393). -/
def State.reap (s : State) : State :=
  s.outstanding.foldl (fun (s : State) (o : Outstanding) => match o with
    | .teardown tag q code =>
      if (s.kilns.any fun k => k.queue == q) || s.heldWords.any fun h => (h.launch :: h.rest).any fun x => x.queue == q then s
      else
        let rest := s.outstanding.filter fun x => x != o
        { s with queues := s.queues.filter fun x => x.index != q, outstanding := rest }.complete tag code 0 0
    | _ => s) s

/-- Whether a sink has received its level-7 stop.
(DEDUCED, log 63.) -/
def Kiln.sinkDone (k : Kiln) (x : Bool × Nat × Nat × Bool) : Bool :=
  x.2.2.2 || (k.links.any fun l => l.cfg.port != 8 && l.cfg.plane == x.1 && l.cfg.dst == x.2.1 && l.cfg.dvc == x.2.2.1 &&
    l.slots.any fun y => y.toks.any fun t => t.2.isStop7)

/-- Whether lists or copies of a kiln are under way. -/
def State.listsOf (s : State) (k : Nat) : Bool :=
  s.drovers.any fun d => (d.run.any fun l => l.kiln == k) || d.queue.any fun l => l.kiln == k
def State.copiesOf (s : State) (k : Nat) : Bool := s.btus.any fun b => b.copies.any fun c => c.kiln == k

/-- Whether a running kiln has completed (R44, step 7).
(DEDUCED, log 65.) -/
def State.completed (s : State) (k : Kiln) : Bool :=
  (match k.stat with
   | .running => true
   | .freezing since .trip => since == s.now
   | _ => false) && k.sinks.all k.sinkDone && k.linksDrained && !s.listsOf k.id && !s.copiesOf k.id

/-- Whether an issued instruction has still to make an access to a slice. -/
def Work.owesAccess : Work → Bool
  | .portWait _ _ _ | .engine (.gtatt _ _) _ _ | .engine (.gtdet _ _) _ _ | .engine (.gtfld _ _) _ _ => true
  | _ => false

/-- Whether a completed kiln retires: all accesses that its tiles have issued have performed (R47, R188). -/
def State.completes (s : State) (k : Kiln) : Bool :=
  s.completed k && (s.accs.all fun a => a.kiln != k.id) && k.tiles.all fun t => t.execs.all fun x => x.pend.all fun p => !p.work.owesAccess

/-- KILN_COMPLETE (R44, R46, R47); an episode of culling still open ends (R400). -/
def execKilnComplete (s : State) : Host.Outcome State Fault Refusal :=
  match s.curKiln with
  | none => .fault .notDue
  | some (k, _) => s.happen (s.completes k) fun s => ((s.lastReports k.id).retire k.id 0).reap

/-! Phases (R38, R39). -/

/-- Whether every task of a kiln has ended, has halted, or does not exist. -/
def Kiln.tasksDone (k : Kiln) : Bool :=
  k.tiles.all fun t => t.execs.isEmpty && t.tasks.all fun x => x.stat == .ended || x.stat == .halted || x.stat == .absent

/-- Whether a kiln's phase ends now: it has not completed, its tasks, links and lists are done, no access of its still owes a
token to a link, and 16 cycles have passed since the last link drained, so that the signals stand as R40 forms the index from
(R38, R44, R355).
(DEDUCED, log 64.) -/
def State.phaseEnds (s : State) (k : Kiln) : Bool :=
  k.stat == .running && !s.completed k && k.tasksDone && k.linksDrained && !s.listsOf k.id && !(s.accs.any fun a => a.kiln == k.id && a.alone) &&
  (k.drainedAt.any fun t => t + 16 * queueCycle ≤ s.now)

/-- PHASE_END (R38, R45): the next context is chosen, and the 64 cycles of the switch begin. -/
def execPhaseEnd (s : State) : Host.Outcome State Fault Refusal :=
  match s.curKiln with
  | none => .fault .notDue
  | some (k, _) => s.happen (s.phaseEnds k) fun s =>
      let next := ((s.image? k.charge).map fun im => im.next.getD (16 * k.ctx + k.signals.toNat % 16) 0).getD 0
      s.modKiln k.id fun kl => { kl with
        sinks := kl.sinks.map fun x => (x.1, x.2.1, x.2.2.1, kl.sinkDone x)
        stat := .switching (s.now + 64 * queueCycle) next }

/-- A kiln enters a context (R39): the overload episodes of its links end (R400), the stops in sink VCs are discarded, also where the
ending context binds the VC to a block, and argument tokens not yet taken stay in their VCs.
(DESIGN CHOICE, log 113.) -/
def State.switchTo (s : State) (k next : Nat) : State :=
  let s := match s.kiln? k with
    | some kl => s.linkReports k kl.links 0
    | none => s
  match (s.kiln? k).bind fun kl => (s.image? kl.charge).map fun im => (kl, im) with
  | none => s
  | some (kl, im) =>
    let kl := { kl with
      stat := .running, ctx := next, ctxAt := s.now, drainedAt := none, links := im.linksIn next, rsus := im.rsusIn next
      arrivalsAt := none
      tiles := kl.tiles.map fun t => im.tileIn next t (if t.cycAt == s.now then t.cyc + 1 else t.cyc) }
    (s.modKiln k fun _ => kl).loadCode kl im

/-- Whether the reconfiguration token has passed and the switch's cycles are over (R38, R188). -/
def State.switchDone (s : State) (k : Kiln) : Option Nat :=
  match k.stat with
  | .switching t next => if t ≤ s.now && !s.copiesOf k.id && s.accs.all fun a => a.kiln != k.id then some next else none
  | _ => none

/-- CONTEXT_SWITCH_COMPLETE (R39). -/
def execContextSwitchComplete (s : State) : Host.Outcome State Fault Refusal :=
  match s.curKiln with
  | none => .fault .notDue
  | some (k, _) =>
    match s.switchDone k with
    | none => .fault .notDue
    | some next => s.happen true fun s => s.switchTo k.id next

/-! Quanta (R52). -/

/-- Whether a kiln's quantum has run out and a waiting launch asks for its shelves.
(DEDUCED, log 62.) -/
def State.quantumEnds (s : State) (k : Kiln) : Bool :=
  let d := k.die
  let prio := ((s.queue? k.queue).map QueueSt.prio).getD 7
  k.stat == .running && k.quantumAt + s.quantumOf k.paddock ≤ s.now && !(s.die d).tripped && !s.completed k &&
  ((s.paddock? k.paddock).any fun p =>
    (((List.range k.shelves).countP fun r => !(k.saveSlots.any fun x => x.1 == r) : Nat) : Int) ≤ s.slotsLeft p s.promised) &&
  (s.heads d).any fun h => h.prio ≤ prio && (h.paddock == k.paddock || s.heldBy d h.paddock < s.shareOf d h.paddock) && (s.room d h).isNone

/-- QUANTUM_EXPIRY (R52, R53): the kiln freezes when its tiles' present cycles are over. -/
def execQuantumExpiry (s : State) : Host.Outcome State Fault Refusal :=
  match s.curKiln with
  | none => .fault .notDue
  | some (k, _) => s.happen (s.quantumEnds k) fun s => s.modKiln k.id fun kl => { kl with stat := .freezing s.now .quantum }

/-! Taking kilns off their shelves. -/

/-- A placed kiln leaves its shelves as a waiting launch: one that has not started leaves nothing there.
(DESIGN CHOICE, log 72.)
(DESIGN CHOICE, log 72.)
(DESIGN CHOICE, log 72.) (DEDUCED, log 73.) -/
def State.evacuate (s : State) (k : Nat) : State :=
  match s.kiln? k with
  | none => s
  | some kl =>
    match kl.stat with
    | .starting _ => s.modKiln k fun kl => { kl with
        stat := .frozen, lastPlace := if kl.startedAt == 0 then kl.lastPlace else kl.lastPlace.orElse fun _ => kl.place
        place := none, waitAt := s.now, resident := kl.resident + (s.now - kl.quantumAt) }
    | .running | .switching _ _ | .freezing _ _ => s.freezeKiln k
    | .frozen | .stopped => s

/-- A freeze that began in the cycle now over takes place; after a snapshot's freeze the kiln goes on at once on its own
shelves (R59, R385); a kiln that a trip meets and that completes is let complete (R424). -/
def State.freezeNow (s : State) (k : Nat) : State :=
  match s.kiln? k with
  | none => s
  | some kl =>
    match kl.stat with
    | .freezing _ .snapshot =>
      let s := s.freezeKiln k
      (s.modKiln k fun kl => { kl with place := kl.lastPlace, quantumAt := s.now }).resumeKiln k
    | .freezing _ .trip => if s.completed kl then s.modKiln k fun kl => { kl with stat := .running } else s.freezeKiln k
    | .freezing _ _ => s.freezeKiln k
    | _ => s

end Sys2Proof.Machine
end

