-- ==== Sys2Proof/Machine/Shapes.lean ====
section
/-! DEFINITION. The shape of each tile instruction, as its entry states it: how it reads the positions A, B and C (R223, R251,
R278, R306, R307), the plane of what it sends to TGA and TGB (R224, R253, R278), whether it sends nothing (R222), the region mode
that it needs (R117), and whether it is a memory instruction (R178, R279). -/

namespace Sys2Proof.Machine

/-- How an entry reads a position; `opt` and `req` name the plane, true for data. -/
inductive Use where
  /-- not listed: rows 0x0_ to 0x3_, 0xE_ and 0xA_ to 0xD_ refuse a program that names it (R223, R306); in rows 0x4_ to 0x9_ it has the
  plane of R251 or R278 and is awaited (R30) -/
  | absent
  /-- a wait, or a value with a default -/
  | opt (data : Bool)
  /-- required -/
  | req (data : Bool)
  /-- required, of either plane (R316) -/
  | either
  /-- named by a lazy binding on the VC of this number, of the plane given or of either (R307) -/
  | held (vc : Nat) (data : Option Bool)
  deriving DecidableEq, Repr

/-- What an instruction sends to a target. -/
inductive Out where
  /-- nothing -/
  | nothing
  /-- a token of a plane, true for data -/
  | plane (data : Bool)
  /-- a token of the plane of operand A (R316, R318) -/
  | likeA
  deriving DecidableEq, Repr

/-- The shape of an instruction. -/
structure Shape where
  a : Use
  b : Use
  c : Use
  ta : Out
  tb : Out
  mode : Option Nat
  mem : Bool
  deriving DecidableEq, Repr

namespace Shape

/-- A control position that waits or has a default, and a required one. -/
def w : Use := .opt false
def r : Use := .req false

/-- A data position without a default. -/
def d : Use := .req true

/-- Control and data results. -/
def oc : Out := .plane false
def od : Out := .plane true

/-- An instruction that sends nothing (R222). -/
def quiet : Shape := ⟨w, w, w, .nothing, .nothing, none, false⟩

/-- Scalar instructions with one operand, and with two. -/
def one : Shape := ⟨w, .absent, .absent, oc, oc, none, false⟩
def two : Shape := ⟨w, w, .absent, oc, oc, none, false⟩

/-- Lane instructions with one, two and three operands. -/
def lane1 : Shape := ⟨d, .absent, .absent, od, od, none, false⟩
def lane2 : Shape := ⟨d, d, .absent, od, od, none, false⟩
def lane3 : Shape := ⟨d, d, d, od, od, none, false⟩

/-- A lane shift, whose B is optional (R258). -/
def shift : Shape := ⟨d, .opt true, .absent, od, od, none, false⟩

/-- Instructions of rows 0x7_ to 0x9_ on the control plane: a memory instruction, and one that is none. -/
def access : Shape := ⟨w, w, w, oc, oc, none, true⟩
def sync : Shape := ⟨w, w, w, oc, oc, none, false⟩

/-- An access that reads no B. -/
def load : Shape := ⟨w, .absent, w, oc, oc, none, true⟩

/-- Rows 0xC_ and 0xD_: in a region mode. -/
def region (m : Nat) (a b c : Use) (ta tb : Out) (mem : Bool) : Shape := ⟨a, b, c, ta, tb, some m, mem⟩

end Shape

/-- The plane that a DPL bit selects. -/
def dplOut (b : BitVec 1) : Out := .plane (b == 1)

open Shape in
/-- The shape of a tile instruction; none for any other row. -/
def shapeOf : Instr → Option Shape
  | .nop _ | .exit _ _ | .exitx _ | .halt _ | .yield _ _ _ | .ctxend _ | .trap _ _ | .brk _ _ => some quiet
  | .pset _ _ _ _ | .pnot _ _ _ | .tstz _ _ _ | .tstnz _ _ _ | .tstneg _ _ _ | .tstbit _ _ _ _ => some one
  | .pand _ _ _ | .por _ _ _ | .pxor _ _ _ => some two
  | .add _ _ _ | .sub _ _ _ | .mul _ _ _ | .mulhs _ _ _ | .mulhu _ _ _ | .divs _ _ _ | .divu _ _ _ | .rems _ _ _ | .remu _ _ _ => some two
  | .and _ _ _ | .or _ _ _ | .xor _ _ _ | .shl _ _ _ | .shr _ _ _ | .sar _ _ _ | .rol _ _ _ => some two
  | .ceq _ _ _ | .cne _ _ _ | .clt _ _ _ | .cle _ _ _ | .cltu _ _ _ | .cleu _ _ _ => some two
  | .mins _ _ _ | .maxs _ _ _ | .minu _ _ _ | .maxu _ _ _ => some two
  | .sel _ _ => some ⟨r, r, .absent, oc, oc, none, false⟩
  | .abs _ _ _ | .neg _ _ _ | .not _ _ _ | .popc _ _ _ | .clz _ _ _ | .ctz _ _ _ => some one
  | .addi _ _ _ _ | .muli _ _ _ _ | .movi _ _ _ _ | .movhi _ _ _ _ | .andi _ _ _ _ | .ori _ _ _ _ | .xori _ _ _ _ => some one
  | .shli _ _ _ _ | .shri _ _ _ _ | .sari _ _ _ _ | .bfx _ _ _ _ _ _ | .ceqi _ _ _ _ => some one
  | .copy _ _ _ => some ⟨r, .absent, .absent, oc, oc, none, false⟩
  | .bfi _ _ _ _ _ | .lea _ _ _ _ _ => some two
  | .vadd _ _ _ _ | .vsub _ _ _ _ | .vmul _ _ _ _ | .vmin _ _ _ _ | .vmax _ _ _ _ | .vand _ _ _ _ | .vor _ _ _ _ | .vxor _ _ _ _ => some lane2
  | .vadds _ _ _ _ | .vsubs _ _ _ _ | .vfadd _ _ _ _ | .vfsub _ _ _ _ | .vfmul _ _ _ _ | .vfmin _ _ _ _ | .vfmax _ _ _ _ => some lane2
  | .vfcmp _ _ _ _ _ | .vfscl _ _ _ _ | .vprune _ _ _ _ => some lane2
  | .vmad _ _ _ _ | .vfma _ _ _ _ | .vfms _ _ _ _ | .vfnma _ _ _ _ | .vsel _ _ _ _ => some lane3
  | .vabs _ _ _ _ | .vneg _ _ _ _ | .vfabs _ _ _ _ | .vfneg _ _ _ _ | .vfrcp _ _ _ _ | .vfrsq _ _ _ _ | .vfcls _ _ _ _ _ => some lane1
  | .vrint _ _ _ _ _ | .vfexp _ _ _ _ | .vflog _ _ _ _ | .vxexp _ _ _ _ | .vred _ _ _ _ _ | .vscan _ _ _ _ _ | .vunpk _ _ _ _ _ => some lane1
  | .vshl _ _ _ _ _ | .vshr _ _ _ _ _ | .vsar _ _ _ _ _ => some shift
  | .vcvt _ _ _ _ _ _ => some ⟨d, .absent, .opt true, od, od, none, false⟩
  | .vshuf _ _ _ _ => some ⟨d, .opt true, d, od, od, none, false⟩
  | .vsplat _ _ _ _ => some ⟨w, .absent, .absent, od, oc, none, false⟩
  | .vextr _ _ _ _ _ => some ⟨d, .absent, .absent, oc, oc, none, false⟩
  | .vinsl _ _ _ _ _ => some ⟨d, w, .absent, od, oc, none, false⟩
  | .vpack _ _ _ _ _ _ => some shift
  | .vqnt _ _ _ _ _ _ _ => some ⟨.opt true, .absent, .absent, od, od, none, false⟩
  | .vdqnt _ _ _ _ _ _ _ => some lane1
  | .lds _ _ _ _ _ _ _ => some load
  | .ldsv _ _ _ _ _ => some { load with ta := od }
  | .sts _ _ _ _ _ _ => some access
  | .stsv _ _ _ _ _ => some { access with b := d }
  | .ldsx _ _ _ _ _ _ _ => some { load with a := d, ta := od }
  | .stsx _ _ _ _ _ _ => some { access with a := d, b := d }
  | .feset _ _ _ _ | .feclr _ _ _ _ | .fetst _ _ _ _ => some access
  | .krd _ _ _ _ | .acrd _ _ _ _ _ => some { sync with ta := od, tb := od }
  | .kwr _ _ _ _ | .acwr _ _ _ _ _ => some { sync with a := d, ta := od, tb := od }
  | .acclr _ _ _ => some sync
  | .wick _ _ _ _ _ _ | .wadv _ _ _ _ _ => some access
  | .gld _ _ _ _ _ _ _ => some load
  | .gldv _ _ _ _ _ _ => some { load with ta := od }
  | .gst _ _ _ _ _ _ _ => some access
  | .gstv _ _ _ _ _ _ => some { access with b := d }
  | .aadd _ _ _ _ _ _ _ | .aand _ _ _ _ _ _ _ | .aor _ _ _ _ _ _ _ | .axor _ _ _ _ _ _ _ | .amin _ _ _ _ _ _ _ => some access
  | .amax _ _ _ _ _ _ _ | .aminu _ _ _ _ _ _ _ | .amaxu _ _ _ _ _ _ _ | .axch _ _ _ _ _ _ _ | .acas _ _ _ _ _ _ _ _ => some access
  | .afadd _ _ _ _ _ _ | .atas _ _ _ _ _ _ => some access
  | .fence _ _ _ _ | .ordj _ _ _ | .bell _ _ _ _ | .bella _ _ _ _ | .abstn _ _ _ _ => some sync
  | .qpush _ _ _ _ | .qpop _ _ _ _ | .qlen _ _ _ | .lnch _ _ _ _ | .sigc _ _ _ _ => some sync
  | .waitc _ _ _ => some { sync with b := r }
  | .bmwait _ _ _ _ => some access
  | .lgen _ _ _ _ _ dpl => some ⟨r, w, .absent, dplOut dpl, oc, none, false⟩
  | .lgen2 _ _ _ _ _ _ dpl => some ⟨r, r, w, dplOut dpl, oc, none, false⟩
  | .spscn _ _ _ _ _ dpl => some ⟨w, w, w, dplOut dpl, oc, none, false⟩
  | .rptc _ _ _ _ _ => some lane1
  | .rpte _ _ _ _ _ => some ⟨r, .absent, .absent, od, oc, none, false⟩
  | .emstp _ _ _ _ dpl => some ⟨w, w, w, dplOut dpl, dplOut dpl, none, false⟩
  | .tkind _ _ _ _ _ => some ⟨.either, .absent, .absent, oc, .likeA, none, false⟩
  | .itgate _ _ _ vc _ _ => some ⟨r, .held vc.toNat (some false), .absent, oc, oc, none, false⟩
  | .take _ _ _ vc => some ⟨.held vc.toNat none, .absent, .absent, .likeA, .likeA, none, false⟩
  | .cnttk _ _ _ _ _ dpl => some ⟨w, .absent, .absent, dplOut dpl, oc, none, false⟩
  | .seqrd _ _ _ | .wgtrd _ _ _ | .isgap _ _ _ _ => some ⟨d, .absent, .absent, oc, od, none, false⟩
  | .gaprd _ _ _ _ _ => some ⟨d, .absent, .absent, oc, oc, none, false⟩
  | .wgtwr _ _ _ => some ⟨d, w, .absent, od, od, none, false⟩
  | .emgap _ _ _ => some ⟨w, w, w, od, od, none, false⟩
  | .voidr _ _ _ | .wacc _ _ _ _ _ _ _ _ | .wincl _ _ _ _ _ _ _ => some lane1
  | .joink _ _ _ _ vcl vcr _ _ => some ⟨.held vcl.toNat (some true), .held vcr.toNat (some true), .absent, od, od, none, false⟩
  | .wld _ _ _ _ _ vc => some (region 1 (.held vc.toNat (some true)) .absent .absent oc oc false)
  | .wlds _ _ _ _ _ | .arow _ _ _ _ _ _ => some (region 1 w .absent w oc oc true)
  | .wsel _ _ _ _ | .azero _ _ _ _ _ => some (region 1 w w w oc oc false)
  | .adrn _ _ _ _ _ => some (region 1 w .absent .absent od oc false)
  | .xfwd _ _ _ _ _ | .xinv _ _ _ _ _ => some (region 2 w w w oc oc true)
  | .cmac _ _ _ _ => some (region 2 d w .absent oc oc false)
  | .cmul _ _ _ _ => some (region 2 d d .absent od od false)
  | .cconj _ _ _ _ | .dtag _ _ _ _ => some (region 2 d .absent .absent od od false)
  | .xreq _ _ _ => some ⟨d, d, w, oc, oc, none, false⟩
  | .drvk _ _ _ _ _ | .gtatt _ _ _ | .gtdet _ _ _ | .gtfld _ _ _ => some ⟨w, w, .absent, oc, oc, none, false⟩
  | .ctlrd _ _ _ _ | .ctlwr _ _ _ _ | .cntrd _ _ _ _ _ _ _ | .rand _ _ _ | .timer _ _ _ _ | .fwsvc _ _ _ _ => some one
  | .seed _ _ _ => some two
  | _ => none

/-- An instruction that sends more than one token to TGA, or (WINCL) to both targets (R306). -/
def streamsOf : Instr → Bool × Bool
  | .lgen _ _ _ _ _ _ | .lgen2 _ _ _ _ _ _ _ | .spscn _ _ _ _ _ _ | .rpte _ _ _ _ _ | .adrn _ _ _ _ _ => (true, false)
  | .wincl _ _ _ _ _ _ _ => (true, true)
  | _ => (false, false)

/-- The two fields of targets and the predicate mode of an instruction word. -/
def wordTa (w : Nat) : Nat := fld w 42 10
def wordTb (w : Nat) : Nat := fld w 32 10
def wordPm (w : Nat) : Nat := fld w 54 2

/-- What the row of an instruction word says of a position that the entry does not list. -/
inductive Unlisted where
  /-- the position has the plane given, true for data, and must not be named (R223) -/
  | closed (data : Bool)
  /-- the position has the plane given and is awaited when it is named (R30, R251, R278) -/
  | awaited (data : Bool)
  /-- the position must not be named (R306) -/
  | none
  deriving DecidableEq, Repr

/-- Positions that an entry does not list, by the row of the opcode map (R223, R251, R278, R306).
(DEDUCED, log 81.) -/
def unlistedOf (w : Nat) : Unlisted :=
  let row := fld w 60 4
  if row ≤ 3 || row == 0xE then .closed false
  else if row ≤ 6 then .awaited true
  else if row ≤ 9 then .awaited false
  else .none

/-- SEL, whose P is an operand (R235). -/
def isSel : Instr → Bool
  | .sel _ _ => true
  | _ => false

/-- How an instruction reads a position. -/
def Shape.use (x : Shape) (i : Instr) (w : Nat) : Pos → Use
  | .a => x.a
  | .b => x.b
  | .c => x.c
  | .p => if isSel i || wordPm w != 0 then .req false else .absent

/-- Whether a position takes a token of a plane by delivery. -/
def Use.takes : Use → Bool → Bool
  | .opt d, p => d == p
  | .req d, p => d == p
  | .either, _ => true
  | _, _ => false

end Sys2Proof.Machine
end

