-- ==== Sys2Proof/Machine/Snapshot.lean ====
section
/-! DEFINITION. Snapshots of a running kiln (R58, R59): raddles are injected, seal VCs, and are sent on by the tasks that they
save; a deadline takes the snapshot by a freeze instead. -/

namespace Sys2Proof.Machine

/-! What a task is bound to and drives. -/

/-- The used blocks of a task (R200), with their headers. -/
def State.taskBlocks (s : State) (k : Kiln) (t task : Nat) : List (Nat × Header) :=
  (List.range 32).filterMap fun b =>
    let h := s.header k t b
    if s.blockUsed k t b && h.task == task then some (b, h) else none

/-- The VCs that a task's blocks bind, as plane and VC. -/
def State.taskVcs (s : State) (k : Kiln) (t task : Nat) : List (Bool × Nat) :=
  ((s.taskBlocks k t task).flatMap fun b => (b.2.binds.filterMap fun x => x).map fun x => (x.plane, x.vc)).eraseDups

/-- The planes in which a result may leave, as seen from a block header: where the entry leaves it to operand A, the planes
that A's bindings have, or both. -/
def Out.planes (o : Out) (h : Header) (slot : Nat) : List Bool :=
  match o with
  | .nothing => []
  | .plane d => [d]
  | .likeA =>
    let ps := (h.binds.filterMap fun x => x).filterMap fun x => if x.slot == slot && x.pos == .a then some x.plane else none
    if ps.isEmpty then [false, true] else ps

/-- The port and VC that a target code names, if it names one (R197). -/
def portTarget (code : Nat) : Option (Nat × Nat) := if code / 64 == 9 then some (fld code 3 3, fld code 0 3) else none

/-- The links that a slot of a block drives. -/
def State.slotLinks (s : State) (k : Kiln) (t b slot : Nat) (h : Header) : List Nat :=
  let w := s.slotWord k t b slot
  match decodeTileNat w with
  | .error _ => []
  | .ok i =>
    match shapeOf i with
    | none => []
    | some x =>
      let of := fun (code : Nat) (o : Out) =>
        match portTarget code with
        | none => []
        | some (p, v) => (o.planes h slot).filterMap fun d => k.linkFrom t p v d
      of (wordTa w) x.ta ++ of (wordTb w) x.tb

/-- The links that a task drives (R58). -/
def State.taskLinks (s : State) (k : Kiln) (t task : Nat) : List Nat :=
  ((s.taskBlocks k t task).flatMap fun b => (List.range b.2.count).flatMap fun i => s.slotLinks k t b.1 i b.2).eraseDups

/-! Injection and sealing. -/

/-- The control VCs of a kiln that argument words or tick sources feed (R44, R87). -/
def Image.rootVcs (im : Image) (ctx : Nat) : List (Nat × Nat) :=
  ((im.args.filterMap fun x => x) ++ (im.ticks.filter fun (x : TickCfg) => x.ctx == ctx).map fun (x : TickCfg) => (x.id, 7)).eraseDups

/-- A raddle at the head of every argument VC and tick-source VC. -/
def State.inject (s : State) (k : Kiln) (im : Image) : State :=
  let rs := (im.rootVcs k.ctx).map fun x => VcTok.mk x.1 x.2 (.ctl CTok.raddle) s.now
  s.modKiln k.id fun kl => { kl with argq := rs ++ kl.argq }

/-- Whether a link's head is a raddle. -/
def LinkSt.raddled (l : LinkSt) (now : Nat) : Bool := (l.head? now).any fun x => x.isRaddle

/-- RADDLE_SEAL (R58): the raddle at a link's head seals its VC. -/
def execRaddleSeal (s : State) : Host.Outcome State Fault Refusal :=
  s.onLink (fun k l => k.snap.isSome && !l.sealed && l.raddled s.now) fun s k n _ => s.modLink k.id n fun l => { l with sealed := true }

/-! A task saves. -/

/-- Whether a VC is sealed: its link is, or a raddle heads a VC without a link. -/
def Kiln.vcSealed (k : Kiln) (t : TileSt) (v : Bool × Nat) (now : Nat) : Bool :=
  match k.vcRaw t v.2 v.1 now with
  | some (x, .link l) => x.isRaddle && ((k.links[l]?).any fun y => y.sealed)
  | some (x, _) => x.isRaddle
  | none => false

/-- Whether a task is between block executions.
(DEDUCED, log 67.) -/
def TileSt.resting (t : TileSt) (task : Nat) : Bool :=
  let x := t.task task
  (x.stat == .idle || x.stat == .ended || x.stat == .halted) && (t.exec? task).isNone && !x.stopped

/-- Whether a task saves now: it has not yet, every VC bound to it is sealed, it is idle, and every link that it drives takes
the raddle. -/
def State.taskSaves (s : State) (k : Kiln) (t : TileSt) (task : Nat) : Bool :=
  k.snap.isSome && !(t.task task).saved && t.resting task &&
  ((s.taskVcs k t.id task).all fun v => k.vcSealed t v s.now) &&
  (s.taskLinks k t.id task).all fun n => (k.links[n]?).all fun l => k.canSend l

/-- Whether a memory tile saves now: the raddle stands at its write port. -/
def Kiln.memSaves (k : Kiln) (t : TileSt) : Bool :=
  k.snap.isSome && !t.tileSaved && t.wport.isSome &&
  ((k.portIn t.id).bind fun n => k.links[n]?).any fun l => l.sealed

/-- Send a raddle on a link. -/
def State.sendRaddle (s : State) (k n : Nat) : State :=
  match s.kiln? k with
  | none => s
  | some kl => s.modLink k n fun l =>
      let t : Tok := if l.cfg.plane then .data DTok.raddle else .ctl CTok.raddle
      if l.cfg.policy == 0 && l.cfg.slots == 0 then { l with offer := some (t, .late), sentAt := some (kl.tileD l.cfg.src).cycAt }
      else kl.launchTok l t true .unit

/-- Take the raddle that seals a VC, and record what stands behind it (R58). -/
def State.unseal (s : State) (k t : Nat) (v : Bool × Nat) : State :=
  match s.kiln? k with
  | none => s
  | some kl =>
    match kl.vcRaw (kl.tileD t) v.2 v.1 s.now with
    | some (_, .link n) => ((s.vcPop k t (.link n)).2).snapLink k n
    | some (_, src) =>
      ((s.vcPop k t src).2).modKiln k fun kl => { kl with
        snap := kl.snap.map fun r => { r with
          args := r.args ++ kl.argq.filter fun a => a.tile == t && a.vc == v.2
          ticks := if v.2 == 7 then r.ticks ++ (kl.tileD t).tick.toList.map fun x => (t, x) else r.ticks } }
    | none => s

/-- The ticks delivered between a tick source's record and the cycle of a saved tile are in the VC too (R87). -/
def TickSt.upTo (x : TickSt) (cyc : Nat) : TickSt :=
  let p := max 1 x.period
  let first := (max x.fromCyc x.phase - x.phase + p - 1) / p
  let n := (cyc - x.phase + p - 1) / p - first
  { x with
    fromCyc := max x.fromCyc cyc
    queue := x.queue ++ (List.range (min n (x.slots - x.queue.length))).map fun i => (first + i, 0) }

/-- The state in which a tile stands in a snapshot: its tasks as each was saved. -/
def SnapRun.tileOf (r : SnapRun) (t : TileSt) : TileSt :=
  { t with
    execs := []
    tileSaved := false
    tasks := t.tasks.zipIdx.map fun x =>
      ((r.tasks.find? fun y => y.1 == t.id && y.2.1 == x.2).map fun y => { y.2.2 with saved := false }).getD x.1
    tick := t.tick.map fun x => ((r.ticks.find? fun y => y.1 == t.id).map fun y => y.2.upTo t.cyc).getD x }

/-- Save a tile (R58): its storage, and its state. -/
def State.tileSave (s : State) (k t : Nat) : State :=
  match s.kiln? k with
  | none => s
  | some kl =>
    match kl.snap with
    | none => s
    | some r =>
      (s.saveTile kl r.va t).modKiln k fun kl =>
        let tl := kl.tileD t
        { kl.setTile { tl with tileSaved := true } with snap := kl.snap.map fun r => { r with tiles := r.tiles ++ [r.tileOf tl] } }

/-- Whether a tile saves by an event of its own: it has tasks, or it is a memory tile that a link feeds. -/
def Kiln.savesItself (k : Kiln) (t : TileSt) : Bool :=
  t.tasks.any (fun x => x.stat != .absent) || (t.wport.isSome && (k.portIn t.id).isSome)

/-- The captured kiln, once every tile has saved: other tiles, bells, counters, signals, RSU channels, lists and copies as
they stand then, and each link as its raddle left it, or as it stands where no raddle sealed it.
(DESIGN CHOICE, log 114.) -/
def State.captured (s : State) (kl : Kiln) (r : SnapRun) : Kiln :=
  let base := kl.asSnap s.now
  { base with
    tiles := base.tiles.map fun t => (r.tiles.find? fun x => x.id == t.id).getD t
    links := base.links.zipIdx.map fun x => ((r.links.find? fun y => y.1 == x.2).map Prod.snd).getD x.1
    argq := r.args
    lists := (s.takeLists kl.id).1
    copies := (s.takeCopies kl.id).1 }

/-- A snapshot finishes when every tile has saved (R58): lists and copies come to where a freeze captures them, and go on from there;
tiles that no raddle reaches are saved now. -/
def State.snapFinish (s : State) (k : Nat) : State :=
  match s.kiln? k with
  | none => s
  | some kl =>
    match kl.snap with
    | none => s
    | some r =>
      if kl.tiles.all fun t => t.tileSaved || !kl.savesItself t then
        let s := s.drainEngines k
        let done := kl.tiles.filterMap fun t => if t.tileSaved then some t.id else none
        let all := (List.range kl.shelves).flatMap fun rel => (List.range 72).map fun t => rel * 128 + t
        let s := (all.filter fun t => !done.contains t).foldl (fun (s : State) t => s.saveTile kl r.va t) s
        s.snapDone k 0 (s.captured kl r)
      else s

/-- A task saves (R58): its state, a raddle on every link that it drives, and its VCs unsealed. -/
def State.taskSave (s : State) (k t task : Nat) : State :=
  match s.kiln? k with
  | none => s
  | some kl =>
    let vcs := s.taskVcs kl t task
    let out := s.taskLinks kl t task
    let s := s.modKiln k fun kl => { kl with snap := kl.snap.map fun r => { r with tasks := r.tasks ++ [(t, task, (kl.tileD t).task task)] } }
    let s := out.foldl (fun (s : State) n => s.sendRaddle k n) s
    let s := vcs.foldl (fun (s : State) v => s.unseal k t v) s
    let s := s.modTask k t task fun x => { x with saved := true }
    match (s.kiln? k).bind fun kl => kl.tile? t with
    | none => s
    | some tl => if tl.tasks.all fun x => x.saved || x.stat == .absent then s.tileSave k t else s

/-- SNAPSHOT_TASK_SAVE (R58): a task, or a memory tile at its raddle (task 0), saves. -/
def execSnapshotTaskSave (s : State) : Host.Outcome State Fault Refusal :=
  match s.curTask with
  | none => .fault .notDue
  | some (k, t, task) =>
    if t.id % 128 < 64 then
      s.happen (s.tileLive k t && (t.task task).stat != .absent && s.taskSaves k t task) fun s => (s.taskSave k.id t.id task).snapFinish k.id
    else s.happen (s.tileLive k t && k.memSaves t) fun s => (s.tileSave k.id t.id).snapFinish k.id

/-- Whether a snapshot's deadline has passed in a running kiln. -/
def State.snapLate (s : State) (k : Kiln) : Bool := k.stat == .running && k.snap.any fun r => r.deadline ≤ s.now

/-- SNAPSHOT_DEADLINE (R59): partial saves are discarded, and the kiln is frozen to be captured. -/
def execSnapshotDeadline (s : State) : Host.Outcome State Fault Refusal :=
  match s.curKiln with
  | none => .fault .notDue
  | some (k, _) => s.happen (s.snapLate k) fun s => s.modKiln k.id fun kl => { kl.unraddled with stat := .freezing s.now .snapshot }

end Sys2Proof.Machine
end

