-- ==== Sys2Proof/Machine/Upkeep.lean ====
section
/-! DEFINITION. Inputs from outside, and the upkeep of memory: migration epochs (R160), and the findings of ECC and of
scrubbing (R398, R412, R421). -/

namespace Sys2Proof.Machine

/-- What an input does; the cursor holds it. An input of another row is not this event. -/
def onInput (s : State) (f : Input → Option (State → State)) : Host.Outcome State Fault Refusal :=
  match s.cursor with
  | .input i =>
    match f i with
    | some g => s.run g
    | none => .fault .notDue
  | _ => .fault .notDue

/-- One second, one millisecond. -/
def tS : Nat := 1000000 * tUs
def tMs : Nat := 1000 * tUs

/-! Migration (R160). -/

/-- The shelf (as 128 x die + shelf) to which a frame migrates at the end of an epoch.
(DEDUCED, log 83.) -/
def FrameSt.goes (f : FrameSt) (threshold : Nat) : Option Nat :=
  let all := (f.remote.map Prod.snd).sum
  if threshold < all && 2 * f.local_ < all then (f.remote.find? fun x => x.1 < 512 && all < 2 * x.2).map Prod.fst else none

/-- Whether an epoch of a die is over. -/
def State.epochEnds (s : State) (d : Nat) : Bool := s.boot == .ready && s.power != 3 && (s.die d).epochAt + tMs ≤ s.now

/-- A frame starts to move, if it should and the slice has a free frame. -/
def State.migrate (s : State) (d : Nat) (f : FrameSt) : State :=
  if s.migrations.any fun m => m.old == f.pa then s
  else
    match f.goes (s.die d).threshold with
    | none => s
    | some dst =>
      let start := Config.freeNat s.freeCount
      match s.scanFrames (dst / 128) (dst % 128) (framesOf (dst % 128)) start with
      | none => s
      | some pa =>
        let (id, s) := { s with freeCount := s.freeCount + 1 }.fresh
        let (w, s) := s.draw
        { s with migrations := s.migrations ++ [⟨id, d, f.pa, pa, s.now + 1 + w⟩] }

/-- The end of an epoch of a die: frames start to move, and the counts begin again. -/
def State.epochDo (s : State) (d : Nat) : State :=
  let mine := fun f : FrameSt => fld f.pa 46 2 == d
  let s := (s.frames.filter mine).foldl (fun (s : State) f => s.migrate d f) s
  { s.modDie d (fun x => { x with epochAt := s.now }) with
    frames := updateWhere mine (fun f => { f with local_ := 0, remote := [] }) s.frames }

/-- MIGRATION_EPOCH (R160). -/
def execMigrationEpoch (s : State) : Host.Outcome State Fault Refusal :=
  match s.curDie with
  | none => .fault .notDue
  | some d => s.happen (s.epochEnds d) fun s => s.epochDo d

/-- MIGRATION_COMPLETE (R160). -/
def execMigrationComplete (s : State) : Host.Outcome State Fault Refusal :=
  match s.cursor with
  | .item n =>
    match s.migrations.find? fun m => m.id == n with
    | none => .fault .notDue
    | some m => s.happen (m.doneAt ≤ s.now) fun s => s.migrateDone m
  | _ => .fault .notDue

/-! ECC (R398, R412, R421). -/

/-- Corrected errors of a slice or tile: ECC_RATE when more than 64 fall within one second. -/
def State.corrected (s : State) (d slice tile n : Nat) : State :=
  let x := s.die d
  let recent := x.corrected.filter fun c => s.now < c.2.2.1 + tS
  let before := ((recent.filter fun c => c.1 == slice && c.2.1 == tile).map fun c => c.2.2.2).sum
  let s := s.modDie d fun x => { x with corrected := recent ++ [(slice, tile, s.now, n)] }
  if before ≤ 64 && 64 < before + n then
    s.postEvent { cause := 0x2A, cls := 2, die := d, shelf := slice, tile := tile, w6 := slice % 128 + tile % 128 * 2 ^ 7, w7 := before + n }
  else s

/-- A granule of DRAM or SRAM becomes poisoned; one that scrubbing finds is reported at once (R421). -/
def State.poisonGranule (s : State) (pa : Nat) (scrubbing : Bool) : State :=
  if paExists pa && (pa / 2 ^ 48 == 0 || pa / 2 ^ 48 == 0xF) then
    let s := { s with poison := insertNat (pa / 16) s.poison }
    if scrubbing then
      s.poisonSeen { cause := 0x29, cls := 2, die := fld pa 46 2, shelf := fld pa 39 7, tile := if pa / 2 ^ 48 == 0xF then fld pa 32 7 else 0 }
        (pa / 16 * 16) true
    else s
  else s

/-- An uncorrectable error in a slot of a link (R398): in its payload, or in its sideband. -/
def State.spoilSlot (s : State) (k l pos : Nat) (side : Bool) : State :=
  s.modLink k l fun x => { x with slots := x.slots.modify pos fun y =>
    if side then { y with badSide := true } else { y with badPay := true } }

/-- A slice changes the stored form of one of its frames (R150).
(DESIGN CHOICE, log 34.) -/
def State.storedForm (s : State) (pa : Nat) (zero : Bool) : State :=
  if pa / 2 ^ 48 == 0 && paExists pa then
    let rest := s.zeroFrames.filter fun f => f != pa / 2 ^ 16
    { s with zeroFrames := if zero then insertNat (pa / 2 ^ 16) rest else rest }
  else s

/-- SCRUB (R150, R398, R421): a stored form that a slice chooses, or what ECC finds, by scrubbing or on access.
(DESIGN CHOICE, log 35, 127.) -/
def execScrub (s : State) : Host.Outcome State Fault Refusal :=
  onInput s fun i => match i with
    | .scrub f => some fun s => if s.power == 3 then s else
        match f with
        | .corrected d slice tile n => s.corrected d slice tile n
        | .poison pa x => s.poisonGranule pa x
        | .linkPayload k l pos => s.spoilSlot k l pos false
        | .linkSideband k l pos => s.spoilSlot k l pos true
        | .linkGap k l => s.modLink k l fun x => { x with gapBad := x.gap.isSome }
        | .storedForm pa zero => s.storedForm pa zero
    | _ => none

end Sys2Proof.Machine
end

