-- ==== Sys2Proof/Machine/Power.lean ====
section
/-! DEFINITION. Power and heat: fluid data and caps (R378), tiers and throttle levels (R379), emergency clamps, trips, rails, the
module input and the converter (R422 to R424), power states (R380), power-on and boot (R382, R384). -/

namespace Sys2Proof.Machine

/-! Losing power, power-on, boot (R382, R384, R422). -/

/-- The package as it stands at power-on: everything of its own is gone, DRAM and SRAM included; memory of the host and of
peers, the mating counts, which module storage keeps (R381), the patches, the model's clock and its counters of free values stay, and
what the records of snapshots in that memory hold (R375).
(DEDUCED, log 84.) -/
def State.powerOnState (s : State) (boot : Boot) : State :=
  let s := (s.wipe 0 (8 * 2 ^ 48)).wipe (10 * 2 ^ 48) (16 * 2 ^ 48)
  { State.reset with
    mem := s.mem, wlog := s.wlog, now := s.now, inbox := s.inbox, freeCount := s.freeCount, nextId := s.nextId, replies := s.replies
    msix := s.msix, snaps := s.snaps, patch := s.patch, applied := s.applied, health := s.health.filter fun h => h.quantity == 5, boot := boot, modulePower := boot != .off }

/-- Boot starts: BOOTOK and then READY come after a free time of at most 5 s (R382). -/
def State.boots (s : State) : State :=
  let (w, s) := s.draw
  s.powerOnState (.booting (s.now + 1 + w % (5 * tS)))

/-- RESET of scope 1 (R383): a patch that was accepted is applied, and boot starts. -/
def State.resets (s : State) : State := { s with applied := s.patch.orElse fun _ => s.applied, patch := none }.boots

/-- POWER_ON (R382): the input comes within its range. -/
def execPowerOn (s : State) : Host.Outcome State Fault Refusal :=
  onInput s fun i => match i with
    | .powerOn => some fun s => if s.modulePower then s else s.boots
    | _ => none

/-- Whether boot is over. -/
def State.bootEnds (s : State) : Bool :=
  match s.boot with
  | .booting t => t ≤ s.now
  | .bootOk => true
  | _ => false

/-- BOOTOK is set, or after it READY (R382); the measurement register then holds what the stages gave. -/
def State.bootStep (s : State) : State :=
  match s.boot with
  | .booting _ => { s with boot := .bootOk }
  | _ =>
    { s with
      boot := .ready, bootEnd := s.now, measure := Config.measurement s.freeCount, freeCount := s.freeCount + 1
      dies := s.dies.map fun d => { d with epochAt := s.now } }

/-- BOOT_COMPLETE (R382): BOOTOK is set, and then READY, each in a step of this event. -/
def execBootComplete (s : State) : Host.Outcome State Fault Refusal := s.happen s.bootEnds State.bootStep

/-- CONVERTER_SHUTDOWN (R422): all power is lost, and nothing is reported. -/
def execConverterShutdown (s : State) : Host.Outcome State Fault Refusal :=
  onInput s fun i => match i with
    | .converterShutdown => some fun s => s.powerOnState .off
    | _ => none

/-- What firmware does on a reading; it does nothing before READY, and nothing in S3, where its cores have no power (R380).
(DESIGN CHOICE, log 11.) -/
def State.firmware (s : State) (f : State → State) : State := if s.boot == .ready && s.power != 3 then f s else s

/-! Fluid data and caps (R378, R379). -/

/-- FLUID_DATA_WRITE (R378): saturation temperature, pressure, and CHF in W/cm2 x 100.
(DESIGN CHOICE, log 127.) -/
def execFluidDataWrite (s : State) : Host.Outcome State Fault Refusal :=
  onInput s fun i => match i with
    | .fluidDataWrite t p chf => some fun s => if s.power == 3 then s else { s with fluid := some (t, p, chf) }
    | _ => none

/-- The cap of a die in mW (R378, R422): FRAC x CHF over its hottest sensor scales its power; a halved cap is half of that. -/
def State.capOf (s : State) (power maxFlux halved : Nat) : Nat :=
  let cap := match s.fluid with
    | none => 1200000
    | some (_, _, chf) => if maxFlux == 0 then 1200000 else max 150000 (min 1200000 (power * s.frac * chf / (1000 * maxFlux)))
  if halved == 0 then cap else cap / 2

/-- The floor of a tier on a die in mW, scaled down when a die's floors exceed its cap (R379). -/
def State.floorOf (s : State) (d cap t : Nat) : Nat :=
  let fs := (s.floors.getD d []).map fun x => 1000 * x
  let f := fs.getD t 0
  if cap < fs.sum then f * cap / fs.sum else f

/-- The allotments of the four tiers: floors, then the surplus to each tier in turn up to its demand (R379). -/
def allotTiers (surplus : Nat) : List (Nat × Nat) → List Nat
  | [] => []
  | (floor, demand) :: r =>
    let more := min surplus (demand - floor)
    (floor + more) :: allotTiers (surplus - more) r

/-- The power in mW that a paddock may draw on a die: its part of its tier's allotment by shelf share (R379). -/
def State.allotted (s : State) (d : Nat) (p : Paddock) : Nat :=
  let all := ((s.paddocks.filter fun x => x.tier == p.tier).map fun x => x.share.getD d 0).sum
  (s.die d).allot.getD p.tier 0 * p.share.getD d 0 / max 1 all

/-- One step of a throttle level towards a target. -/
def towards (l target : Nat) : Nat := if l < target then l + 1 else if target < l then l - 1 else l

/-- The levels of a die's kilns after an evaluation (R379): for a paddock above its allotment any level from 0 to 7 may be
aimed at, below it none; a clamped die holds 7.
(DESIGN CHOICE, log 85.) -/
def State.evaluate (s : State) (d : Nat) : State :=
  (s.placedOn d).foldl (fun (s : State) k =>
    if (s.die d).clamped then s.modKiln k.id fun k => { k with throttle := 7 }
    else
      let p := s.paddock? k.paddock
      let power := (s.reading.paddockPower.getD d []).getD k.paddock 0
      let above := p.any fun p => s.allotted d p < power
      let target := if above then Config.freeNat s.freeCount % 8 else 0
      { s with freeCount := s.freeCount + 1 }.modKiln k.id fun k => { k with throttle := towards k.throttle target }) s

/-- The cap computation of a die and the evaluation that follows it (R378, R379). -/
def State.capDie (s : State) (r : CapReading) (d : Nat) : State :=
  let power := r.power.getD d 0
  let cap := s.capOf power (r.maxFlux.getD d 0) (s.die d).halved
  let floors := (List.range 4).map fun t => s.floorOf d cap t
  let tiers := floors.zipIdx.map fun (x : Nat × Nat) => (x.1, Config.freeNat (s.freeCount + x.2))
  let s := { s with freeCount := s.freeCount + 4 }
  (s.modDie d fun x => { x with capMw := cap, powerMw := power, allot := allotTiers (cap - floors.sum) tiers }).evaluate d

/-- CAP_COMPUTE (R377 to R379): the samples are kept, each die's cap is computed, and the throttle levels are evaluated. -/
def execCapCompute (s : State) : Host.Outcome State Fault Refusal :=
  onInput s fun i => match i with
    | .capCompute r => some fun s => s.firmware fun s =>
        let s := { s with reading := r }
        let s := r.rails.foldl (fun (s : State) (x : Nat × Nat × Nat × Nat × Nat) =>
          s.modDie x.1 fun d => d.setShelf { d.shelf x.2.1 with rail := (x.2.2.1, x.2.2.2.1, x.2.2.2.2) }) s
        (List.range 4).foldl (fun (s : State) d => s.capDie r d) s
    | _ => none

/-! Emergency clamps (R422, R423). -/

/-- A record of power or heat (R422): MSI-X vector 2. -/
def powerReq (cause cls die w6 w7 : Nat) : FaultReq where
  cause := cause
  cls := cls
  die := die
  w6 := w6
  w7 := w7
  vec := 2

/-- Every kiln of a die goes to level 7 at once, and stays there. -/
def State.clamp (s : State) (d cause : Nat) : State :=
  { s.modDie d (fun x => { x with clamped := true, clampConds := insertNat cause x.clampConds }) with
    kilns := updateWhere (fun k => (k.place.map Prod.fst) == some d) (fun k => { k with throttle := 7 }) s.kilns }

/-- CAP_CLAMP (R422, R423): the die's power stands above its cap. -/
def execCapClamp (s : State) : Host.Outcome State Fault Refusal :=
  onInput s fun i => match i with
    | .capClamp d power => some fun s => s.firmware fun s =>
        if (s.die d).capMw < power then (s.clamp d 0x50).postEvent (powerReq 0x50 2 d d power) else s
    | _ => none

/-- Whether a flux (W/cm2 x 100) exceeds a part in thousandths of CHF. -/
def State.fluxAbove (s : State) (flux part : Nat) : Bool := s.fluid.any fun x => part * x.2.2 < 1000 * flux

/-- FLUX_LIMIT (R422, R423): a sensor exceeds FRAC x CHF. -/
def execFluxLimit (s : State) : Host.Outcome State Fault Refusal :=
  onInput s fun i => match i with
    | .fluxLimit d sensor flux => some fun s => s.firmware fun s =>
        if s.fluxAbove flux s.frac then (s.clamp d 0x51).postEvent (powerReq 0x51 2 d (sensor % 64) flux) else s
    | _ => none

/-- INPUT_RANGE (R422, R423): the module input is out of range, and every die is clamped; below 700 V or above 880 V the converter
shuts down, and nothing is reported. -/
def execInputRange (s : State) : Host.Outcome State Fault Refusal :=
  onInput s fun i => match i with
    | .inputRange mv => some fun s => if mv < 700000 || 880000 < mv then s.powerOnState .off else s.firmware fun s =>
        if mv < 760000 || 840000 < mv then
          ((List.range 4).foldl (fun (s : State) d => s.clamp d 0x54) s).postEvent (powerReq 0x54 2 0 0 mv)
        else s
    | _ => none

/-- CLAMP_RELEASE (R423): the condition has stayed clear for 100 us; the levels fall with the next evaluations.
(DESIGN CHOICE, log 127.) -/
def execClampRelease (s : State) : Host.Outcome State Fault Refusal :=
  onInput s fun i => match i with
    | .clampRelease d => some fun s => if s.power == 3 then s else s.modDie d fun x => { x with clamped := false, clampConds := [] }
    | _ => none

/-- Every die's cap is halved for a cause, until RESET or until the cause clears (R422, R428).
(DEDUCED, log 86.) -/
def State.halve (s : State) (cause : Nat) : State :=
  { s with dies := s.dies.map fun d => { d with
      capMw := if d.halved == 0 then d.capMw / 2 else d.capMw
      halved := d.halved ||| 2 ^ cause } }

/-- A cause of halved caps clears (R428); the next cap computations use whole caps again. -/
def State.unhalve (s : State) (cause : Nat) : State :=
  { s with dies := s.dies.map fun d => { d with halved := if d.halved.testBit cause then d.halved - 2 ^ cause else d.halved } }

/-- CONVERTER_TEMP (R422). -/
def execConverterTemp (s : State) : Host.Outcome State Fault Refusal :=
  onInput s fun i => match i with
    | .converterTemp mc => some fun s => s.firmware fun s =>
        if 105000 < mc then (s.halve 0).postEvent (powerReq 0x55 2 0 0 mc) else s
    | _ => none

/-! Trips and rails (R385, R422, R424). -/

/-- A kiln of a tripped die leaves its shelves: one that completes now does, one that stops stops, the others freeze. -/
def State.tripKiln (s : State) (k : Kiln) : State :=
  match k.stat with
  | .running => if s.completed k then s else s.modKiln k.id fun x => { x with stat := .freezing s.now .trip }
  | .freezing _ .stop => s
  | .freezing t _ => s.modKiln k.id fun x => { x with stat := .freezing t .trip }
  | _ => s.evacuate k.id

/-- A die trips: its kilns leave it, and its shelves enter S2. -/
def State.trip (s : State) (d : Nat) : State :=
  let s := (s.placedOn d).foldl State.tripKiln s
  s.modDie d fun x => { (List.range 72).foldl (fun (y : DieSt) i => y.setShelf { y.shelf i with power := 2 }) x with tripped := true }

/-- THERMAL_TRIP (R422, R424): a lid sensor (shelf 0x7F) exceeds 0.9 CHF, or a rail exceeds 125 degrees. -/
def execThermalTrip (s : State) : Host.Outcome State Fault Refusal :=
  onInput s fun i => match i with
    | .thermalTrip d shelf value => some fun s => s.firmware fun s =>
        if (if shelf == 0x7F then s.fluxAbove value 900 else 125000 < value) then
          (s.trip d).postEvent (powerReq 0x52 2 d (d + shelf % 128 * 2 ^ 2) value)
        else s
    | _ => none

/-- TRIP_CLEAR (R424): the condition has stayed clear for 10 ms.
(DESIGN CHOICE, log 127.) -/
def execTripClear (s : State) : Host.Outcome State Fault Refusal :=
  onInput s fun i => match i with
    | .tripClear d => some fun s => if s.power == 3 then s else s.modDie d fun x => { x with tripped := false }
    | _ => none

/-- A rail fault stops a kiln (R385, R422). -/
def State.railStop (s : State) (d shelf mv : Nat) (k : Kiln) : State :=
  s.stopBy k.id { powerReq 0x53 0 d (d + shelf % 128 * 2 ^ 2) mv with shelf := shelf, paddock := k.paddock, kiln := k.id, queue := k.queue } 0 0 0 0

/-- RAIL_FAULT (R422): every kiln on the shelf stops; the record stands even where no kiln does.
(DEDUCED, log 88.) -/
def execRailFault (s : State) : Host.Outcome State Fault Refusal :=
  onInput s fun i => match i with
    | .railFault d shelf mv => some fun s => s.firmware fun s =>
        match s.kilns.filter fun k => k.holds d shelf with
        | [] => (s.postFault { powerReq 0x53 0 d (d + shelf % 128 * 2 ^ 2) mv with shelf := shelf }).2
        | ks => ks.foldl (fun (s : State) k => s.railStop d shelf mv k) s
    | _ => none

/-! Power states (R380). -/

/-- The smallest tolerance of the paddocks, in ns; none set, or no paddock, counts as 0.
(DEDUCED, log 87.) -/
def State.tolerance (s : State) : Nat :=
  match s.paddocks with
  | [] => 0
  | p :: ps => ps.foldl (fun a x => min a x.tolerance) p.tolerance

/-- Whether a shelf may leave S0: no kiln holds it and its saggar is needed by no frozen kiln. -/
def State.shelfIdle (s : State) (d shelf : Nat) : Bool :=
  !(s.kilns.any fun k => k.holds d shelf) &&
  ((s.die d).shelf shelf).saggar.all fun x => (s.kiln? x.1).isNone

/-- The state that a shelf is to be in. -/
def State.shelfWants (s : State) (d shelf : Nat) : Nat :=
  if (s.die d).tripped then 2
  else if s.shelfIdle d shelf then (if 40000 ≤ s.tolerance then 2 else if 2000 ≤ s.tolerance then 1 else 0)
  else 0

/-- Whether the package has nothing under way that needs its dies: no fold, migration, waiting launch, command or completion entry.
(DEDUCED, log 87.) -/
def State.quiet (s : State) : Bool :=
  s.folds.isEmpty && s.migrations.isEmpty && s.outstanding.isEmpty && s.cplWait.isEmpty &&
  s.cmdHead % 2 ^ s.cmdSize == s.cmdTail % 2 ^ s.cmdSize && s.dies.all fun d => (s.heads d.index).isEmpty

/-- The state that the package is to be in: S3 when every shelf may leave S0, every paddock tolerates 2 ms and nothing is under way,
else the state of its most awake shelf. -/
def State.packageWants (s : State) : Nat :=
  if s.quiet && 2000000 ≤ s.tolerance && (List.range 4).all fun d => (List.range 72).all fun i => s.shelfIdle d i then 3
  else ((List.range 4).flatMap fun d => (List.range 72).map fun i => ((s.die d).shelf i).power).foldl min 2

/-- The exit latency of a power state. -/
def exitTime (p : Nat) : Nat :=
  match p with
  | 1 => 2 * tUs
  | 2 => 40 * tUs
  | 3 => 2 * tMs
  | _ => 0

/-- A shelf whose power state changes now. -/
def State.shelfChanges (s : State) (d shelf : Nat) : Bool :=
  s.boot == .ready && s.power != 3 && shelf < 72 && ((s.die d).shelf shelf).power != s.shelfWants d shelf

/-- POWER_STATE_CHANGE (R380): of a shelf, or (item 0) of the package. -/
def execPowerStateChange (s : State) : Host.Outcome State Fault Refusal :=
  match s.cursor with
  | .die d shelf _ => s.happen (s.shelfChanges d shelf) fun s =>
      let w := s.shelfWants d shelf
      s.modDie d fun x =>
        let y := x.shelf shelf
        x.setShelf { y with power := w, wakeAt := if w < y.power then s.now + exitTime y.power else y.wakeAt }
  | .item 0 => s.happen (s.boot == .ready && s.power != 3 && s.power != s.packageWants) fun s => { s with power := s.packageWants }
  | _ => .fault .notDue

/-- A host access to the device wakes the package from S3 first (R380): 2 ms pass. -/
def State.woken (s : State) : State :=
  if s.power == 3 then
    { s with
      power := 0, now := s.now + exitTime 3
      dies := s.dies.map fun d => { d with shelves := d.shelves.map fun x => { x with power := 0, wakeAt := s.now + exitTime 3 } } }
  else s

end Sys2Proof.Machine
end

