-- ==== Sys2Proof/Machine/Peers.lean ====
section
/-! DEFINITION. The outside world: accesses through BAR2 and from peers (R192, R367, R376), forwarded launches (R371, R376), flit
replays, retrains and the health of links and connectors (R381, R425 to R428), and the BAR0 registers (R368, R380). -/

namespace Sys2Proof.Machine

/-! Accesses from outside (R192, R367, R376). -/

/-- Translate the bytes of an outside access through a range table alone (R367). -/
def State.outsideLocs (s : State) (p : Paddock) (need : Need) : List Nat → Except XFault (List Loc) × State
  | [] => (.ok [], s)
  | ia :: r =>
    match s.stage2 p .outside need need.code ia with
    | .error f => (.error f, s)
    | .ok (pa, s) =>
      if !paExists pa then (.error ⟨0x20, need.code, 1, 0, ia⟩, s)
      else
        match s.outsideLocs p need r with
        | (.error f, s) => (.error f, s)
        | (.ok ls, s) => (.ok (⟨pa, none, ((p.range? ia).map fun n => fld n 59 1 == 1).getD false⟩ :: ls), s)

/-- How many bytes an outside access reaches, and what it needs. -/
def outsideSize : OutsideOp → Nat
  | .read n => n
  | .write bs => bs.length
  | .atomic _ n _ _ => n

def outsideNeed : OutsideOp → Need
  | .read _ => .read
  | .write _ => .write
  | .atomic _ _ _ _ => .atomic

/-- The data of a completion goes out. -/
def State.replyWith (s : State) (bs : List Byte) : State := { s with replies := s.replies ++ [bs] }

/-- An access that reaches nothing: all-ones data, and nothing is written. -/
def State.allOnes (s : State) (op : OutsideOp) : State :=
  match op with
  | .write _ => s
  | _ => s.replyWith (List.replicate (outsideSize op) 0xFF)

/-- The bytes that an outside read is given: poisoned ones stand free, and each poisoned granule is reported (R421). -/
def State.outsideBytes (s : State) (p : Nat) (ls : List Loc) : List Byte × State :=
  let c := s.freeCount
  (ls.zipIdx.map fun x => if (s.locBad x.1).isEmpty then s.locByte x.1 else Config.freeByte (c + x.2),
    (ls.flatMap s.locBad).eraseDups.foldl (fun (s : State) pa =>
      s.poisonSeen { cause := 0x29, cls := 2, die := fld pa 46 2, shelf := fld pa 39 7, paddock := p } pa)
      { s with freeCount := c + ls.length })

/-- An outside access is served at the owner of its bytes. -/
def State.outsideDo (s : State) (p : Nat) (op : OutsideOp) (ls : List Loc) : State :=
  let s := s.countFrame 4 0 ls
  match op with
  | .read _ =>
    let (bs, s) := s.outsideBytes p ls
    s.replyWith bs
  | .write bs => s.locWrite ls bs
  | .atomic o n opb cmp =>
    let (bs, s) := s.outsideBytes p ls
    (s.locWrite ls (leBytes n (atomicNew o n (leNat bs) opb.toNat cmp.toNat))).replyWith bs

/-- The record of an outside access that does not translate (R412, R417): of the die that a placement chooses, else of die 0.
(DEDUCED, log 89.) -/
def State.outsideFault (s : State) (p : Paddock) (f : XFault) : State :=
  if f.cause == 0x20 then s
  else
    s.postEvent { cause := f.cause, cls := 1, access := f.access, stage := f.stage, die := (if f.cause == 0x24 then s.roomiestDie else 0), paddock := p.index, w6 := f.w6, w7 := f.w7 }

/-- An access to an IA of a paddock, from outside. A frame that is being moved is moved first (R160). -/
def State.outsideAccess (s : State) (p : Paddock) (ia : Nat) (op : OutsideOp) : State :=
  let ias := (List.range (outsideSize op)).map fun i => (ia + i) % 2 ^ 48
  match s.outsideLocs p (outsideNeed op) ias with
  | (.error f, s) => (s.outsideFault p f).allOnes op
  | (.ok ls, s) =>
    match (s.migrateFor ls).outsideLocs p (outsideNeed op) ias with
    | (.error f, s) => (s.outsideFault p f).allOnes op
    | (.ok ls, s) => s.outsideDo p.index op ls

/-- HOST_APERTURE_ACCESS (R192, R367): offset bits [41:38] name the paddock, [37:0] the IA. -/
def execHostApertureAccess (s : State) : Host.Outcome State Fault Refusal :=
  onInput s fun i => match i with
    | .hostApertureAccess a => some fun s =>
        let s := s.woken
        match s.paddock? (fld a.addr 38 4) with
        | none => s.allOnes a.op
        | some p => s.outsideAccess p (fld a.addr 0 38) a.op
    | _ => none

/-- Whether a paddock admits what arrives on a peer port (R376). -/
def Paddock.admits (p : Paddock) (port : Nat) : Bool := port < 16 && p.peerMask.getLsbD port

/-- PEER_ACCESS (R192, R376). In S3 the dies are off (R380), and nothing receives it.
(DESIGN CHOICE, log 127.) -/
def execPeerAccess (s : State) : Host.Outcome State Fault Refusal :=
  onInput s fun i => match i with
    | .peerAccess port a => some fun s => if s.power == 3 then s else
        match (s.paddock? (fld a.addr 40 4)).filter fun p => p.admits port with
        | none => s.allOnes a.op
        | some p => s.outsideAccess p (fld a.addr 0 40) a.op
    | _ => none

/-! Launch records that arrive (R44, R369, R371, R391, R394). -/

/-- Enqueue a launch record for a paddock: the STATUS of the command.
(DEDUCED, log 94.) -/
def State.acceptLaunch (s : State) (p q : Nat) (r : Rec8) (restore : Option (Nat × Nat × Nat)) : Nat × State :=
  match s.queue? q with
  | none => (2, s)
  | some x =>
    if x.paddock != p then (4, s)
    else if x.record || x.closed then (2, s)
    else
      match s.launchCheck p r with
      | some 1 => (if (s.charge? (recCharge r)).isSome then 4 else 2, s)
      | some _ => (2, s)
      | none =>
        match s.enqueueLaunch q r restore with
        | some s => (0, s)
        | none => (3, s)

/-- PEER_LAUNCH_ARRIVAL (R371, R376): the answer that goes back to the sender is the STATUS. In S3 firmware has no power (R380), and
nothing receives it.
(DESIGN CHOICE, log 127.) -/
def execPeerLaunchArrival (s : State) : Host.Outcome State Fault Refusal :=
  onInput s fun i => match i with
    | .peerLaunchArrival port p q r => some fun s => if s.power == 3 then s else
        match (s.paddock? p).filter fun x => x.admits port with
        | none => s.replyWith [4]
        | some _ =>
          let (st, s) := s.acceptLaunch p q r none
          s.replyWith [BitVec.ofNat 8 st]
    | _ => none

/-- PEER_ACKNOWLEDGES (R371, R376): a forwarded LAUNCH completes with the STATUS that the peer gives.
(DESIGN CHOICE, log 127.) -/
def execPeerAcknowledges (s : State) : Host.Outcome State Fault Refusal :=
  onInput s fun i => match i with
    | .peerAcknowledges id st => some fun s => if s.power == 3 then s else
        match s.outstanding.find? fun o => match o with | .peerLaunch _ n _ _ _ _ none => n == id | _ => false with
        | some (.peerLaunch tag n a b c d e) =>
          { s with outstanding := s.outstanding.filter fun (o : Outstanding) => o != Outstanding.peerLaunch tag n a b c d e }.complete tag 0x06 (st % 256) 0
        | _ => s
    | _ => none

/-! Links and connectors (R381, R425 to R428). -/

/-- A peer port; one that is not listed has 8 lanes up. -/
def State.peer (s : State) (p : Nat) : PeerPort := (s.peers.find? fun x => x.index == p).getD ⟨p, 8, [], false, [], 0, []⟩

/-- Replace a peer port. -/
def State.setPeer (s : State) (x : PeerPort) : State := { s with peers := (s.peers.filter fun y => y.index != x.index) ++ [x] }

/-- A non-negative FP32 value as a fraction; infinities and NaNs stand as a huge value and 0. -/
def fp32Frac (v : Nat) : Nat × Nat :=
  let e := fld v 23 8
  let m := fld v 0 23
  if v.testBit 31 then (0, 1)
  else if e == 255 then (if m == 0 then 2 ^ 200 else 0, 1)
  else if e == 0 then (m, 2 ^ 149)
  else if e ≤ 150 then (m + 2 ^ 23, 2 ^ (150 - e))
  else ((m + 2 ^ 23) * 2 ^ (e - 150), 1)

/-- The three thresholds of a quantity as fractions (R427): WATCH, WARN, FAIL_PREDICTED. -/
def thresholds (q : Nat) : List (Nat × Nat) :=
  match q with
  | 0 => [(1, 10 ^ 6), (1, 10 ^ 5), (1, 10 ^ 4)]
  | 1 => [(1, 10 ^ 7), (1, 10 ^ 6), (1, 10 ^ 5)]
  | 2 => [(30, 1), (20, 1), (12, 1)]
  | 3 => [(1, 1), (4, 1), (16, 1)]
  | 4 => [(20, 100), (50, 100), (100, 100)]
  | 5 => [(150, 1), (200, 1), (250, 1)]
  | _ => []

/-- The value of a reading as a fraction; of code 4 the rise over the value at mating. -/
def readingFrac (h : HealthReading) : Nat × Nat :=
  if h.quantity ≤ 1 then fp32Frac h.value
  else if h.quantity == 4 then (h.value - h.mating, max 1 h.mating)
  else (h.value, 1)

/-- Whether a value meets a threshold: rising, or (code 2) falling. -/
def meets (q : Nat) (v t : Nat × Nat) : Bool := if q == 2 then v.1 * t.2 ≤ t.1 * v.2 else t.1 * v.2 ≤ v.1 * t.2

/-- Whether a value has returned past 80 % of a threshold, or past 125 % of a falling one. -/
def rearms (q : Nat) (v t : Nat × Nat) : Bool :=
  if q == 2 then 5 * t.1 * v.2 < 4 * v.1 * t.2 else 5 * v.1 * t.2 < 4 * t.1 * v.2

/-- The lanes that a port runs on with some lanes left (R425). -/
def widthOf (left : Nat) : Nat := if left ≥ 8 then 8 else if left ≥ 4 then 4 else if left ≥ 2 then 2 else 0

/-- A quantity as last measured. -/
def State.healthOf (s : State) (q port lane : Nat) : Health :=
  (s.health.find? fun x => x.quantity == q && x.port == port && x.lane == lane).getD ⟨q, port, lane, 0, 0, [], 0, 0⟩

/-- Replace a quantity. -/
def State.setHealth (s : State) (x : Health) : State :=
  { s with health := (s.health.filter fun y => !(y.quantity == x.quantity && y.port == x.port && y.lane == x.lane)) ++ [x] }

/-- FLIT_REPLAY (R425): the link replays the flit; nothing is reported, no order changes, and the replay counts toward the lane's
corrected-symbol rate.
(DESIGN CHOICE, log 127.) -/
def execFlitReplay (s : State) : Host.Outcome State Fault Refusal :=
  onInput s fun i => match i with
    | .flitReplay p l => some fun s => if s.power == 3 then s else
        let x := s.healthOf 1 p l
        s.setHealth { x with replays := x.replays + 1 }
    | _ => none

/-- The event of a level (R381). -/
def State.healthEvent (s : State) (h : HealthReading) (level : Nat) : State :=
  let lane := if h.quantity ≥ 4 then 0 else h.lane % 8
  s.event 0x13 (BitVec.ofNat 64 (level + h.quantity * 2 ^ 4 + h.port % 256 * 2 ^ 8 + lane * 2 ^ 16)) 2

/-- One hour. -/
def tHour : Nat := 3600 * tS

/-- The retrains of a lane that the device made in the last hour (R374, R427). -/
def State.trainsOf (s : State) (port lane : Nat) : Nat := (s.peer port).trains.countP fun r => r.1 == lane && s.now < r.2 + tHour

/-- The value of a quantity at the end of its window: a rate with the replays of the window in it (R425), the retrains that the lane
reports and those that the device made, the contact resistance as drop over current (R381). -/
def Health.measured (old : Health) (trains : Nat) (h : HealthReading) : Nat :=
  match h.quantity with
  | 3 => max h.value trains
  | 1 => if old.replays == 0 then h.value else Config.replayRate h.value old.replays
  | 4 => h.value / max 1 h.current
  | _ => h.value

/-- A quantity is measured (R427): levels re-arm, and newly reached levels are posted in rising order; the levels before it and the
new ones. -/
def State.healthPost (s : State) (h : HealthReading) : List Nat × List Nat × State :=
  let old := s.healthOf h.quantity h.port h.lane
  let raw := h.value
  let h := { h with value := old.measured (s.trainsOf h.port h.lane) h }
  let v := readingFrac h
  let ts := (thresholds h.quantity).zipIdx
  let kept := old.posted.filter fun l => !(ts.any fun t => t.2 + 1 == l && rearms h.quantity v t.1)
  let new := ts.filterMap fun (t : (Nat × Nat) × Nat) => if meets h.quantity v t.1 && !kept.contains (t.2 + 1) then some (t.2 + 1) else none
  let s := s.setHealth { old with value := if h.quantity == 3 then raw else h.value, base := h.mating, posted := kept ++ new, highest := new.foldl max old.highest, replays := 0 }
  (kept, new, new.foldl (fun (s : State) l => s.healthEvent h l) s)

/-- The retrains of a lane in the last hour are measured, as they stand. -/
def State.countTrains (s : State) (p lane : Nat) : State := (s.healthPost ⟨3, p, lane, (s.healthOf 3 p lane).value, 0, 0⟩).2.2

/-- A lane is retrained (R425, R427): what has left the last hour re-arms its levels, and the count with the new retrain is
measured. -/
def State.retrain (s : State) (p lane : Nat) : State :=
  let s := s.countTrains p lane
  let x := s.peer p
  (s.setPeer { x with trains := (x.trains.filter fun r => s.now < r.2 + tHour) ++ [(lane, s.now)] }).countTrains p lane

/-- The peer PA of a paddock behind a peer port (R137, R376). -/
def peerPa (port paddock : Nat) : Nat := 9 * 2 ^ 48 + port * 2 ^ 44 + paddock * 2 ^ 40

/-- The record of a forwarded launch that is held (R426). -/
def State.launchFault (s : State) (queue port paddock : Nat) : Nat × State :=
  s.postFault { cause := 0x58, cls := 1, access := 1, die := 0, queue := queue, w6 := port, w7 := peerPa port paddock }

/-- A port's forwarded launches that were sent and not answered when the port went down (R426): each either still gets its
answer, which the spec leaves open, or is held.
(DESIGN CHOICE, log 90.) -/
def State.loseLaunches (s : State) (p : Nat) : State :=
  s.outstanding.foldl (fun (s : State) o => match o with
    | .peerLaunch tag id port pd q r none =>
      if port != p then s
      else
        let t := { s with freeCount := s.freeCount + 1 }
        if Config.freeNat s.freeCount % 2 == 1 then t
        else
          let (uid, t) := t.launchFault q port pd
          { t with outstanding := t.outstanding.map fun x => if x == o then Outstanding.peerLaunch tag id port pd q r (some uid) else x }
    | _ => s) s

/-- A peer lane's BER reaches FAIL_PREDICTED (R425): the lane is retrained, or removed when that was so within the last hour. -/
def State.laneFails (s : State) (p lane : Nat) : State :=
  let x := s.peer p
  if x.retrained.any fun r => r.1 == lane && s.now < r.2 + tHour then
    let removed := insertNat lane x.removed
    let w := widthOf (8 - removed.length)
    let t := s.setPeer { x with removed := removed, lanes := w, down := w == 0, retrainAt := if w == 0 && !x.down then s.now else x.retrainAt }
    if w == 0 && !x.down then t.loseLaunches p else t
  else (s.setPeer { x with retrained := (x.retrained.filter fun r => r.1 != lane) ++ [(lane, s.now)] }).retrain p lane

/-- What the device does when a quantity reaches FAIL_PREDICTED (R427). -/
def State.healthAction (s : State) (h : HealthReading) : State :=
  match h.quantity with
  | 0 => if h.port < 16 then s.laneFails h.port h.lane else s
  | 2 => s.retrain h.port h.lane
  | 4 => s.halve (1 + h.port % 8)
  | _ => s

/-- A measurement window of a quantity ends (R427, R428): its events are posted, and the device acts once their entries are
visible. -/
def State.healthDo (s : State) (h : HealthReading) : State :=
  let had := (s.healthOf h.quantity h.port h.lane).posted
  let (kept, new, s) := s.healthPost h
  let s := if h.quantity == 4 && had.contains 2 && !kept.contains 2 then
      { s.unhalve (1 + h.port % 8) with healthDue := s.healthDue.filter fun x => !(x.quantity == 4 && x.port == h.port) }
    else s
  if !new.contains 3 then s else if s.cplWait.isEmpty then s.healthAction h else { s with healthDue := s.healthDue ++ [h] }

/-- HEALTH_WINDOW (R381, R425, R427, R428). -/
def execHealthWindow (s : State) : Host.Outcome State Fault Refusal :=
  onInput s fun i => match i with
    | .healthWindow h => some fun s => s.firmware fun s => if h.quantity ≤ 5 then s.healthDo h else s
    | _ => none

/-- PORT_RETRAIN_ATTEMPT (R426): a down port returns to service when all 8 lanes train.
(DESIGN CHOICE, log 127.) -/
def execPortRetrainAttempt (s : State) : Host.Outcome State Fault Refusal :=
  onInput s fun i => match i with
    | .portRetrainAttempt p ok => some fun s => if s.power == 3 then s else
        let x := s.peer p
        if !x.down || s.now < x.retrainAt + 10 * tS then s
        else if ok then s.setPeer { x with lanes := 8, removed := [], down := false }
        else s.setPeer { x with retrainAt := s.now }
    | _ => none

/-! The BAR0 registers (R368). -/

/-- Completion entries that waited for a place enter the ring; once none waits, the device acts on the health events among them
(R428). -/
def State.flushCpl (s : State) : State :=
  let s := s.cplWait.foldl (fun (s : State) (x : Word × Word × Nat) => s.pushCpl x.1 x.2.1 x.2.2) { s with cplWait := [] }
  if s.cplWait.isEmpty then s.healthDue.foldl State.healthAction { s with healthDue := [] } else s

/-- What a read of a BAR0 register returns (R368). -/
def State.register (s : State) (off : Nat) : Word :=
  match off with
  | 0x0000 => s.cmdBase
  | 0x0008 => BitVec.ofNat 64 s.cmdSize
  | 0x0010 => s.cplBase
  | 0x0018 => BitVec.ofNat 64 s.cplSize
  | 0x0028 => BitVec.ofNat 64 s.cplHead
  | 0x0030 => BitVec.ofNat 64 ((s.boot == .ready).toNat + (s.boot == .ready || s.boot == .bootOk).toNat * 2 + s.power * 16)
  | _ => 0

/-- REGISTER_WRITE (R368, R380): a doorbell write exposes command entries; read-only and other offsets ignore writes. A read of a
BAR0 register, which has no row of its own, is this row too: it is answered after the exit from S3.
(DEDUCED, log 91.) -/
def execRegisterWrite (s : State) : Host.Outcome State Fault Refusal :=
  onInput s fun i => match i with
    | .registerWrite off v => some fun s =>
        let s := s.woken
        match off with
        | 0x0000 => { s with cmdBase := BitVec.ofNat 64 (v.toNat / 64 * 64) }
        | 0x0008 => { s with cmdSize := v.toNat % 16 }
        | 0x0010 => { s with cplBase := BitVec.ofNat 64 (v.toNat / 16 * 16) }
        | 0x0018 => { s with cplSize := v.toNat % 16 }
        | 0x0020 => { s with cmdTail := v.toNat % 2 ^ 16 }
        | 0x0028 => { s with cplHead := v.toNat % 2 ^ 16 }.flushCpl
        | _ => s
    | .registerRead off => some fun s =>
        let s := s.woken
        s.replyWith (leBytes 8 (s.register off).toNat)
    | _ => none

end Sys2Proof.Machine
end

