-- ==== Sys2Proof/Machine/Host.lean ====
section
/-! DEFINITION. Host commands (R369 to R375, R383, R384, R429): paddocks, queues, launches, range tables, handles, glazes and folds,
snapshots, counters, tiers, reports, attestation, patches and resets. CHARGE_LOAD is in Loader, FAULT_READ and FAULT_RESUME in
Resume. -/

namespace Sys2Proof.Machine

/-! Command entries (R369). -/

def cmdCode (e : Rec8) : Nat := fld e.w0.toNat 0 8
def cmdTag (e : Rec8) : Nat := fld e.w0.toNat 16 16
def cmdPaddock (e : Rec8) : Nat := fld e.w0.toNat 32 4

/-- Whether every bit that a command does not name is zero: word 0, and the named bits of words 1 to 7 (R369, R373). -/
def formOk (e : Rec8) (masks : List Nat) : Bool :=
  e.w0.toNat &&& 0xFFFF00FF + 0xF * 2 ^ 32 == e.w0.toNat &&
  (((recWords e).drop 1).zipIdx.all fun x => x.1.toNat &&& masks.getD x.2 0 == x.1.toNat)

/-- All of a word, and its low `n` bits. -/
def m64 : Nat := 2 ^ 64 - 1
def lowBits (n : Nat) : Nat := 2 ^ n - 1

/-- The completion of a command (R369). -/
def State.done (s : State) (e : Rec8) (result : Word) : State := s.complete (cmdTag e) (cmdCode e) 0 result
def State.fails (s : State) (e : Rec8) (status : Nat) : State := s.complete (cmdTag e) (cmdCode e) status 0
def State.badParam (s : State) (e : Rec8) : State := s.fails e 2

/-- What a command does; the cursor holds its entry. One with stray bits completes BADPARAM and changes nothing (R373). -/
def onCommand (s : State) (masks : List Nat) (f : State → Rec8 → State) : Host.Outcome State Fault Refusal :=
  match s.cursor with
  | .command e => s.run fun s => if formOk e masks then f s e else s.badParam e
  | _ => .fault .noActor

/-- A command of a paddock; one that does not exist makes it BADPARAM. -/
def onPaddock (s : State) (masks : List Nat) (f : State → Rec8 → Paddock → State) : Host.Outcome State Fault Refusal :=
  onCommand s masks fun s e =>
    match s.paddock? (cmdPaddock e) with
    | none => s.badParam e
    | some p => f s e p

/-- Bytes of host memory.
(DESIGN CHOICE, log 37.) -/
def State.hostBytes (s : State) (a n : Nat) : List Byte := (List.range n).map fun i => s.byte (hostPa (a + i))
def State.hostPut (s : State) (a : Nat) (bs : List Byte) : State :=
  s.pokeAt ((List.range bs.length).zip bs |>.map fun x => (hostPa (a + x.1), x.2))

/-! Paddocks (R371 to R373, R384). -/

/-- The parameters of PADDOCK_CREATE within their ranges. -/
def createOk (e : Rec8) : Bool :=
  let q := fld e.w3.toNat 0 17
  let slots := fld e.w6.toNat 32 12
  e.w1.toNat % 4096 == 0 && e.w2.toNat % 256 == 0 && 10 ≤ q && q ≤ 100000 &&
  ((List.range 4).all fun d => fld e.w4.toNat (8 * d) 7 ≤ 72) && 1 ≤ slots

/-- The named bits of PADDOCK_CREATE. -/
def createMasks : List Nat :=
  [lowBits 48, lowBits 48, lowBits 21, 0x7F7F7F7F, m64, lowBits 27 + lowBits 12 * 2 ^ 32, lowBits 16]

/-- The paddock of a PADDOCK_CREATE command: no range mapped, every counter zero (R372). -/
def State.paddockOf (s : State) (e : Rec8) (index : Nat) : Paddock where
  index := index
  root := e.w1.toNat
  handles := e.w2.toNat
  quantum := fld e.w3.toNat 0 17
  tier := fld e.w3.toNat 17 2
  breakpoints := e.w3.getLsbD 19
  signedOnly := e.w3.getLsbD 20
  share := (List.range 4).map fun d => fld e.w4.toNat (8 * d) 7
  key := if e.w5 == 0 then [] else s.hostBytes e.w5.toNat 57
  saveBase := fld e.w6.toNat 0 27
  saveCount := fld e.w6.toNat 32 12
  peerMask := BitVec.ofNat 16 e.w7.toNat
  ranges := []
  counters := []
  tolerance := 0
  slotsUsed := []
  create := e

/-- PADDOCK_CREATE (R371, R373): the lowest free index; the PADDOCK field is ignored.
(DEDUCED, log 92.) -/
def execPaddockCreate (s : State) : Host.Outcome State Fault Refusal :=
  onCommand s createMasks fun s e =>
    if !createOk e then s.badParam e
    else
      match (List.range 16).find? fun i => (s.paddock? i).isNone with
      | none => s.fails e 3
      | some i => { s with paddocks := s.paddocks ++ [s.paddockOf e i] }.done e (BitVec.ofNat 64 i)

/-- What waits on a queue when it closes will raise QUEUE_CLOSED (R391), whatever takes its index later. -/
def QueueOp.gone (q : Nat) : QueueOp → QueueOp
  | .push n r => if n == q then .closed q 0x95 else .push n r
  | .pop n k => if n == q then .closed q 0x96 else .pop n k
  | .lnch n r => if n == q then .closed q 0x98 else .lnch n r
  | o => o

def Work.queueGone (q : Nat) : Work → Work
  | .queue o d => .queue (o.gone q) d
  | w => w

def Kiln.queueGone (k : Kiln) (q : Nat) : Kiln :=
  { k with tiles := k.tiles.map fun t => { t with execs := t.execs.map fun x => { x with pend := x.pend.map fun p =>
      { p with work := p.work.queueGone q } } } }

/-- A queue closes (R391): the records of a RECORD queue are gone, and the launches that have not been picked retire CANCELLED
(R392). -/
def State.closeQueue (s : State) (q : Nat) : State :=
  match s.queue? q with
  | none => s
  | some x =>
    let s := { s.modQueue q (fun x => { x with closed := true }) with kilns := s.kilns.map fun (k : Kiln) => k.queueGone q }
    if x.record then s.modQueue q fun x => { x with onchip := [], head := x.tail, count := 0, addedNow := 0, heldRec := none, heldRead := none }
    else s.cancelAll x.paddock (s.cancelSet x.paddock ((s.waiting x.paddock).filter fun w => w.queue == q) [])

/-- Every dispatched launch of a queue retires ABORTED (R393). -/
def State.abortQueue (s : State) (q : Nat) : State :=
  ((s.kilns.filter fun k => k.queue == q).map Kiln.id).foldl (fun (s : State) k => s.abortKiln k) s

/-- Tear every queue of a paddock down in mode ABORT, and remove the paddock with its charges (R371). -/
def State.destroyPaddock (s : State) (p : Nat) : State :=
  let qs := (s.queues.filter fun q => q.paddock == p).map QueueSt.index
  let s := (qs.foldl (fun (s : State) q => (s.closeQueue q).abortQueue q) s).reap
  { s with
    queues := s.queues.filter fun q => q.paddock != p
    charges := s.charges.filter fun c => c.paddock != p
    folds := s.folds.filter fun j => j.paddock != p
    heldWords := s.heldWords.filter fun h => h.launch.paddock != p
    paddocks := s.paddocks.filter fun x => x.index != p }

/-- PADDOCK_DESTROY (R371). -/
def execPaddockDestroy (s : State) : Host.Outcome State Fault Refusal :=
  onPaddock s [] fun s e p => (s.destroyPaddock p.index).done e 0

/-- RESET with scope 0 (R384): the paddock is destroyed and created again with its earlier parameters. -/
def execResetPaddock (s : State) : Host.Outcome State Fault Refusal :=
  onPaddock s [1] fun s e p =>
    let s := s.destroyPaddock p.index
    { s with paddocks := s.paddocks ++ [s.paddockOf p.create p.index] }.done e 0

/-- RESET with scope 1 (R384): the state at power-on; no command that is outstanding gets a completion. -/
def execResetPackage (s : State) : Host.Outcome State Fault Refusal :=
  onCommand s [1] fun s _ => s.resets

/-- SET_TOLERANCE (R380). -/
def execSetTolerance (s : State) : Host.Outcome State Fault Refusal :=
  onPaddock s [lowBits 40] fun s e p => (s.modPaddock p.index fun p => { p with tolerance := e.w1.toNat }).done e 0

/-- SET_TIER (R379): it takes effect at the next evaluation. -/
def execSetTier (s : State) : Host.Outcome State Fault Refusal :=
  onPaddock s [3] fun s e p => (s.modPaddock p.index fun p => { p with tier := e.w1.toNat }).done e 0

/-! Queues and launches (R371, R373, R391 to R394). -/

/-- Insert a queue by index. -/
def insertQueue (x : QueueSt) : List QueueSt → List QueueSt
  | [] => [x]
  | y :: r => if x.index < y.index then x :: y :: r else y :: insertQueue x r

/-- A queue as it is created: empty and open. -/
def QueueSt.fresh (index : Nat) (record : Bool) (paddock die prio ringVa ringSize : Nat) : QueueSt where
  index := index
  record := record
  paddock := paddock
  die := die
  prio := prio
  ringVa := ringVa
  ringSize := ringSize
  onchip := []
  head := 0
  tail := 0
  count := 0
  metas := []
  closed := false
  cycNo := 0
  freedNow := 0
  addedNow := 0
  ringNow := false
  movedNow := false
  heldRec := none
  heldRead := none

/-- QUEUE_CREATE (R373): an index in use is BADPARAM. -/
def execQueueCreate (s : State) : Host.Outcome State Fault Refusal :=
  onPaddock s [lowBits 14, lowBits 48, lowBits 17] fun s e p =>
    let q := fld e.w1.toNat 0 8
    let size := e.w3.toNat
    if e.w2.toNat % 64 != 0 || size < 64 || 65536 < size || (s.queue? q).isSome then s.badParam e
    else
      let x := QueueSt.fresh q (e.w1.getLsbD 8) p.index (fld e.w1.toNat 9 2) (fld e.w1.toNat 11 3) e.w2.toNat size
      { s with queues := insertQueue x s.queues }.done e 0

/-- A teardown begins: its queue closes, and the command completes when no dispatched launch is left (R391, R393). -/
def State.teardown (s : State) (e : Rec8) (p : Paddock) (abort : Bool) : State :=
  let q := fld e.w1.toNat 0 8
  match s.queue? q with
  | none => s.badParam e
  | some x =>
    if x.paddock != p.index then s.fails e 4
    else if x.closed then s.badParam e
    else
      let s := s.closeQueue q
      let s := if abort then s.abortQueue q else s
      { s with outstanding := s.outstanding ++ [Outstanding.teardown (cmdTag e) q (cmdCode e)] }.reap

/-- QUEUE_TEARDOWN in mode DRAIN (R391 to R393). -/
def execQueueTeardownDrain (s : State) : Host.Outcome State Fault Refusal :=
  onPaddock s [lowBits 9] fun s e p => s.teardown e p false

/-- QUEUE_TEARDOWN in mode ABORT (R391 to R393). -/
def execQueueTeardownAbort (s : State) : Host.Outcome State Fault Refusal :=
  onPaddock s [lowBits 9] fun s e p => s.teardown e p true

/-- A forwarded launch is sent, or held at a port that is down (R371, R426). -/
def State.forward (s : State) (tag id port paddock queue : Nat) (r : Rec8) : State :=
  let (held, s) := if (s.peer port).down then
      let (uid, s) := s.launchFault queue port paddock
      (some uid, s)
    else (none, s)
  { s with outstanding := s.outstanding ++ [Outstanding.peerLaunch tag id port paddock queue r held] }

/-- LAUNCH (R44, R371, R391, R394). -/
def execLaunch (s : State) : Host.Outcome State Fault Refusal :=
  onPaddock s [lowBits 8, m64, 0xF1F] fun s e p =>
    let q := e.w1.toNat
    let peer := e.w3.getLsbD 4
    if e.w2.toNat % 64 != 0 || (!peer && fld e.w3.toNat 8 4 != 0) then s.badParam e
    else
      let r := recOfBytes (s.hostBytes e.w2.toNat 64)
      if peer then
        let (id, s) := s.fresh
        s.forward (cmdTag e) id (fld e.w3.toNat 0 4) (fld e.w3.toNat 8 4) q r
      else
        let (st, s) := s.acceptLaunch p.index q r none
        s.fails e st

/-! Range tables (R158, R429). -/

/-- The kinds of PA that a fixed entry reaches: that of its first byte and of its last. -/
def spanKinds (n : Nat) : Nat × Nat :=
  let lo := (fld n 0 27 * 2 ^ 21 + fld n 64 52) % 2 ^ 52
  (lo / 2 ^ 48, (lo + (fld n 27 27 + 1 - fld n 0 27) * 2 ^ 21 - 1) / 2 ^ 48)

/-- Whether a range-table entry may be written at an index (R158). -/
def Paddock.mapOk (p : Paddock) (i n : Nat) : Bool :=
  let v := fld n 54 1 == 1
  let placed := fld n 58 1 == 1
  let coherent := fld n 59 1 == 1
  let units := fld n 27 27 + 1 - fld n 0 27
  let k := spanKinds n
  let fm := fld n 64 52
  fld n 60 4 == 0 && fld n 116 12 == 0 &&
  (!v || p.ranges.all fun r => let m := r.2.toNat
    r.1 == i || fld m 54 1 == 0 || fld m 27 27 < fld n 0 27 || fld n 27 27 < fld m 0 27) &&
  (if placed then fm / 2 ^ 48 == 0 && (fm + 256 * units) ≤ 2 ^ 48 && paExists fm && (units == 0 || paExists (fm + 256 * units - 1))
    else k.1 == k.2 && (k.1 == 0 || k.1 == 8 || k.1 == 9)) &&
  (!coherent || (!placed && k.1 == 8 && k.2 == 8))

/-- Write a range-table entry. -/
def Paddock.setRange (p : Paddock) (i : Nat) (e : BitVec 128) : Paddock :=
  { p with ranges := (p.ranges.filter fun r => r.1 != i) ++ [(i, e)] }

/-- MAP (R158, R429). -/
def execMap (s : State) : Host.Outcome State Fault Refusal :=
  onPaddock s [lowBits 6, m64, m64] fun s e p =>
    let i := e.w1.toNat
    let n := e.w2.toNat + e.w3.toNat * 2 ^ 64
    if 48 ≤ i || !p.mapOk i n then s.badParam e
    else (s.modPaddock p.index fun p => p.setRange i (BitVec.ofNat 128 n)).done e 0

/-- UNMAP (R158, R429): V is cleared. -/
def execUnmap (s : State) : Host.Outcome State Fault Refusal :=
  onPaddock s [lowBits 6] fun s e p =>
    let i := e.w1.toNat
    if 48 ≤ i then s.badParam e
    else (s.modPaddock p.index fun p => { p with
      ranges := p.ranges.map fun r => if r.1 == i then (i, r.2 &&& ~~~(BitVec.ofNat 128 (2 ^ 54))) else r }).done e 0

/-! Handles, glazes, folds (R167, R170, R172, R218, R412). -/

/-- Firmware as the agent of a command's accesses: it places a frame as the host does, and a fold it starts counts as asked for by
slice 0 of die 0.
(DESIGN CHOICE, log 116.) -/
def cmdAgent (p : Paddock) : Agent := ⟨p.index, none, 0, 0, .outside, 0, { cause := 0x29, cls := 2, die := 0, paddock := p.index }⟩

/-- The outcome of a command's accesses: frames that are being moved are moved first (R160); a fault makes it BADPARAM with the cause
as RESULT, and changes nothing (R412).
(DEDUCED, log 95.) -/
def State.cmdAnswer {α : Type} (s : State) (e : Rec8) (act : State → Eng α) (f : State → α → State) : State :=
  let fail := fun cause : Nat => s.complete (cmdTag e) (cmdCode e) 2 (BitVec.ofNat 64 cause)
  let s' := s.migrations.foldl State.migrateDone s
  match act s, act s' with
  | .ok a s, _ => f s a
  | .wait _, .ok a s => f s a
  | .wait _, .hold x _ _ => fail x.cause
  | .wait _, .stop c _ _ _ => fail c
  | .wait _, .wait _ => s.badParam e
  | .hold x _ _, _ => fail x.cause
  | .stop c _ _ _, _ => fail c

/-- A handle's new entry from words 0 to 4 (R167): none where they break R218. -/
def newEntry (w : List Word) : Option (List Word) :=
  let a := entWord w 0
  if realFmt (fld a 48 4) && fld a 59 5 == 0 && (List.range 4).all fun d => entExt w d != 0 then
    some ((w.take 5).set 0 (BitVec.ofNat 64 (a % 2 ^ 56)) ++ List.replicate 27 0)
  else none

/-- HANDLE_CREATE (R167, R218). -/
def execHandleCreate (s : State) : Host.Outcome State Fault Refusal :=
  onPaddock s [lowBits 24, lowBits 48] fun s e p =>
    let g := cmdAgent p
    s.cmdAnswer e (fun s => (s.engRead g e.w2.toNat 40).next fun bs s =>
      match newEntry (wordsOf 5 bs) with
      | none => .stop 0 0 0
      | some w => s.putEntry g e.w1 w) fun s _ => s.done e 0

/-- GLAZE_ATTACH (R170, R335, R371). -/
def execGlazeAttach (s : State) : Host.Outcome State Fault Refusal :=
  onPaddock s [m64, lowBits 48] fun s e p => s.cmdAnswer e (fun s => s.glazeAttach (cmdAgent p) e.w1 e.w2) fun s g => s.done e g

/-- GLAZE_DETACH (R170, R335, R371). -/
def execGlazeDetach (s : State) : Host.Outcome State Fault Refusal :=
  onPaddock s [m64, lowBits 3] fun s e p => s.cmdAnswer e (fun s => s.glazeDetach (cmdAgent p) e.w1 e.w2) fun s g => s.done e g

/-- FOLD (R172, R336, R370): it completes once the source entry has been captured. -/
def execFold (s : State) : Host.Outcome State Fault Refusal :=
  onPaddock s [m64, lowBits 48] fun s e p => s.cmdAnswer e (fun s => s.foldStart (cmdAgent p) e.w1 e.w2) fun s _ => s.done e 0

/-! Snapshots (R58, R59, R370, R374, R375, R390). -/

/-- Begin a snapshot: raddles enter a running kiln; a kiln that stands frozen or stopped is taken from its readout. -/
def State.snapBegin (s : State) (k : Kiln) (r : SnapRun) : State :=
  let s := { s.modKiln k.id (fun k => { k with snap := some r }) with outstanding := s.outstanding ++ [Outstanding.snapshot r.tag k.id] }
  match k.stat with
  | .frozen | .stopped => s.snapFrozen k.id
  | .running =>
    match s.image? k.charge, s.kiln? k.id with
    | some im, some k => s.inject k im
    | _, _ => s
  | _ => s

/-- SNAPSHOT (R58, R59, R370, R373). -/
def execSnapshot (s : State) : Host.Outcome State Fault Refusal :=
  onPaddock s [lowBits 32, lowBits 24, lowBits 48] fun s e p =>
    let us := e.w2.toNat
    match s.kiln? e.w1.toNat with
    | none => s.badParam e
    | some k =>
      if k.paddock != p.index then s.fails e 4
      else if 10000 < us || e.w3.toNat % 4096 != 0 || k.snap.isSome then s.badParam e
      else
        match s.vaWrite p .outside e.w3.toNat (List.replicate 4096 0) with
        | (.error _, s') => s'.badParam e
        | (.ok _, _) =>
          s.snapBegin k ⟨cmdTag e, e.w3.toNat, s.now + (if us == 0 then 50 else us) * tUs, [], [], [], [], []⟩

/-- A snapshot record's header: its launch record, KILNID and TIME; none where MAGIC or VERSION is wrong (R374). -/
def snapRecord (bs : List Byte) : Option (Rec8 × Nat × Nat) :=
  if leNat (bs.take 4) == 0x53504B4E && leNat ((bs.drop 5).take 1) == 1 then
    some (recOfBytes ((bs.drop 0x10).take 64), leNat ((bs.drop 8).take 4), leNat ((bs.drop 0x58).take 8))
  else none

/-- SNAPSHOT_RESTORE (R375). -/
def execSnapshotRestore (s : State) : Host.Outcome State Fault Refusal :=
  onPaddock s [lowBits 8, lowBits 48] fun s e p =>
    match s.vaRead p .outside e.w2.toNat 0x60 with
    | (.error _, s') => s'.badParam e
    | (.ok bs, s') =>
      match snapRecord bs with
      | none => s'.badParam e
      | some (r, kid, time) =>
        if (s.charge? (recCharge r)).any fun c => c.paddock == p.index then
          let (st, s) := s'.acceptLaunch p.index e.w1.toNat r (some (kid, time, e.w2.toNat))
          s.fails e st
        else s'.badParam e

/-! Counters (R372). -/

/-- COUNTER_SET (R372). -/
def execCounterSet (s : State) : Host.Outcome State Fault Refusal :=
  onPaddock s [lowBits 12, m64] fun s e p => (s.putCounter p.index e.w1.toNat e.w2).done e 0

/-- COUNTER_READ (R372). -/
def execCounterRead (s : State) : Host.Outcome State Fault Refusal :=
  onPaddock s [lowBits 12] fun s e p => s.done e (p.counter e.w1.toNat)

/-! Reports (R374). -/

/-- Bytes of a field list: (offset, size, value), the rest zero. -/
def report (fields : List (Nat × Nat × Nat)) : List (Nat × Byte) :=
  ((List.range 4096).map fun i => (i, (0 : Byte))) ++
    fields.flatMap fun f => ((List.range f.2.1).zip (leBytes f.2.1 (f.2.2 % 2 ^ (8 * f.2.1)))).map fun x => (f.1 + x.1, x.2)

/-- Write a report to host memory. -/
def State.putReport (s : State) (a : Nat) (fields : List (Nat × Nat × Nat)) : State :=
  s.pokeAt ((report fields).map fun x => (hostPa (a + x.1), x.2))

/-- The highest throttle level of a die's kilns. -/
def State.topLevel (s : State) (d : Nat) : Nat := ((s.placedOn d).map Kiln.throttle).foldl max 0

/-- The fields of POWER_REPORT (R374, R377). -/
def State.powerFields (s : State) : List (Nat × Nat × Nat) :=
  let r := s.reading
  [(0, 4, r.inputMv), (4, 4, r.inputMa), (8, 4, r.convMc), (12, 4, s.power + s.frac * 2 ^ 16)] ++
  ((List.range 4).flatMap fun d =>
    let x := s.die d
    let b := 0x40 + 0x40 * d
    [(b, 4, x.powerMw), (b + 4, 4, x.capMw)] ++ ((List.range 4).map fun t => (b + 8 + 4 * t, 4, x.allot.getD t 0)) ++
      [(b + 0x18, 1, s.topLevel d + x.clamped.toNat * 8 + x.tripped.toNat * 16)]) ++
  ((List.range 4).flatMap fun d => ((s.die d).shelves.filter fun x => x.index < 72).flatMap fun x =>
    let b := 0x200 + 8 * (72 * d + x.index)
    [(b, 2, x.rail.1), (b + 2, 2, x.rail.2.1), (b + 4, 2, x.rail.2.2)]) ++
  ((r.lid.filter fun x => x.1 < 64).map fun x => (0xC00 + 4 * x.1, 4, x.2))

/-- POWER_REPORT (R374, R377). -/
def execPowerReport (s : State) : Host.Outcome State Fault Refusal :=
  onPaddock s [m64] fun s e _ =>
    if e.w1.toNat % 4096 != 0 then s.badParam e else (s.putReport e.w1.toNat s.powerFields).done e 0

/-- The fields of a lane in LINK_HEALTH, at an offset. -/
def State.laneFields (s : State) (at_ port lane state : Nat) : List (Nat × Nat × Nat) :=
  let g := fun q => s.healthOf q port lane
  let top := ((List.range 4).map fun q => (g q).highest).foldl max 0
  [(at_, 4, (g 0).value), (at_ + 4, 4, (g 1).value), (at_ + 8, 2, (g 2).value), (at_ + 10, 2, max (g 3).value (s.trainsOf port lane)), (at_ + 12, 1, state + top * 4)]

/-- The state of a peer lane: 0 up, 1 removed, 2 port down. -/
def PeerPort.laneState (p : PeerPort) (lane : Nat) : Nat := if p.down then 2 else if p.removed.contains lane then 1 else 0

/-- The fields of LINK_HEALTH (R374, R381). -/
def State.healthFields (s : State) : List (Nat × Nat × Nat) :=
  ((List.range 16).flatMap fun p => (List.range 8).flatMap fun l => s.laneFields (16 * (8 * p + l)) p l ((s.peer p).laneState l)) ++
  ((List.range 16).flatMap fun l => s.laneFields (0x800 + 16 * l) 16 l 0) ++
  ((List.range 8).flatMap fun c =>
    let r := s.healthOf 4 c 0
    let m := s.healthOf 5 c 0
    let b := 0x900 + 16 * c
    [(b, 4, r.value), (b + 4, 4, r.base), (b + 8, 2, m.value), (b + 10, 1, max r.highest m.highest)])

/-- LINK_HEALTH (R374, R381). -/
def execLinkHealth (s : State) : Host.Outcome State Fault Refusal :=
  onPaddock s [m64] fun s e _ =>
    if e.w1.toNat % 4096 != 0 then s.badParam e else (s.putReport e.w1.toNat s.healthFields).done e 0

/-! Trust (R382, R383). -/

/-- ATTEST (R383): the SPDM response; one that its buffer cannot hold completes BADPARAM. -/
def execAttest (s : State) : Host.Outcome State Fault Refusal :=
  onPaddock s [m64, lowBits 16, m64, lowBits 16] fun s e _ =>
    let r := Config.spdmResponse (s.hostBytes e.w1.toNat e.w2.toNat) s.measure
    if e.w4.toNat < r.length then s.badParam e
    else (s.hostPut e.w3.toNat r).done e (BitVec.ofNat 64 r.length)

/-- FW_PATCH (R383): a signed patch is kept for the next RESET of scope 1; any other completes DENIED. -/
def execFwPatch (s : State) : Host.Outcome State Fault Refusal :=
  onPaddock s [m64, lowBits 32] fun s e _ =>
    let p := s.hostBytes e.w1.toNat e.w2.toNat
    if Config.patchSigned p then { s with patch := some p }.done e 0 else s.fails e 4

/-- POWER_CONFIG (R373, R378, R379); the PADDOCK field is ignored. -/
def execPowerConfig (s : State) : Host.Outcome State Fault Refusal :=
  onCommand s [lowBits 10, m64, m64, m64, m64] fun s e =>
    let f := e.w1.toNat
    if f < 300 || 800 < f then s.badParam e
    else
      { s with
        frac := f
        floors := [e.w2, e.w3, e.w4, e.w5].map fun (w : Word) => (List.range 4).map fun t => fld w.toNat (16 * t) 16 }.done e 0

end Sys2Proof.Machine
end

