-- ==== Sys2Proof/Machine/Resume.lean ====
section
/-! DEFINITION. FAULT_READ and FAULT_RESUME (R388, R414 to R419, R429): reading a die's fault queue, retrying held accesses, and
resuming or retiring a stopped kiln, which is this machine's return from an exception. -/

namespace Sys2Proof.Machine

/-! FAULT_READ (R414, R419, R429). -/

/-- What a die's outstanding records are after its first `n` records have been read. -/
def DieSt.markRead (d : DieSt) (n : Nat) : List OutRec :=
  let nos := (d.faults.take n).map fun r => fld r.w4.toNat 52 12
  d.outstanding.filterMap fun o => if nos.contains o.recno then (if o.cls == 2 then none else some { o with read := true }) else some o

/-- Deferred records are posted while the queue has a place. -/
def State.postDeferred (s : State) (d : Nat) : Nat → State
  | 0 => s
  | fuel + 1 =>
    let x := s.die d
    match x.deferred with
    | [] => s
    | (uid, r) :: rest =>
      if x.faults.length < 512 then
        let vec := if 0x50 ≤ fld r.w0.toNat 0 8 && fld r.w0.toNat 0 8 ≤ 0x55 then 2 else 1
        ({ s.modDie d (fun _ => { { x with deferred := rest, newDeferred := 0 }.post uid r with newFaults := 0 }) with msix := s.msix ++ [vec] }).postDeferred d fuel
      else s

/-- FAULT_READ (R419): records go to the host, oldest first; deferred ones take their places. -/
def execFaultRead (s : State) : Host.Outcome State Fault Refusal :=
  onPaddock s [3, m64, lowBits 10] fun s e _ =>
    let d := e.w1.toNat
    let n := e.w3.toNat
    if e.w2.toNat % 64 != 0 || n == 0 || 512 < n then s.badParam e
    else
      let x := s.die d
      let got := x.faults.take n
      let s := s.hostPut e.w2.toNat (got.flatMap recBytes)
      let s := s.modDie d fun x => { x with faults := x.faults.drop n, outstanding := x.markRead n, overflowArmed := true }
      let s := s.postDeferred d 512
      s.done e (BitVec.ofNat 64 (got.length + (s.die d).faults.length * 2 ^ 16 + x.overflow * 2 ^ 32))

/-! What a record stands for. -/

/-- Who holds an access, or which kiln stopped, for a fault's number. -/
inductive Holder where
  | stop (k : Kiln) (c : StopCause)
  | port (k : Kiln) (t task slot acc : Nat)
  | engine (k : Kiln) (t task slot : Nat)
  | spilled (a : Acc)
  | list (k : Nat)
  | copy (k : Nat)
  | fold (j : FoldJob)
  | save (h : HeldSave)
  | unit (k : Kiln) (p : Paused)
  | ring (q : QueueSt)
  | word (h : HeldWord)
  | launch (o : Outstanding)
  | gone
  deriving DecidableEq, Repr

/-- An issued instruction that holds an access for a fault. -/
def Kiln.holder (k : Kiln) (uid : Nat) : Option Holder :=
  k.tiles.findSome? fun t => t.execs.findSome? fun x => x.pend.findSome? fun p => match p.work with
    | .portWait _ (some a) (some u) => if u == uid then some (.port k t.id x.task p.slot a.1) else none
    | .engine _ _ (some u) => if u.1 == uid then some (.engine k t.id x.task p.slot) else none
    | _ => none

/-- The lists of the machine: running, submitted or captured. -/
def State.allLists (s : State) : List DList := (s.drovers.flatMap fun d => d.run.toList ++ d.queue) ++ s.kilns.flatMap Kiln.lists

/-- The copies of the machine. -/
def State.allCopies (s : State) : List BtuCopy := s.btus.flatMap BtuSt.copies ++ s.kilns.flatMap Kiln.copies

/-- Whether a fault is one of a forwarded launch. -/
def Outstanding.heldFor (o : Outstanding) (uid : Nat) : Bool :=
  match o with
  | .peerLaunch _ _ _ _ _ _ (some u) => u == uid
  | _ => false

/-- Whether an access is held under a fault's number. -/
def Acc.heldFor (a : Acc) (uid : Nat) : Bool :=
  match a.stage with
  | .spilled h | .lost _ h => h == some uid
  | _ => false

/-- What a fault's number stands for. -/
def State.holder (s : State) (uid : Nat) : Holder :=
  let stops := s.kilns.findSome? fun k => (k.stops.find? fun c => c.uid == uid).map fun c => Holder.stop k c
  let tiles := s.kilns.findSome? fun k => k.holder uid
  let spills := (s.accs.find? fun a => a.heldFor uid).map Holder.spilled
  let lists := (s.allLists.find? fun l => l.held == some uid).map fun l => Holder.list l.kiln
  let copies := (s.allCopies.find? fun c => c.held == some uid).map fun c => Holder.copy c.kiln
  let folds := (s.folds.find? fun j => j.held == some uid).map Holder.fold
  let saves := (s.heldSaves.find? fun h => h.uid == uid).map Holder.save
  let units := s.kilns.findSome? fun k => k.paused.bind fun x => if x.uid == uid then some (Holder.unit k x) else none
  let rings := (s.queues.find? fun q => q.heldRead == some uid || (q.heldRec.map Prod.fst) == some uid).map Holder.ring
  let words := (s.heldWords.find? fun h => h.uid == uid).map Holder.word
  let launches := (s.outstanding.find? fun o => o.heldFor uid).map Holder.launch
  ([stops, tiles, spills, lists, copies, folds, saves, units, rings, words, launches].findSome? fun x => x).getD .gone

/-- The kiln that a record names, if it still exists. -/
def State.holderKiln (s : State) (h : Holder) : Option Kiln :=
  match h with
  | .stop k _ | .port k _ _ _ _ | .engine k _ _ _ => some k
  | .spilled a => s.kiln? a.kiln
  | .list k | .copy k => s.kiln? k
  | .fold j => s.kiln? j.kiln
  | .save h => s.kiln? h.kiln
  | .unit _ x => s.kiln? x.who
  | .ring _ | .word _ | .launch _ | .gone => none

/-- The paddock that owns what a record stands for. -/
def State.holderPaddock (s : State) (h : Holder) : Option Nat :=
  match h with
  | .fold j => some j.paddock
  | .ring q => some q.paddock
  | .word h => some h.launch.paddock
  | h => (s.holderKiln h).map Kiln.paddock

/-- Whether a kiln waits for FAULT_RESUME: it has stopped, or an access of its is held. -/
def State.needsResume (s : State) (k : Kiln) : Bool :=
  !k.stops.isEmpty || k.paused.isSome ||
  (k.tiles.any fun t => t.execs.any fun x => x.pend.any fun p => match p.work with
    | .portWait _ _ (some _) | .engine _ _ (some (_, false)) => true
    | _ => false) ||
  (s.accs.any fun a => a.kiln == k.id && (match a.stage with | .spilled (some _) | .lost _ (some _) => true | _ => false)) ||
  (s.allLists.any fun l => l.kiln == k.id && l.held.isSome && !l.retry) ||
  (s.allCopies.any fun c => c.kiln == k.id && c.held.isSome && !c.retry) || s.heldSaves.any fun h => h.kiln == k.id

/-! RESUME of a stopped kiln (R387, R388, R397, R412). -/

/-- Causes that admit RESUME. -/
def resumable (cause : Nat) : Bool := [0x01, 0x02, 0x03, 0x05, 0x06, 0x0A, 0x3A, 0x42, 0x43, 0x44].contains cause

/-- The value that a slot's position has received. -/
def Exec.received (x : Exec) (slot : Nat) (pos : Pos) : Word :=
  match x.toks.find? fun o => o.slot == slot && o.pos == pos with
  | some o => match o.tok with
    | .ctl t => t.val
    | .data _ => 0
  | none => 0

/-- The generation of a handle as it stands, also while its frame is being moved, which comes first (R160); a free value where the entry
cannot be read.
(DESIGN CHOICE, log 96.) -/
def State.genNow (s : State) (k : Kiln) (h : Word) : Word × State :=
  let g : Agent := ⟨k.paddock, some k.id, k.die, 0, .outside, 0, k.faultReq 0 0 0 0 0x29 2 0 0⟩
  let free := (BitVec.ofNat 64 (Config.freeNat s.freeCount), { s with freeCount := s.freeCount + 1 })
  match s.entryVa k.paddock h with
  | none => free
  | some va =>
    let s' := s.migrations.foldl State.migrateDone s
    match s.engRead g va 256, s'.engRead g va 256 with
    | .ok bs s, _ => (entGen (wordsOf 32 bs), s)
    | .wait _, .ok bs s => (entGen (wordsOf 32 bs), s)
    | _, _ => free

/-- The instruction that stopped completes with some results. -/
def State.endTrapped (s : State) (k t task slot : Nat) (f : TileSt → Pending → List Send) : State :=
  s.modTile k t fun tl => { tl with execs := updateWhere (fun x => x.task == task) (fun x =>
    { x with pend := updateWhere (fun p => p.slot == slot) (fun p =>
      if p.work == .trapped then p.last (f tl p) [] else p) x.pend }) tl.execs }

/-- A list past its present command. -/
def DList.skip (l : DList) : DList :=
  { l with index := l.index + 1, word := none, pos := 0, buf := [], row := none, entry := none, waits := false, held := none, retry := false }

/-- The first captured list of a kiln-relative shelf goes past its command: the one that its drover ran. -/
def skipFirst (shelf : Nat) : List DList → List DList
  | [] => []
  | l :: r => if l.shelf == shelf then l.skip :: r else l :: skipFirst shelf r

/-- What RESUME does for a cause before the kiln goes on (R387, R397, R412). -/
def State.applyResume (s : State) (k : Kiln) (c : StopCause) : State :=
  let go := fun s : State => if (k.tile? c.tile).isSome then s.modTask k.id c.tile c.task fun x => { x with stopped := false } else s
  match c.cause with
  | 0x01 => (go s).endTrapped k.id c.tile c.task c.slot fun _ _ => []
  | 0x02 | 0x03 | 0x05 => go s
  | 0x06 => s.modKiln k.id fun k => { k with
      bells := k.bells.modify c.aux fun b => { b with timedOut := false, opened := b.opened.map fun o => (o.1, o.2.1, k.frozenAt) } }
  | 0x0A => (go s).endTrapped k.id c.tile c.task c.slot fun t p => p.both Tok.order t.cyc
  | 0x42 | 0x43 | 0x44 =>
    if c.tile == 2 ^ 13 then s.modKiln k.id fun k => { k with lists := skipFirst c.aux k.lists }
    else if c.aux == 1 then (go s).endTrapped k.id c.tile c.task c.slot fun t p => p.both Tok.order t.cyc
    else
    let h := (((k.tileD c.tile).exec? c.task).map fun x => x.received c.slot .a).getD 0
    let (g, s) := s.genNow k h
    (go s).endTrapped k.id c.tile c.task c.slot fun t p => [⟨p.ta, Tok.val g, t.cyc⟩, ⟨p.tb, Tok.order, t.cyc⟩]
  | _ => s

/-- A stopped kiln is resumed for one of its causes; when none is left it is the waiting launch at the head of its queue (R54,
R388).
(DEDUCED, log 76.) -/
def State.resumeStop (s : State) (k : Kiln) (c : StopCause) : State :=
  let s := s.freezeNow k.id
  match s.kiln? k.id with
  | none => s
  | some k =>
    (s.applyResume k c).modKiln k.id fun k =>
      let rest := k.stops.filter fun x => x.uid != c.uid
      { k with stops := rest, stat := if rest.isEmpty && k.stat == .stopped then .frozen else k.stat, waitAt := s.now }

/-! RESUME of a held access (R415, R416). -/

/-- Mark the lists and copies that wait for a fault to be retried. -/
def DList.ask (l : DList) (uid : Nat) : DList := if l.held == some uid then { l with retry := true } else l
def BtuCopy.ask (c : BtuCopy) (uid : Nat) : BtuCopy := if c.held == some uid then { c with retry := true } else c
def State.askEngines (s : State) (uid : Nat) : State :=
  { s with
    drovers := s.drovers.map fun d => { d with run := d.run.map fun l => l.ask uid, queue := d.queue.map fun l => l.ask uid }
    btus := s.btus.map fun b => { b with copies := b.copies.map fun c => c.ask uid }
    folds := s.folds.map fun j => if j.held == some uid then { j with retry := true } else j
    kilns := s.kilns.map fun k => { k with lists := k.lists.map fun l => l.ask uid, copies := k.copies.map fun c => c.ask uid } }

/-- A held save write is tried again (R57). -/
def State.retrySave (s : State) (h : HeldSave) : State :=
  ({ s with heldSaves := s.heldSaves.filter fun x => x.uid != h.uid }).saveWrite h.kiln h.shelf h.off h.die h.at_ h.bytes

/-- A held forwarded launch is tried again (R426). -/
def State.retryLaunch (s : State) (o : Outstanding) : State :=
  match o with
  | .peerLaunch tag id port p q r _ => { s with outstanding := s.outstanding.filter fun x => x != o }.forward tag id port p q r
  | _ => s

/-- A kiln that waits for a unit of its storage goes on, once the unit has been installed; where that cannot be it waits again, with a new
record (R57, R416). One that is not on shelves installs it when it is resumed. -/
def State.retryUnit (s : State) (k : Kiln) (x : Paused) : State :=
  let s := s.unpause x.uid
  if k.place.isSome then s.attempt (s.ensure k.id x.tile x.space x.base) else s

/-- A retry is asked for, and what the command then waits for: the number of the fault or of the access; none where the retry is made at
once. -/
def State.askRetry (s : State) (h : Holder) (uid : Nat) : Option Nat × State :=
  match h with
  | .port k t task slot acc => (some acc, s.modPend k.id t task slot fun p => match p.work with
      | .portWait r a _ => { p with work := .portWait r a none }
      | _ => p)
  | .engine k t task slot => (some uid, s.modPend k.id t task slot fun p => match p.work with
      | .engine op deps (some u) => { p with work := .engine op deps (some (u.1, true)) }
      | _ => p)
  | .spilled a => (some a.id, s.setAcc { a with stage := a.heldAs none })
  | .list _ | .copy _ | .fold _ => (some uid, s.askEngines uid)
  | .save h => (none, s.retrySave h)
  | .unit k x => (none, s.retryUnit k x)
  | .ring q => (none, s.retryRing q.index uid)
  | .word h => (none, (s.retryWord h).reap)
  | .launch o => (none, s.retryLaunch o)
  | .stop _ _ | .gone => (none, s)

/-- Whether a kiln's retries are queued until it goes on: it is frozen (R415, R429), or waits for a unit of its storage (R56). -/
def Kiln.defers (k : Kiln) : Bool := k.asleep || k.paused.isSome
def State.defers (s : State) (k : Nat) : Bool := (s.kiln? k).any Kiln.defers

/-- Whether a retry that was asked for has neither been performed nor has posted a new record, nor is queued for a frozen kiln
(R429). -/
def State.retrying (s : State) (n : Nat) : Bool :=
  (s.allLists.any fun l => l.held == some n && l.retry && !s.defers l.kiln) ||
  (s.allCopies.any fun c => c.held == some n && c.retry && !s.defers c.kiln) ||
  (s.folds.any fun j => j.held == some n && j.retry && !(s.kiln? j.kiln).any Kiln.asleep) ||
  (s.accs.any fun a => a.id == n && !s.defers a.kiln &&
    (match a.stage with | .spilled (some _) | .lost _ (some _) | .late _ => false | _ => true)) ||
  (s.kilns.any fun k => !k.defers && k.tiles.any fun t => t.execs.any fun x => x.pend.any fun p => match p.work with
    | .portWait _ (some a) none => a.1 == n
    | .engine _ _ (some u) => u == (n, true)
    | _ => false)

/-- FAULT_RESUME commands whose retries are over, or queued for a frozen kiln, complete (R429). -/
def Outstanding.isResume : Outstanding → Bool
  | .resume _ _ => true
  | _ => false
def State.resumeDone (s : State) (o : Outstanding) : Bool :=
  match o with
  | .resume _ n => !s.retrying n
  | _ => false
def State.completeResumes (s : State) : State :=
  (s.outstanding.filter s.resumeDone).foldl (fun (s : State) o => match o with
    | .resume tag _ => { s with outstanding := s.outstanding.filter fun x => x != o }.complete tag 0x0A 0 0
    | _ => s) s

/-! FAULT_RESUME (R388, R414, R416, R429). -/

/-- The outstanding record that a command names: read, and not of CLASS 2. -/
def State.namedRecord (s : State) (e : Rec8) : Option OutRec :=
  (s.die e.w1.toNat).outstanding.find? fun o => o.recno == e.w2.toNat && o.read && o.cls != 2

/-- The record is no longer outstanding. -/
def State.settleRecord (s : State) (e : Rec8) : State :=
  s.modDie e.w1.toNat fun d => { d with outstanding := d.outstanding.filter fun o => o.recno != e.w2.toNat }

/-- Whether the retry of what a record stands for is queued until its kiln goes on. -/
def State.retryDefers (s : State) (h : Holder) : Bool :=
  match h with
  | .fold j => (s.kiln? j.kiln).any Kiln.asleep
  | h => (s.holderKiln h).any Kiln.defers

/-- FAULT_RESUME with RESUME.
(DEDUCED, log 79.) -/
def State.faultResume (s : State) (e : Rec8) (p : Paddock) : State :=
  match s.namedRecord e with
  | none => s.badParam e
  | some o =>
    let h := s.holder o.uid
    if (s.holderPaddock h).any fun x => x != p.index then s.fails e 4
    else
      match h with
      | .stop k c => if resumable c.cause then ((s.settleRecord e).resumeStop k c).done e 0 else s.badParam e
      | .gone => if o.cls == 0 then s.badParam e else (s.settleRecord e).done e 0
      | h =>
        let (n, s') := (s.settleRecord e).askRetry h o.uid
        match n with
        | some n => if s.retryDefers h then s'.done e 0 else { s' with outstanding := s'.outstanding ++ [Outstanding.resume (cmdTag e) n] }
        | none => s'.done e 0

/-- FAULT_RESUME with RETIRE: the kiln retires ABORTED; what no kiln holds is dropped.
(DEDUCED, log 93.) -/
def State.faultRetire (s : State) (e : Rec8) (p : Paddock) : State :=
  match s.namedRecord e with
  | none => s.badParam e
  | some o =>
    let h := s.holder o.uid
    if (s.holderPaddock h).any fun x => x != p.index then s.fails e 4
    else
      match s.holderKiln h with
      | some k => ((((s.settleRecord e).abortKiln k.id).unpause o.uid).reap).done e 0
      | none =>
        let s := s.settleRecord e
        let s := match h with
          | .fold j => { s with folds := s.folds.filter fun x => x.id != j.id }
          | .ring q => s.dropRing q.index o.uid
          | .word h => (s.dropWord h).reap
          | .launch (.peerLaunch tag id a b c d f) =>
            { s with outstanding := s.outstanding.filter fun x => x != Outstanding.peerLaunch tag id a b c d f }.complete tag 0x06 4 0
          | _ => s
        s.done e 0

/-- FAULT_RESUME with action RESUME (R388, R416). -/
def execFaultResume (s : State) : Host.Outcome State Fault Refusal :=
  onPaddock s [3, lowBits 12, 1] fun s e p => s.faultResume e p

/-- FAULT_RESUME with action RETIRE (R388, R416). -/
def execFaultRetire (s : State) : Host.Outcome State Fault Refusal :=
  onPaddock s [3, lowBits 12, 1] fun s e p => s.faultRetire e p

end Sys2Proof.Machine
end

