-- ==== Sys2Proof/Machine/ImageForm.lean ====
section
/-! DEFINITION. Reading a charge image (R200 to R215): its header, tables, directory and sections, each part beside the image offset at
which it stands, and the offences of form that the loader finds there (R221, R396, R403, R404). -/

namespace Sys2Proof.Machine

/-- An offence: the image offset of the word, its cause, and where it lies (R404). -/
structure Offence where
  off : Nat
  cause : LoadCause
  sect : Nat
  block : Nat
  slot : Nat
  deriving DecidableEq, Repr

/-- The offence that is reported: the least offset, and on one word the lowest cause (R404). -/
def firstOffence (os : List Offence) : Option Offence :=
  os.foldl (fun b o => match b with
    | some x => if o.off * 256 + o.cause.code < x.off * 256 + x.cause.code then some o else b
    | none => some o) none

/-- RESULT of a refused CHARGE_LOAD (R404). -/
def Offence.result (o : Offence) : Word :=
  BitVec.ofNat 64 (o.cause.code + o.sect % 2 ^ 8 * 2 ^ 8 + o.block % 2 ^ 5 * 2 ^ 16 + o.slot % 2 ^ 7 * 2 ^ 21 + o.off % 2 ^ 32 * 2 ^ 32)

/-- An offence of the header, the tables or the directory. -/
def headOff (off : Nat) (c : LoadCause) : Offence := ⟨off, c, 0xFF, 0, 0⟩

/-- Offences under a condition. -/
def ifBad (bad : Bool) (o : Offence) : List Offence := if bad then [o] else []

/-- A little-endian number of an image; bytes beyond its end read 0. -/
def imgNum (bs : List Byte) (off n : Nat) : Nat := leNat ((bs.drop off).take n)

/-! Header (R210). -/

def imgCols (bs : List Byte) : Nat := imgNum bs 5 1 % 16 + 1
def imgRows (bs : List Byte) : Nat := imgNum bs 5 1 / 16 + 1
def imgShelves (bs : List Byte) : Nat := imgCols bs * imgRows bs
def imgCtxs (bs : List Byte) : Nat := fld (imgNum bs 0 8) 55 2 + 1
def imgRace (bs : List Byte) : Bool := (imgNum bs 0 8).testBit 57
def imgSigned (bs : List Byte) : Bool := (imgNum bs 0 8).testBit 58
def imgDirs (bs : List Byte) : Nat := imgNum bs 12 2
def imgReadout (bs : List Byte) : Nat := imgNum bs 16 8
def imgNext (bs : List Byte) : List Nat := (List.range 64).map fun i => fld (imgNum bs 24 16) (2 * i) 2
def imgBells (bs : List Byte) : Nat := imgNum bs 40 8 % 128

/-- Whether a 13-bit tile code lies in the charge (R202). -/
def imgTile (bs : List Byte) (t : Nat) : Bool := t / 128 < imgShelves bs && t % 128 < 72

/-- Offences of the header words. -/
def headOffences (bs : List Byte) (signedOnly : Bool) : List Offence :=
  let w0 := imgNum bs 0 8
  let w5 := imgNum bs 40 8
  let next := imgNext bs
  ifBad (fld w0 0 32 != 0x4B494C4E || fld w0 32 8 != 1 || imgCols bs > 9 || imgRows bs > 8 || imgShelves bs > 64 ||
    fld w0 48 7 != imgShelves bs || fld w0 59 5 != 0 || bs.length < 1024) (headOff 0 .chargeHeader) ++
  ifBad (signedOnly && !imgSigned bs) (headOff 0 .signature) ++
  ifBad (imgNum bs 8 4 != bs.length || imgNum bs 14 2 != 0 || bs.length < 0x400 + 16 * imgDirs bs) (headOff 8 .chargeHeader) ++
  ifBad (imgReadout bs / 256 != 0) (headOff 16 .chargeHeader) ++
  ([0, 1].flatMap fun w => ifBad ((List.range 32).any fun i =>
    let e := next.getD (32 * w + i) 0
    let c := (32 * w + i) / 16
    if c < imgCtxs bs then imgCtxs bs ≤ e else e != 0) (headOff (24 + 8 * w) .chargeHeader)) ++
  ifBad (imgBells bs > 64 || w5 / 128 != 0) (headOff 40 .chargeHeader) ++
  ([48, 56].flatMap fun o => ifBad (imgNum bs o 8 != 0) (headOff o .chargeHeader))

/-! Alias table, argument bindings, sinks (R211, R212). -/

def aliasOffences (bs : List Byte) : List Offence :=
  (List.range 16).flatMap fun a =>
    let o := 0x40 + 16 * a
    let e := imgNum bs o 16
    ifBad (fld e 51 13 != 0 || fld e 112 16 != 0) (headOff o .chargeHeader) ++
    ifBad ((fld e 48 3 == 0 && e != 0) || (fld e 48 3 == 7 && fld e 64 48 != 0)) (headOff o .aliasClass)

/-- Offences of the argument entries, the sink entries and the zero words after them (R212).
(DESIGN CHOICE, log 140.) -/
def bindingOffences (bs : List Byte) : List Offence :=
  ((List.range 5).flatMap fun w =>
    let e := imgNum bs (0x140 + 8 * w) 8
    ifBad (e / 2 ^ 17 != 0 || (e.testBit 0 && !(imgTile bs (fld e 1 13) && fld e 1 7 < 64))) (headOff (0x140 + 8 * w) .chargeHeader)) ++
  ((List.range 16).flatMap fun i =>
    let e := imgNum bs (0x168 + 8 * i) 8
    ifBad (e / 2 ^ 18 != 0 || (e.testBit 0 && !imgTile bs (fld e 2 13))) (headOff (0x168 + 8 * i) .chargeHeader)) ++
  ifBad ((List.range 16).all fun i => !(imgNum bs (0x168 + 8 * i) 8).testBit 0) (headOff 0x168 .chargeHeader) ++
  ((List.range 67).flatMap fun i => ifBad (imgNum bs (0x1E8 + 8 * i) 8 != 0) (headOff (0x1E8 + 8 * i) .chargeHeader))

/-! Directory (R209, R213). -/

/-- A section. -/
structure Sect where
  idx : Nat
  kind : Nat
  ctx : Nat
  shelf : Nat
  tile : Nat
  off : Nat
  len : Nat
  deriving DecidableEq, Repr

def sectAt (bs : List Byte) (i : Nat) : Sect :=
  let e := imgNum bs (0x400 + 16 * i) 16
  ⟨i, fld e 0 8, fld e 8 2, fld e 10 6, fld e 16 7, fld e 64 32, fld e 96 32⟩

def allSects (bs : List Byte) : List Sect := (List.range (min (imgDirs bs) (bs.length / 16))).map (sectAt bs)

/-- Whether a section's entry is as R213 asks, by itself. -/
def Sect.entryOk (x : Sect) (bs : List Byte) : Bool :=
  let c := x.ctx < imgCtxs bs
  let s := x.shelf < imgShelves bs
  (match x.kind with
   | 1 => c && s && x.tile == 0
   | 2 => c && x.shelf == 0 && x.tile == 0
   | 3 => c && s && x.tile < 64
   | 4 | 5 | 6 | 7 => x.ctx == 0 && x.shelf == 0 && x.tile == 0
   | _ => false) &&
  x.off % 16 == 0 && 0x400 + 16 * imgDirs bs ≤ x.off && x.off + x.len ≤ bs.length

/-- Whether two sections share bytes.
(DESIGN CHOICE, log 133.) -/
def Sect.hits (x y : Sect) : Bool := x.off < y.off + y.len && y.off < x.off + x.len

/-- Offences of the directory: an entry's own, one of the same kind and place before it, or one before it whose bytes it shares. -/
def dirOffences (bs : List Byte) : List Offence :=
  let all := allSects bs
  all.flatMap fun x =>
    let before := all.take x.idx
    ifBad (!x.entryOk bs || fld (imgNum bs (0x400 + 16 * x.idx) 16) 23 41 != 0 ||
      before.any fun y => (y.kind == x.kind && y.ctx == x.ctx && y.shelf == x.shelf && y.tile == x.tile) || y.hits x)
      (headOff (0x400 + 16 * x.idx) .chargeHeader)

/-- The sections that are read. -/
def goodSects (bs : List Byte) : List Sect := (allSects bs).filter fun x => x.entryOk bs

/-! Configuration records (R202 to R208). -/

/-- A record with its section and offset. -/
structure Found where
  sect : Sect
  off : Nat
  kind : Nat
  val : Nat
  deriving DecidableEq, Repr

/-- A record of `n` 128-bit words, the most significant first (R202). -/
def recVal (bs : List Byte) (off n : Nat) : Nat := (List.range n).foldl (fun a i => a * 2 ^ 128 + imgNum bs (off + 16 * i) 16) 0

/-- The records of a section, one after another; kind 0 stands for one that cannot be read. -/
def walkRecs (bs : List Byte) (x : Sect) (size : Nat → Nat) : Nat → Nat → List Found
  | 0, _ => []
  | fuel + 1, o =>
    if x.off + x.len ≤ o then []
    else
      let k := imgNum bs (o + 15) 1 / 16
      let n := size k
      if n == 0 || x.off + x.len < o + 16 * n then [⟨x, o, 0, 0⟩]
      else ⟨x, o, k, recVal bs o n⟩ :: walkRecs bs x size fuel (o + 16 * n)

def shelfSize (k : Nat) : Nat := match k with | 3 => 2 | 4 => 1 | 5 => 3 | _ => 0
def linkSize (k : Nat) : Nat := match k with | 1 | 2 => 1 | _ => 0

/-- The tile, wicket and memory-tile records, and the link and tick words. -/
def shelfRecs (bs : List Byte) : List Found :=
  ((goodSects bs).filter fun x => x.kind == 1).flatMap fun x => walkRecs bs x shelfSize (x.len / 16 + 1) x.off
def linkRecs (bs : List Byte) : List Found :=
  ((goodSects bs).filter fun x => x.kind == 2).flatMap fun x => walkRecs bs x linkSize (x.len / 16 + 1) x.off

/-- A compute tile's configuration (R203). -/
def tileCfgOf (f : Found) : TileCfg where
  ctx := f.sect.ctx
  id := 128 * f.sect.shelf + fld f.val 245 7
  mode := fld f.val 243 2
  bsize := fld f.val 240 3
  spine := fld f.val 237 3
  fmt := (List.range 4).map fun n => fld f.val (208 + 4 * n) 4
  conv := (List.range 4).map fun n => fld f.val (160 + 12 * n) 12
  entries := (List.range 8).map fun t => if (fld f.val (112 + 6 * t) 6) / 32 == 1 then some (fld f.val (112 + 6 * t) 5) else none

/-- A tile that no record names (R203). -/
def blankCfg (ctx id : Nat) : TileCfg := ⟨ctx, id, 0, 0, 0, [0, 0, 0, 0], [0, 0, 0, 0], List.replicate 8 none⟩

def wicketCfgOf (f : Found) : WicketCfg :=
  ⟨f.sect.ctx, fld f.val 111 13, fld f.val 107 4, fld f.val 99 8, fld f.val 93 6 + 1, fld f.val 87 6 + 1⟩

def mtileCfgOf (f : Found) : MTileCfg := ⟨f.sect.ctx, 128 * f.sect.shelf + fld f.val 373 7, f.val⟩

/-- A link word (R206). -/
def linkCfgOf (v : Nat) : LinkCfg where
  src := fld v 111 13
  port := fld v 108 3
  plane := fld v 107 1 == 1
  svc := fld v 104 3
  dst := fld v 91 13
  dvc := fld v 85 3
  slots := fld v 81 4
  policy := fld v 78 3
  param := fld v 70 8
  thresh := fld v 66 4
  compress := fld v 65 1 == 1
  commutative := fld v 64 1 == 1
  cls := fld v 56 8

def tickCfgOf (f : Found) : TickCfg := ⟨f.sect.ctx, fld f.val 111 13, fld f.val 95 16, fld f.val 79 16, fld f.val 75 4⟩

/-- The records of one kind. -/
def ofKind (fs : List Found) (k : Nat) : List Found := fs.filter fun f => f.kind == k

/-- A tile's configuration in a context. -/
def cfgIn (bs : List Byte) (ctx id : Nat) : TileCfg :=
  (((ofKind (shelfRecs bs) 3).map tileCfgOf).find? fun c => c.ctx == ctx && c.id == id).getD (blankCfg ctx id)

/-! Block code (R200, R201). -/

/-- A block-code section as read: its section, header words and instruction words. -/
structure CodeIn where
  sect : Sect
  headers : List Nat
  words : List Nat
  deriving DecidableEq, Repr

def codesIn (bs : List Byte) : List CodeIn :=
  ((goodSects bs).filter fun x => x.kind == 3 && 512 ≤ x.len).map fun x =>
    ⟨x, (List.range 32).map fun j => imgNum bs (x.off + 16 * j) 16, (List.range ((x.len - 512) / 8)).map fun i => imgNum bs (x.off + 512 + 8 * i) 8⟩

def CodeIn.id (c : CodeIn) : Nat := 128 * c.sect.shelf + c.sect.tile

/-- How many headers stand up to the last one that is not zero. -/
def CodeIn.used (c : CodeIn) : Nat := (c.headers.zipIdx.map fun x => if x.1 == 0 then 0 else x.2 + 1).foldl max 0

/-- Whether a header word is that of a used block (R201). -/
def headerUsed (h : Nat) : Bool := fld h 124 4 == 0xB
def CodeIn.isUsed (c : CodeIn) (j : Nat) : Bool := headerUsed (c.headers.getD j 0)

/-- The first word of a block: the blocks before it stand before it (R201), also one whose header has a wrong KIND. -/
def CodeIn.base (c : CodeIn) (j : Nat) : Nat :=
  ((c.headers.take j).map fun h => if h == 0 then 0 else (Header.ofNat h).count).sum

/-- The words of a block. -/
def CodeIn.block (c : CodeIn) (j : Nat) : List Nat := (c.words.drop (c.base j)).take (Header.ofNat (c.headers.getD j 0)).count

/-- An offence of a header, and of an instruction. -/
def CodeIn.atHead (c : CodeIn) (j : Nat) (cause : LoadCause) : Offence := ⟨c.sect.off + 16 * j, cause, c.sect.idx, j, 0⟩
def CodeIn.atWord (c : CodeIn) (j i : Nat) (cause : LoadCause) : Offence := ⟨c.sect.off + 512 + 8 * (c.base j + i), cause, c.sect.idx, j, i⟩

/-! Bells, data images and drove lists (R214, R215). -/

/-- Bell entries: count, timeout. -/
def bellsIn (bs : List Byte) : List (Nat × Nat) :=
  match (goodSects bs).find? fun x => x.kind == 4 with
  | none => []
  | some x => (List.range (x.len / 16)).map fun i =>
    let e := imgNum bs (x.off + 16 * i) 16
    (fld e 0 12 + 1, fld e 16 48)

/-- Offences of the bell table.
(DEDUCED, log 82.) -/
def bellOffences (bs : List Byte) : List Offence :=
  match (goodSects bs).find? fun x => x.kind == 4 with
  | none => ifBad (imgBells bs != 0 && (goodSects bs).length == (allSects bs).length) (headOff 40 .chargeHeader)
  | some x =>
    ifBad (x.len != 16 * imgBells bs) ⟨x.off, .chargeHeader, x.idx, 0, 0⟩ ++
    (List.range (x.len / 16)).flatMap fun i =>
      let e := imgNum bs (x.off + 16 * i) 16
      ifBad (fld e 12 4 != 0 || e / 2 ^ 64 != 0 || fld e 16 48 == 0) ⟨x.off + 16 * i, .chargeHeader, x.idx, 0, 0⟩

/-- A data-image record with its offset; a tile of 2 ^ 13 stands for one that the section does not hold whole. -/
structure DataIn where
  off : Nat
  sect : Sect
  record : DataRec
  deriving DecidableEq, Repr

def walkData (bs : List Byte) (x : Sect) : Nat → Nat → List DataIn
  | 0, _ => []
  | fuel + 1, o =>
    if x.off + x.len ≤ o then []
    else
      let d := imgNum bs o 8
      let n := fld d 40 24
      let next := o + 8 + (n + 7) / 8 * 8
      if x.off + x.len < next || ((bs.drop (o + 8 + n)).take (next - (o + 8 + n))).any (fun b => b != 0) then [⟨o, x, ⟨2 ^ 13, 0, 0, []⟩⟩]
      else ⟨o, x, ⟨fld d 0 13, fld d 13 3, fld d 16 24, (bs.drop (o + 8)).take n⟩⟩ :: walkData bs x fuel next

def dataIn (bs : List Byte) : List DataIn :=
  match (goodSects bs).find? fun x => x.kind == 5 with
  | none => []
  | some x => walkData bs x (x.len / 8 + 1) x.off

/-- Offences of the data images.
(DESIGN CHOICE, log 133.) -/
def dataOffences (bs : List Byte) : List Offence :=
  let all := dataIn bs
  all.zipIdx.flatMap fun d =>
    let r := d.1.record
    ifBad (!imgTile bs r.id || r.space != (if r.id % 128 < 64 then 0 else 6) || r.off + r.bytes.length > spaceSize (r.id % 128) r.space ||
      (all.take d.2).any fun e => e.record.id == r.id && e.record.off < r.off + r.bytes.length && r.off < e.record.off + e.record.bytes.length)
      ⟨d.1.off, .chargeHeader, d.1.sect.idx, 0, 0⟩

/-- A drove list with the offset of its descriptor. -/
structure ListIn where
  off : Nat
  sect : Sect
  desc : Nat
  cmds : List Nat
  whole : Bool
  deriving DecidableEq, Repr

def walkLists (bs : List Byte) (x : Sect) : Nat → Nat → List ListIn
  | 0, _ => []
  | fuel + 1, o =>
    if x.off + x.len ≤ o then []
    else
      let d := imgNum bs o 16
      let n := fld d 32 32
      if x.off + x.len < o + 16 + 16 * n then [⟨o, x, d, [], false⟩]
      else ⟨o, x, d, (List.range n).map fun i => imgNum bs (o + 16 + 16 * i) 16, true⟩ :: walkLists bs x fuel (o + 16 + 16 * n)

def listsIn (bs : List Byte) : List ListIn :=
  match (goodSects bs).find? fun x => x.kind == 6 with
  | none => []
  | some x => walkLists bs x (x.len / 16 + 1) x.off

/-! The signature (R215, R435). -/

/-- Offences of the signature: none present, or none that verifies against the paddock's charge key. -/
def signatureOffences (bs key : List Byte) : List Offence :=
  if !imgSigned bs then []
  else
    match (goodSects bs).find? fun x => x.kind == 7 with
    | none => [headOff 0 .signature]
    | some x =>
      let sig := (bs.drop x.off).take 114
      let blank := bs.take x.off ++ List.replicate x.len 0 ++ bs.drop (x.off + x.len)
      ifBad (x.len != 128 || ((bs.drop (x.off + 114)).take 14).any fun b => b != 0) ⟨x.off, .chargeHeader, x.idx, 0, 0⟩ ++
      ifBad (key.isEmpty || !Config.ed448Verify key (Config.shake256 blank) sig) ⟨x.off, .signature, x.idx, 0, 0⟩

/-! The image that an accepted charge leaves. -/

/-- The parts of an image.
(DEDUCED, log 109.) -/
def imageOf (bs : List Byte) : Image where
  cols := imgCols bs
  rows := imgRows bs
  ctxs := imgCtxs bs
  raceMode := imgRace bs
  signed := imgSigned bs
  readout := imgReadout bs
  next := imgNext bs
  bells := bellsIn bs
  aliases := (List.range 16).map fun a => let e := imgNum bs (0x40 + 16 * a) 16; (fld e 48 3, fld e 0 48, fld e 64 48)
  args := (List.range 5).map fun w => let e := imgNum bs (0x140 + 8 * w) 8; if e.testBit 0 then some (fld e 1 13, fld e 14 3) else none
  sinks := (List.range 16).filterMap fun i =>
    let e := imgNum bs (0x168 + 8 * i) 8
    if e.testBit 0 then some (e.testBit 1, fld e 2 13, fld e 15 3) else none
  tiles := (ofKind (shelfRecs bs) 3).map tileCfgOf
  mtiles := (ofKind (shelfRecs bs) 5).map mtileCfgOf
  wickets := (ofKind (shelfRecs bs) 4).map wicketCfgOf
  links := (ofKind (linkRecs bs) 1).map fun f => (f.sect.ctx, linkCfgOf f.val)
  ticks := (ofKind (linkRecs bs) 2).map tickCfgOf
  code := (codesIn bs).map fun c => ⟨c.sect.ctx, c.id, c.headers, c.words⟩
  images := (dataIn bs).map DataIn.record
  lists := (listsIn bs).map fun l => ⟨l.desc.testBit 0, fld l.desc 8 6, l.cmds⟩

end Sys2Proof.Machine
end

