-- ==== Sys2Proof/Machine/ImageCheck.lean ====
section
/-! DEFINITION. What the loader refuses in configuration records, links, block headers, instruction words and drove lists (R60, R68 to
R73, R97, R98, R117, R118, R197, R200 to R208, R221 to R223, R252, R306, R307, R339, R352, R396, R403). -/

namespace Sys2Proof.Machine

/-- An image being checked: its bytes, its parts, its link words and its block code. -/
structure Img where
  bs : List Byte
  im : Image
  links : List Found
  codes : List CodeIn

def Img.ofBytes (bs : List Byte) : Img := ⟨bs, imageOf bs, ofKind (linkRecs bs) 1, codesIn bs⟩

/-- A tile's configuration and code in a context. -/
def Img.cfg (x : Img) (ctx id : Nat) : TileCfg := (x.im.tiles.find? fun c => c.ctx == ctx && c.id == id).getD (blankCfg ctx id)
def Img.code? (x : Img) (ctx id : Nat) : Option CodeIn := x.codes.find? fun c => c.sect.ctx == ctx && c.id == id

/-- An offence of a record. -/
def Found.bad (f : Found) (cause : LoadCause) : Offence := ⟨f.off, cause, f.sect.idx, 0, 0⟩

/-- Nonzero reserved fields of a record, each a lowest bit and a width (R221, R403). -/
def Found.reserved (f : Found) (gaps : List (Nat × Nat)) : List Offence :=
  ifBad (gaps.any fun g => fld f.val g.1 g.2 != 0) (f.bad .chargeHeader)

/-! Configuration records. -/

/-- A used block of a task. -/
def CodeIn.ofTask (c : CodeIn) (j task : Nat) : Bool := c.isUsed j && (Header.ofNat (c.headers.getD j 0)).task == task

/-- Offences of a compute tile record (R203, R118).
(DESIGN CHOICE, log 139.) -/
def Img.tileBad (x : Img) (before : List Found) (f : Found) : List Offence :=
  let c := tileCfgOf f
  let same := (ofKind before 3).filter fun g => g.sect == f.sect
  ifBad (fld f.val 245 7 ≥ 64 || c.mode == 3 || c.bsize > (if c.mode == 2 then 4 else 0) || c.conv.any (fun v => fld v 1 3 ≥ 6) ||
    (List.range 8).any (fun t => let e := fld f.val (112 + 6 * t) 6; e != 0 && e < 32) ||
    same.any (fun g => (tileCfgOf g).id == c.id) ||
    c.entries.zipIdx.any (fun e => match e.1 with
      | none => false
      | some b => !((x.code? c.ctx c.id).any fun k => k.ofTask b e.2))) (f.bad .configWord) ++
  ifBad (c.mode == 2 && same.any fun g => (tileCfgOf g).mode == 2 && (tileCfgOf g).bsize != c.bsize) (f.bad .regionConfig) ++
  f.reserved [(224, 13), (0, 112)]

/-- Offences of a wicket word (R204).
(DESIGN CHOICE, log 139.) -/
def wicketBad (before : List Found) (f : Found) : List Offence :=
  let w := wicketCfgOf f
  ifBad (w.id / 128 != f.sect.shelf || w.id % 128 ≥ 64 || w.base + w.chunks > 192 || w.window > w.chunks ||
    (ofKind before 4).any (fun g => (wicketCfgOf g).ctx == w.ctx && (wicketCfgOf g).id == w.id && (wicketCfgOf g).index == w.index))
    (f.bad .configWord) ++ f.reserved [(0, 87)]

/-- Offences of a memory tile record (R205).
(DESIGN CHOICE, log 138, 139.) -/
def mtileBad (before : List Found) (f : Found) : List Offence :=
  let id := fld f.val 373 7
  let port := fun (enc base fmt : Nat) => enc == 3 || base % 16 != 0 || fmt == 0xF || (enc == 1 && fmtWidth fmt > 32)
  ifBad (id < 64 || id > 71 || port (fld f.val 371 2) (fld f.val 350 19) (fld f.val 327 4) ||
    port (fld f.val 369 2) (fld f.val 331 19) (fld f.val 323 4) ||
    (ofKind before 5).any (fun g => g.sect == f.sect && fld g.val 373 7 == id)) (f.bad .configWord) ++ f.reserved [(256, 67)]

def Img.recordOffences (x : Img) : List Offence :=
  let all := shelfRecs x.bs
  all.zipIdx.flatMap fun f =>
    let before := all.take f.2
    match f.1.kind with
    | 3 => x.tileBad before f.1
    | 4 => wicketBad before f.1
    | 5 => mtileBad before f.1
    | _ => [f.1.bad .configWord]

/-! Links. -/

/-- PARAM and THRESH by policy, and what a culled link may not have (R73, R206). THRESH of a HOLD link without COMPRESS is ignored. -/
def LinkCfg.cullBad (l : LinkCfg) : Bool :=
  let thresh := 1 ≤ l.thresh && l.thresh ≤ l.slots
  match l.policy with
  | 0 => l.param != 0 || (l.compress && (!thresh || !l.plane))
  | 1 => !l.plane || l.compress || !thresh || l.param != 0
  | 2 => !l.plane || l.compress || !thresh
  | 3 => !l.plane || l.compress || !thresh || l.param / 16 != 0 || (l.param % 4 == 1 && l.param / 4 != 0)
  | 4 => !l.plane || l.compress || !thresh || l.param / 4 != 0
  | _ => true

/-- The converter pairs of NARROW (R80). -/
def narrowPairs : List (Nat × Nat) := [(7, 6), (7, 5), (3, 2), (2, 0), (5, 8), (6, 9)]

/-- Whether a source port is the first step of the route (R69). -/
def firstStep (cols src dst port : Nat) : Bool :=
  let sc := gridCol cols src
  let dc := gridCol cols dst
  let sr := gridRow cols src
  let dr := gridRow cols dst
  if src == dst then port < 4
  else if sc < dc then port == 1
  else if dc < sc then port == 3
  else if sr < dr then port == 2
  else port == 0

/-- A channel word as R207 asks.
(DEDUCED, log 97.) -/
def LinkCfg.channelOk (l : LinkCfg) : Bool :=
  l.plane && l.policy == 0 && !l.compress && !l.commutative && l.thresh < 4 && l.src % 128 < 64 && l.param != 0

/-- Whether two words declare one RSU channel (R207). -/
def LinkCfg.sameChannel (a b : LinkCfg) : Bool :=
  a.port == 7 && b.port == 7 && a.svc == b.svc && a.src / 128 == b.src / 128 && a.src % 128 / 8 == b.src % 128 / 8

/-- Offences of a link word. -/
def Img.linkBad (x : Img) (before : List Found) (f : Found) : List Offence :=
  let l := linkCfgOf f.val
  let ctx := f.sect.ctx
  let others := (before.filter fun g => g.sect.ctx == ctx).map fun g => linkCfgOf g.val
  let inside := imgTile x.bs l.src && imgTile x.bs l.dst
  let (cs, cd, cm, _) := convFields ((x.cfg ctx l.src).conv.getD (l.param % 4) 0)
  ifBad (!inside || (4 ≤ l.port && l.port ≤ 6) ||
    (if l.port == 7 then !l.channelOk else !firstStep x.im.cols l.src l.dst l.port) ||
    others.any (fun o => o.dst == l.dst && o.plane == l.plane && o.dvc == l.dvc) ||
    others.any (fun o => (l.port != 7 && o.src == l.src && o.port == l.port && o.svc == l.svc && o.plane == l.plane) || o.sameChannel l) ||
    (!l.plane && l.dvc == 7 && x.im.ticks.any fun t => t.ctx == ctx && t.id == l.dst)) (f.bad .linkShape) ++
  ifBad (l.port != 7 && l.cullBad) (f.bad .cullConfig) ++
  ifBad (l.policy == 4 && l.port != 7 && !narrowPairs.contains (cs, cd)) (f.bad .cullConfig) ++
  ifBad (l.policy == 4 && l.port != 7 && cm == 5) (f.bad .configWord) ++
  ifBad (inside && l.slots == 0 && l.src != l.dst && hopsOf x.im.cols l.src l.dst != 1) (f.bad .linkZeroCycle) ++
  f.reserved [(88, 3), (0, 56)]

/-- Offences of a tick word (R208).
(DESIGN CHOICE, log 139.) -/
def Img.tickBad (x : Img) (before : List Found) (f : Found) : List Offence :=
  let t := tickCfgOf f
  ifBad (!imgTile x.bs t.id || t.id % 128 ≥ 64 || t.period == 0 || t.slots == 0 ||
    (ofKind before 2).any (fun g => g.sect.ctx == t.ctx && (tickCfgOf g).id == t.id)) (f.bad .linkShape) ++
  f.reserved [(0, 75)]

/-! Blocks. -/

/-- A used block: its code, index, header, and its words with the instructions that their OPs name. -/
structure BlockIn where
  code : CodeIn
  idx : Nat
  head : Header
  items : List (Nat × Option Instr)

/-- The word with another value in bits [lo + n - 1 : lo]. -/
def setFld (w lo n v : Nat) : Nat := w - fld w lo n * 2 ^ lo + v * 2 ^ lo

/-- The IMM fields from which a refused IMM is mended: itself, or with the field put right that the entry limits: SIZE of AFADD and of
ATAS, LEVEL of LGEN2, D of ITGATE, BANK of WLD, INC of SIGC. -/
def immBases (w : Nat) : List Nat :=
  let imm := fld w 0 32
  match fld w 56 8 with
  | 0x8E => [imm, setFld (setFld imm 21 6 0) 27 2 2]
  | 0x8F => [imm, setFld (setFld imm 21 6 0) 27 2 3]
  | 0xA1 => [imm, setFld imm 24 1 0]
  | 0xA7 => [imm, setFld imm 3 4 1]
  | 0xC0 => [imm, setFld imm 3 1 0]
  | _ => [imm, setFld imm 0 1 1]

/-- The IMM fields tried in turn for a word whose own IMM is refused: a base as it stands, then with one run of bits cleared, the
shortest run first, so that the fields that are not at fault keep their values. -/
def immTries (w : Nat) : List Nat :=
  let bases := immBases w
  bases ++ (List.range 32).flatMap fun n => bases.flatMap fun m => (List.range (32 - n)).map fun lo => setFld m lo (n + 1) 0

/-- The instruction that a word's OP names, for the checks that the word's other fields do not affect (R221, R404): the decoded word,
or the first that decodes with PM, FS, the targets or IMM replaced; none for a reserved OP. -/
def readInstr (w : Nat) : Option Instr :=
  match decodeTileNat w with
  | .ok i => some i
  | .error .opcodeReserved => none
  | .error _ =>
    [w, setFld w 54 2 0].findSome? fun w =>
      [w, setFld w 52 2 0].findSome? fun w =>
        [w, setFld (setFld w 32 10 0x200) 42 10 0x200].findSome? fun w =>
          (immTries w).findSome? fun m => (decodeTileNat (setFld w 0 32 m)).toOption

def CodeIn.blockIn (c : CodeIn) (j : Nat) : BlockIn :=
  ⟨c, j, Header.ofNat (c.headers.getD j 0), (c.block j).map fun w => (w, readInstr w)⟩

def Img.blocks (x : Img) : List BlockIn := x.codes.flatMap fun c => ((List.range 32).filter c.isUsed).map c.blockIn

def BlockIn.ctx (b : BlockIn) : Nat := b.code.sect.ctx
def BlockIn.tile (b : BlockIn) : Nat := b.code.id

/-- The valid bindings of a block. -/
def BlockIn.binds (b : BlockIn) : List Bind := b.head.binds.filterMap fun x => x

/-- The planes of the links, or of the RSU channel, that a port and VC of a tile reach (R197). -/
def Img.portPlanes (x : Img) (ctx tile port vc : Nat) : List Bool :=
  x.im.links.filterMap fun l =>
    if l.1 != ctx || l.2.svc != vc then none
    else if port < 4 && l.2.port == port && l.2.src == tile then some l.2.plane
    else if port == 7 && l.2.port == 7 && l.2.src / 128 == tile / 128 && l.2.src % 128 / 8 == tile % 128 / 8 && l.2.param.testBit (tile % 8) then some true
    else none

/-- The planes of the tokens that may reach a position: from bindings and from targets, following operands that are passed on. -/
def BlockIn.feeds (b : BlockIn) : Nat → Nat → Pos → List Bool
  | 0, _, _ => []
  | fuel + 1, slot, pos =>
    (b.binds.filter fun y => y.slot == slot && y.pos == pos).map Bind.plane ++
    b.items.zipIdx.flatMap fun y =>
      match y.1.2.bind shapeOf with
      | none => []
      | some sh =>
        let planes := fun (o : Out) => match o with
          | .nothing => []
          | .plane d => [d]
          | .likeA => b.feeds fuel y.2 .a
        (if slotTarget (wordTa y.1.1) == some (slot, pos) then planes sh.ta else []) ++
        (if slotTarget (wordTb y.1.1) == some (slot, pos) then planes sh.tb else [])

/-- The planes that an instruction sends to a target. -/
def BlockIn.sends (b : BlockIn) (slot : Nat) (o : Out) : List Bool :=
  match o with
  | .nothing => []
  | .plane d => [d]
  | .likeA => (b.feeds 129 slot .a).eraseDups

/-- Whether a target or an eager binding names a position (R30). -/
def BlockIn.named (b : BlockIn) (slot : Nat) (pos : Pos) : Bool :=
  (b.binds.any fun y => !y.isLazy && y.slot == slot && y.pos == pos) ||
  b.items.any fun y => slotTarget (wordTa y.1) == some (slot, pos) || slotTarget (wordTb y.1) == some (slot, pos)

/-- Causes that a target code gives (R197, R222, R223, R251, R306, R68).
(DEDUCED, log 81: the cause of a target in a position that must not be named.) -/
def Img.targetCauses (x : Img) (b : BlockIn) (slot tc : Nat) (out : Option Out) (stream : Bool) : List LoadCause :=
  let planes := match out with
    | none => []
    | some o => b.sends slot o
  (if out == some .nothing && tc != 0x200 then [LoadCause.targetReserved] else []) ++
  match slotTarget tc with
  | some (n, pos) =>
    match b.items[n]? with
    | none => [.targetReserved]
    | some (w, i?) =>
      (if stream then [LoadCause.targetReserved] else []) ++
      match i?.bind fun i => (shapeOf i).map (fun (sh : Shape) => sh.use i w pos) with
      | none => []
      | some .absent =>
        if pos == .p then [.targetReserved] else
        match unlistedOf w with
        | .closed d => if planes.contains !d then [.planeMismatch] else [.targetReserved]
        | .awaited d => if planes.contains !d then [.planeMismatch] else []
        | .none => [.targetReserved]
      | some (.held _ _) => [.targetReserved]
      | some u => if planes.any fun d => !u.takes d then [.planeMismatch] else []
  | none =>
    match tc / 64 with
    | 9 =>
      let ps := x.portPlanes b.ctx b.tile (fld tc 3 3) (fld tc 0 3)
      if ps.isEmpty then [.targetReserved] else if planes.any fun d => !ps.contains d then [.planeMismatch] else []
    | 11 => if planes.contains true then [.planeMismatch] else []
    | _ => []

/-- Causes that the positions of an instruction give (R30, R196, R307, R403). -/
def BlockIn.positionCauses (b : BlockIn) (slot w : Nat) (i : Instr) (sh : Shape) : List LoadCause :=
  [Pos.a, .b, .c, .p].flatMap fun pos =>
    match sh.use i w pos with
    | .req _ | .either =>
      if b.named slot pos then [] else if pos == .p && !isSel i then [.pmReserved] else [.positionUnnamed]
    | .held vc d =>
      if b.binds.any fun y => y.isLazy && y.slot == slot && y.pos == pos && y.vc == vc && (d == none || d == some y.plane) then [] else [.nameUnknown]
    | _ => []

/-! Formats. -/

def intFmts : List Nat := [0, 1, 2, 3]
def fltFmts : List Nat := [5, 6, 7]
def bitFmts : List Nat := [0, 1, 2, 3, 5, 6, 7, 8, 9, 0xC]
def plainFmts : List Nat := [0, 1, 2, 3, 5, 6, 7, 8, 9]
def mxFmts : List Nat := [0xA, 0xB, 0xC]
def bankFmts : List Nat := [5, 6, 8, 9, 0xA, 0xB, 0xC]
def cplxFmts : List Nat := [0xD, 0xE]

/-- The format slot of an instruction and the lane formats that its entry accepts (R252, R322, R323, R325, R326, R330, R331). -/
def laneFmts : Instr → Option (BitVec 2 × List Nat)
  | .vadd _ f _ _ | .vsub _ f _ _ | .vmul _ f _ _ | .vmad _ f _ _ | .vmin _ f _ _ | .vmax _ f _ _ | .vabs _ f _ _ | .vneg _ f _ _ => some (f, intFmts)
  | .vadds _ f _ _ | .vsubs _ f _ _ | .vshl _ f _ _ _ | .vshr _ f _ _ _ | .vsar _ f _ _ _ => some (f, intFmts)
  | .vand _ f _ _ | .vor _ f _ _ | .vxor _ f _ _ | .vsel _ f _ _ | .vshuf _ f _ _ | .vsplat _ f _ _ => some (f, bitFmts)
  | .vextr _ f _ _ _ | .vinsl _ f _ _ _ => some (f, bitFmts)
  | .vfadd _ f _ _ | .vfsub _ f _ _ | .vfmul _ f _ _ | .vfma _ f _ _ | .vfms _ f _ _ | .vfnma _ f _ _ | .vfmin _ f _ _ | .vfmax _ f _ _ => some (f, fltFmts)
  | .vfabs _ f _ _ | .vfneg _ f _ _ | .vfcmp _ f _ _ _ | .vfrcp _ f _ _ | .vfrsq _ f _ _ | .vfcls _ f _ _ _ | .vfscl _ f _ _ => some (f, fltFmts)
  | .vrint _ f _ _ _ | .vfexp _ f _ _ | .vflog _ f _ _ | .vxexp _ f _ _ | .vprune _ f _ _ => some (f, fltFmts)
  | .vqnt _ f _ _ _ _ _ | .vdqnt _ f _ _ _ _ _ => some (f, fltFmts)
  | .vred _ f _ _ _ | .vscan _ f _ _ _ => some (f, intFmts ++ fltFmts)
  | .vpack _ f _ _ _ _ => some (f, [2, 3])
  | .vunpk _ f _ _ _ => some (f, [0, 1, 2])
  | .vcvt _ f _ _ _ _ => some (f, plainFmts)
  | .wacc _ f _ _ _ _ _ _ | .wincl _ f _ _ _ _ _ => some (f, [3, 7])
  | .joink _ f _ _ _ _ _ _ => some (f, plainFmts ++ mxFmts ++ cplxFmts)
  | .wld _ f _ _ _ _ | .wlds _ f _ _ _ => some (f, bankFmts)
  | .xfwd _ f _ _ _ => some (f, fltFmts)
  | .xinv _ f _ _ _ | .cmac _ f _ _ | .cmul _ f _ _ | .cconj _ f _ _ => some (f, cplxFmts)
  | _ => none

/-- Causes from formats and converters (R97, R98, R121, R266, R274, R275, R330). -/
def formatCauses (c : TileCfg) (i : Instr) : List LoadCause :=
  let lane := fun (f : BitVec 2) => c.fmt.getD f.toNat 0
  let conv := fun (k : BitVec 2) => convFields (c.conv.getD k.toNat 0)
  (match laneFmts i with
   | some (f, ok) => if ok.contains (lane f) then [] else [LoadCause.formatUse]
   | none => []) ++
  match i with
  | .arow _ f _ _ _ _ =>
    if lane f == 4 || lane f == 0xF then [.formatUse]
    else if [0, 5, 6, 8, 9, 0xA, 0xB].contains (lane f) then [] else [.regionConfig]
  | .vcvt _ f _ _ k _ => if (conv k).1 == lane f && plainFmts.contains (conv k).2.1 then [] else [.formatUse]
  | .vqnt _ f _ _ _ _ k => if (conv k).1 == lane f && mxFmts.contains (conv k).2.1 then [] else [.formatUse]
  | .vdqnt _ f _ _ _ _ k => if mxFmts.contains (conv k).1 && (conv k).2.1 == lane f then [] else [.formatUse]
  | .xfwd _ _ _ _ k =>
    (if (conv k).1 == 7 && [6, 7].contains (conv k).2.1 then [] else [.formatUse]) ++ (if (conv k).2.2.1 == 5 then [.configWord] else [])
  | .xinv _ _ _ _ k =>
    (if (conv k).1 == 7 && fltFmts.contains (conv k).2.1 then [] else [.formatUse]) ++ (if (conv k).2.2.1 == 5 then [.configWord] else [])
  | _ => []

/-! Fields that depend on the tile and the charge. -/

/-- The keeps of VQNT and VDQNT (R274, R275). -/
def quantKeeps (lane block : Nat) : Nat × Nat := (fmtWidth lane / 4, if block == 0xA then 1 else 2)

/-- Whether an instruction uses a repeat ring, whose BASE and CAP stand in bits [11:0] and [23:12] of its word (R312). -/
def isRing : Option Instr → Bool
  | some (.rptc _ _ _ _ _) | some (.rpte _ _ _ _ _) => true
  | _ => false

/-- Causes from IMM fields against the tile's formats, wickets and rings (R248, R258, R266, R272 to R275, R289, R312, R325). -/
def Img.fieldCauses (x : Img) (b : BlockIn) (slot : Nat) (i : Instr) : List LoadCause :=
  let c := x.cfg b.ctx b.tile
  let width := fun (f : BitVec 2) => fmtWidth (c.fmt.getD f.toNat 0)
  let fmt := fun (f : BitVec 2) => c.fmt.getD f.toNat 0
  let conv := fun (k : BitVec 2) => convFields (c.conv.getD k.toNat 0)
  let imm := fun (bad : Bool) => if bad then [LoadCause.immField] else []
  let name := fun (bad : Bool) => if bad then [LoadCause.nameUnknown] else []
  let wicket := fun (w : BitVec 4) => x.im.wickets.find? fun y => y.ctx == b.ctx && y.id == b.tile && y.index == w.toNat
  let ring := fun (base cap : BitVec 12) => imm (x.blocks.any fun o =>
    o.tile == b.tile && o.items.any fun y => isRing y.2 && fld y.1 0 12 == base.toNat && fld y.1 12 12 != cap.toNat)
  match i with
  | .exit _ blk | .yield _ blk _ => name !(b.code.ofTask blk.toNat b.head.task)
  | .vextr _ f _ _ n | .vinsl _ f _ _ n => imm (n.toNat * width f ≥ 128)
  | .vshl _ _ _ _ n | .vshr _ _ _ _ n | .vsar _ _ _ _ n => imm (n != 0 && b.named slot .b)
  | .timer _ _ _ off => imm (off != 0 && !b.named slot .a)
  | .vcvt _ f _ _ k part =>
    let ws := width f
    let wt := fmtWidth (conv k).2.1
    imm (part.toNat ≥ max 1 (max ws wt / max 1 (min ws wt)))
  | .vqnt _ f _ _ n m k =>
    let (s, d) := quantKeeps (fmt f) (conv k).2.1
    imm (n.toNat + s > 64 || m.toNat + d > 64)
  | .vdqnt _ f _ _ n m k =>
    let (s, d) := quantKeeps (fmt f) (conv k).1
    imm (n.toNat + d > 64 || m.toNat + s > 64)
  | .wick _ _ _ w first n =>
    match wicket w with
    | none => [.nameUnknown]
    | some y => imm (first.toNat ≥ y.chunks || n.toNat + 1 > y.chunks)
  | .wadv _ _ _ w _ => name (wicket w).isNone
  | .bell _ _ _ n | .bella _ _ _ n | .abstn _ _ _ n => name (n.toNat ≥ x.im.bells.length)
  | .drvk _ _ _ named shelf => name (named == 1 && shelf.toNat ≥ x.im.cols * x.im.rows)
  | .wld _ f _ _ bank _ | .wlds _ f _ _ bank => imm (fmt f == 0xC && bank.toNat % 2 == 1)
  | .rptc _ _ _ base cap | .rpte _ _ _ base cap => ring base cap
  | _ => []

/-- Whether exactly one alias class holds a memory instruction, and it is in use (R178). -/
def Img.aliasOk (x : Img) (b : BlockIn) (slot : Nat) : Bool :=
  match Config.aliasClasses x.bs b.ctx b.tile b.idx slot with
  | [a] => ((x.im.aliases[a]?).map Prod.fst).getD 0 != 0
  | _ => false

/-- Offences of an instruction word. -/
def Img.wordOffences (x : Img) (b : BlockIn) (slot : Nat) (y : Nat × Option Instr) : List Offence :=
  let w := y.1
  let out := fun (first : Bool) => (y.2.bind shapeOf).map fun sh => if first then sh.ta else sh.tb
  let stream := (y.2.map streamsOf).getD (false, false)
  let causes : List LoadCause :=
    (match decodeTileNat w with
     | .ok _ => []
     | .error c => [c]) ++
    x.targetCauses b slot (wordTa w) (out true) stream.1 ++ x.targetCauses b slot (wordTb w) (out false) stream.2 ++
    match y.2 with
    | none => []
    | some i =>
      let c := x.cfg b.ctx b.tile
      (match shapeOf i with
       | none => []
       | some sh =>
         b.positionCauses slot w i sh ++
         (if sh.mode.any fun m => m != c.mode then [.regionConfig] else []) ++
         (if sh.mem && !x.aliasOk b slot then [.aliasClass] else [])) ++
      formatCauses c i ++ x.fieldCauses b slot i
  causes.map (b.code.atWord b.idx slot)

/-- Offences of a used block's header (R200). -/
def Img.headerBad (x : Img) (b : BlockIn) : Bool :=
  let h := b.code.headers.getD b.idx 0
  let binds := b.binds
  fld h 112 5 != 0 || fld h 99 10 != 0 ||
  ((x.cfg b.ctx b.tile).entries.getD b.head.task none).isNone ||
  (List.range 4).any (fun n => let e := fld h (32 + 16 * n) 16; e != 0 && fld e 15 1 == 0) ||
  (List.range 4).any (fun n => let e := fld h (8 * n) 8; e != 0 && fld e 7 1 == 0) ||
  binds.any (fun y => y.slot ≥ b.head.count) ||
  binds.zipIdx.any (fun y => (binds.take y.2).any fun z => z.vc == y.1.vc && z.plane == y.1.plane) ||
  (b.head.guards.filterMap fun g => g).any (fun g => !(x.portPlanes b.ctx b.tile g.port g.vc).contains g.plane) ||
  (b.head.keepSeq && !(b.head.binds.headD none).any (fun y => y.plane && !y.isLazy)) ||
  (b.head.anyIn && !binds.any (fun y => !y.isLazy))

/-- Causes that a binding's position gives (R68, R223, R306, R307).
(DEDUCED, log 81: the cause of a binding to a position that must not be named.) -/
def BlockIn.bindCauses (b : BlockIn) (y : Bind) : List LoadCause :=
  match b.items[y.slot]? with
  | some (w, some i) =>
    match (shapeOf i).map (fun (sh : Shape) => sh.use i w y.pos) with
    | some .absent =>
      if y.isLazy then [.nameUnknown] else if y.pos == .p then [.blockHeader] else
      match unlistedOf w with
      | .closed d => if y.plane != d then [.planeMismatch] else [.blockHeader]
      | .awaited d => if y.plane != d then [.planeMismatch] else []
      | .none => [.blockHeader]
    | some (.held vc d) => if y.isLazy && y.vc == vc && (d == none || d == some y.plane) then [] else [.nameUnknown]
    | some u => if y.isLazy then [.nameUnknown] else if u.takes y.plane then [] else [.planeMismatch]
    | none => []
  | _ => []

/-- Offences of block code (R200, R201, R221). -/
def Img.codeOffences (x : Img) : List Offence :=
  (((goodSects x.bs).filter fun s => s.kind == 3 && s.len < 512).map fun s => ⟨s.off, .blockHeader, s.idx, 0, 0⟩) ++
  (x.codes.flatMap fun c =>
    let total := c.base c.used
    ifBad (c.sect.len != 512 + 8 * total || total > 2048) ⟨c.sect.off, .blockHeader, c.sect.idx, 0, 0⟩ ++
    (List.range c.used).flatMap fun j => ifBad (!c.isUsed j) (c.atHead j .blockHeader)) ++
  x.blocks.flatMap fun b =>
    ifBad (x.headerBad b) (b.code.atHead b.idx .blockHeader) ++
    ifBad ((List.range 4).any fun n => fld (b.code.headers.getD b.idx 0) (32 + 16 * n) 1 == 1) (b.code.atHead b.idx .chargeHeader) ++
    (b.binds.flatMap fun y => (b.bindCauses y).map (b.code.atHead b.idx)) ++
    b.items.zipIdx.flatMap fun y => x.wordOffences b y.2 y.1

/-! Repeat rings (R312). -/

/-- The bytes in the scratchpad of a tile that the headers of its repeat rings take.
(DESIGN CHOICE, log 128.) -/
def Img.ringHeads (x : Img) (tile : Nat) : List Nat :=
  (x.blocks.filter fun b => b.tile == tile).flatMap fun b =>
    (b.items.filter fun y => isRing y.2).flatMap fun y => (List.range 32).map fun i => 32 * fld y.1 0 12 + i

/-- Data images that leave a ring's header other than zero at placement, which R312 forbids and the second half of the manual gives no
outcome (R3).
(DESIGN CHOICE, log 128.) -/
def Img.ringOffences (x : Img) : List Offence :=
  (dataIn x.bs).flatMap fun d =>
    let r := d.record
    ifBad (r.space == 0 && (x.ringHeads r.id).any fun a => r.off ≤ a && r.bytes.getD (a - r.off) 0 != 0)
      ⟨d.off, .chargeHeader, d.sect.idx, 0, 0⟩

/-! Cycles of links of SLOTS 0 (R72). -/

/-- Whether a block of the tile between them takes a token of link `l` and can send on link `m` in the same execution. -/
def Img.passes (x : Img) (l m : Nat × LinkCfg) : Bool :=
  l.1 == m.1 && l.2.dst == m.2.src && m.2.port < 4 && x.blocks.any fun b =>
    b.ctx == l.1 && b.tile == l.2.dst && b.binds.any (fun y => y.plane == l.2.plane && y.vc == l.2.dvc) &&
    b.items.any fun y => y.2.isSome && [wordTa y.1, wordTb y.1].any fun tc => tc == 0x240 + 8 * m.2.port + m.2.svc

/-- What a relation reaches from a list, in a number of rounds. -/
def closure (next : Nat → List Nat) : Nat → List Nat → List Nat
  | 0, seen => seen
  | fuel + 1, seen =>
    let more := (seen.flatMap next).eraseDups.filter fun n => !seen.contains n
    if more.isEmpty then seen else closure next fuel (seen ++ more)

/-- Links of SLOTS 0 that lie on a cycle of such links through more than one tile (R72). -/
def Img.cycleOffences (x : Img) : List Offence :=
  let zs := x.links.filter fun f => (linkCfgOf f.val).slots == 0 && (linkCfgOf f.val).src != (linkCfgOf f.val).dst
  let adj := zs.map fun f => (List.range zs.length).filter fun j =>
    (zs[j]?).any fun g => g.sect.ctx == f.sect.ctx && (linkCfgOf g.val).src == (linkCfgOf f.val).dst
  let next := fun n => adj.getD n []
  zs.zipIdx.flatMap fun f => ifBad ((closure next zs.length (next f.2)).contains f.2) (f.1.bad .linkZeroCycle)

/-! Reconvergent pairs (R60). -/

/-- Whether links run one after another from a tile to a tile. -/
def armRuns : List (Nat × LinkCfg) → Nat → Nat → Bool
  | [], _, _ => false
  | [l], src, dst => l.2.src == src && l.2.dst == dst
  | l :: m :: ls, src, dst => l.2.src == src && l.1 == m.1 && armRuns (m :: ls) l.2.dst dst

/-- Whether a declared pair breaks R60: the links do not run from one steering tile to one merging tile in one context, or the control
link holds fewer slots than the longer arm's total plus one. -/
def reconvBad (ctl : Nat × LinkCfg) (arms : List (List (Nat × LinkCfg))) : Bool :=
  arms.any (fun a => !armRuns a ctl.2.src ctl.2.dst || a.any fun l => l.1 != ctl.1) ||
  ctl.2.slots < (arms.map fun a => (a.map fun l => l.2.slots).sum).foldl max 0 + 1

/-- Offences of the declared pairs, at the word of the control link (R396). -/
def Img.reconvOffences (x : Img) : List Offence :=
  let link := fun (f : Found) => (f.sect.ctx, linkCfgOf f.val)
  x.links.zipIdx.flatMap fun c => ((Config.reconvPairs x.bs).filter fun p => p.1 == c.2).flatMap fun p =>
    ifBad (reconvBad (link c.1) (p.2.map fun a => a.filterMap fun n => (x.links[n]?).map link)) (c.1.bad .reconvSlots)

def Img.linkOffences (x : Img) : List Offence :=
  let all := linkRecs x.bs
  (all.zipIdx.flatMap fun f =>
    let before := all.take f.2
    match f.1.kind with
    | 1 => x.linkBad (ofKind before 1) f.1
    | 2 => x.tickBad before f.1
    | _ => [f.1.bad .configWord]) ++
  x.cycleOffences ++ x.reconvOffences

/-! Drove lists (R339, R352). -/

/-- The converter state in force before and after a command: source, if on. -/
def droveNextConv (c : Instr) (conv : Option Nat) : Option Nat :=
  match c with
  | .dconv src _ _ _ on => if on == 1 then some src.toNat else none
  | _ => conv

/-- The commands that may follow a command (R352). -/
def droveNexts (i : Nat) : Instr → List Nat
  | .dhalt => []
  | .djmp t => [t.toNat]
  | .djz _ t | .dnext _ t | .dloop _ _ t => [i + 1, t.toNat]
  | _ => [i + 1]

/-- Whether a data command breaks the converter in force (R347, R352). -/
def droveConvBad (c : Instr) (conv : Option Nat) : Bool :=
  match conv with
  | none => false
  | some src =>
    match c with
    | .dpush _ _ _ f _ _ _ _ => f.toNat != src
    | .dpull _ _ _ f _ _ => f.toNat != src
    | .dgath _ _ _ _ f _ _ _ => f.toNat != src
    | .dcopy _ _ _ f _ => f.toNat != src
    | .dgtld _ _ _ _ _ _ => src != 7
    | _ => false

/-- States of a list as numbers: 17 times the command, plus 16 or the converter's source. -/
def droveState (i : Nat) (conv : Option Nat) : Nat := 17 * i + conv.getD 16
def droveConvOf (n : Nat) : Option Nat := if n % 17 == 16 then none else some (n % 17)

/-- The states that the paths of a list reach from its first command with the converter off. -/
def droveReach (cmds : List (Option Instr)) : List Nat :=
  let next := fun (n : Nat) => match cmds.getD (n / 17) none with
    | none => []
    | some c => ((droveNexts (n / 17) c).filter fun j => j < cmds.length).map fun j => droveState j (droveNextConv c (droveConvOf n))
  closure next (17 * cmds.length + 1) [droveState 0 none]

/-- Causes of one command of a list. -/
def Img.commandCauses (x : Img) (cmds : List (Option Instr)) (reach : List Nat) (i w : Nat) : List LoadCause :=
  match decodeDroveNat w with
  | .error c => [c]
  | .ok c =>
    (match c with
     | .dloop _ _ t | .dnext _ t | .djmp t | .djz _ t => if t.toNat ≥ cmds.length then [LoadCause.immField] else []
     | .dwick t n on =>
       if on == 1 && !(x.im.wickets.any fun y => y.id == t.toNat && y.index == n.toNat) then [.immField] else []
     | _ => []) ++
    (if (reach.filter fun n => n / 17 == i).any fun n => droveConvBad c (droveConvOf n) then [.formatUse] else [])

def Img.listOffences (x : Img) : List Offence :=
  (listsIn x.bs).flatMap fun l =>
    let cmds := l.cmds.map fun w => (decodeDroveNat w).toOption
    let reach := droveReach cmds
    ifBad (!l.whole || fld l.desc 1 7 != 0 || fld l.desc 14 18 != 0 || l.desc / 2 ^ 64 != 0 ||
      (!l.desc.testBit 0 && fld l.desc 8 6 ≥ x.im.cols * x.im.rows)) ⟨l.off, .chargeHeader, l.sect.idx, 0, 0⟩ ++
    l.cmds.zipIdx.flatMap fun w =>
      (x.commandCauses cmds reach w.2 w.1).map fun c => ⟨l.off + 16 + 16 * w.2, c, l.sect.idx, 0, 0⟩

/-! READOUT (R210). -/

/-- The element kinds that a charge uses. -/
def Img.uses (x : Img) : List Bool :=
  let is := x.blocks.flatMap fun b => b.items.filterMap fun y => y.2
  let tracked := is.any fun i => match i with
    | .cnttk _ _ _ _ _ _ => true
    | _ => false
  [!x.im.links.isEmpty || x.im.args.any Option.isSome,
   x.im.tiles.any fun c => c.entries.any Option.isSome,
   x.im.links.any fun l => l.2.port == 7,
   is.any fun i => match i with | .xfwd _ _ _ _ _ | .xinv _ _ _ _ _ => true | _ => false,
   !x.im.lists.isEmpty || is.any fun i => match i with | .xreq _ _ _ | .drvk _ _ _ _ _ => true | _ => false,
   !x.im.mtiles.isEmpty,
   !x.im.ticks.isEmpty || (x.im.links.any fun l => l.2.policy != 0) || tracked,
   !x.im.bells.isEmpty || x.blocks.any fun b => b.items.any fun y => [wordTa y.1, wordTb y.1].any fun tc => tc / 64 == 11]

def Img.readoutOffences (x : Img) : List Offence :=
  ifBad (x.uses.zipIdx.any fun u => u.1 && !x.im.readout.testBit u.2) (headOff 16 .chargeHeader)

end Sys2Proof.Machine
end

