-- ==== Sys2Proof/Machine/Loader.lean ====
section
/-! DEFINITION. CHARGE_LOAD (R221, R404): every offence of an image, the race check (R193), and the load. -/

namespace Sys2Proof.Machine

/-! The race check (R193). -/

/-- A memory instruction, or any other, as a node of the token graph: context, tile, block, slot, image offset, instruction. -/
structure RaceNode where
  block : BlockIn
  slot : Nat
  off : Nat
  word : Nat
  instr : Instr

def Img.raceNodes (x : Img) : List RaceNode :=
  x.blocks.flatMap fun b => b.items.zipIdx.filterMap fun y =>
    y.1.2.map fun i => ⟨b, y.2, b.code.sect.off + 512 + 8 * (b.code.base b.idx + y.2), y.1.1, i⟩

/-- Whether a node lies in a slot of a block of a tile and context. -/
def RaceNode.lies (n : RaceNode) (ctx tile block slot : Nat) : Bool :=
  n.block.ctx == ctx && n.block.tile == tile && n.block.idx == block && n.slot == slot

/-- Whether a token that `a` sends to a target reaches node `b` (R177): in the same block, or over a link or an RSU channel of the
token's plane to a binding.
(DEDUCED, log 104.) -/
def Img.tokenTo (x : Img) (a b : RaceNode) (tc : Nat) (out : Out) : Bool :=
  a.block.ctx == b.block.ctx &&
  match slotTarget tc with
  | some (n, _) => b.lies a.block.ctx a.block.tile a.block.idx n
  | none =>
    tc / 64 == 9 && x.im.links.any fun l =>
      let port := fld tc 3 3
      (a.block.sends a.slot out).contains l.2.plane && l.1 == a.block.ctx && l.2.svc == fld tc 0 3 && l.2.port == port && l.2.dst == b.block.tile &&
      (if port == 7 then l.2.src / 128 == a.block.tile / 128 && l.2.src % 128 / 8 == a.block.tile % 128 / 8 else l.2.src == a.block.tile) &&
      b.block.binds.any fun y => y.plane == l.2.plane && y.vc == l.2.dvc && y.slot == b.slot

/-- For each node, the nodes that its tokens reach directly. -/
def Img.tokenEdges (x : Img) (ns : List RaceNode) : List (List Nat) :=
  ns.map fun a => (List.range ns.length).filter fun j =>
    (ns[j]?).any fun b => (shapeOf a.instr).any fun sh => x.tokenTo a b (wordTa a.word) sh.ta || x.tokenTo a b (wordTb a.word) sh.tb

/-- Instructions that write memory. -/
def writesMemory : Instr → Bool
  | .sts _ _ _ _ _ _ | .stsv _ _ _ _ _ | .stsx _ _ _ _ _ _ | .gst _ _ _ _ _ _ _ | .gstv _ _ _ _ _ _ => true
  | .aadd _ _ _ _ _ _ _ | .aand _ _ _ _ _ _ _ | .aor _ _ _ _ _ _ _ | .axor _ _ _ _ _ _ _ | .amin _ _ _ _ _ _ _ => true
  | .amax _ _ _ _ _ _ _ | .aminu _ _ _ _ _ _ _ | .amaxu _ _ _ _ _ _ _ | .axch _ _ _ _ _ _ _ | .acas _ _ _ _ _ _ _ _ => true
  | .afadd _ _ _ _ _ _ | .atas _ _ _ _ _ _ | .xfwd _ _ _ _ _ | .xinv _ _ _ _ _ => true
  | _ => false

/-- Scratchpad writes that set the full bit (R198, R330), and scratchpad reads that wait for it. -/
def setsFull : Instr → Bool
  | .sts _ q _ _ _ _ | .stsx _ q _ _ _ _ => q != .noFe
  | .stsv _ q _ _ _ => q != .noFe
  | .xfwd _ _ _ _ _ | .xinv _ _ _ _ _ => true
  | _ => false
def waitsFull : Instr → Bool
  | .lds _ q _ _ _ _ _ | .ldsx _ q _ _ _ _ _ => q != .plain
  | .ldsv _ q _ _ _ => q != .plain
  | _ => false

/-- A memory instruction (R178). -/
def isMemory (i : Instr) : Bool := (shapeOf i).any Shape.mem

/-- The alias entry of a node. -/
def Img.aliasOf (x : Img) (n : RaceNode) : Nat × Nat × Nat :=
  x.im.aliases.getD ((Config.aliasClasses x.bs n.block.ctx n.block.tile n.block.idx n.slot).headD 0) (0, 0, 0)

/-- Whether the declared ranges of two members overlap (R193). -/
def Img.mayTouch (x : Img) (a b : RaceNode) : Bool :=
  let (ka, ba, sa) := x.aliasOf a
  let (kb, bb, sb) := x.aliasOf b
  if ka == 7 || kb == 7 then ka == 7 && kb == 7 && a.block.tile == b.block.tile
  else if ka == 1 && kb == 1 then ba < bb + sb && bb < ba + sa
  else true

/-- The bell of an arrival, and of a release token. -/
def bellOf : Instr → Option Nat
  | .bell _ _ _ n | .bella _ _ _ n | .abstn _ _ _ n => some n.toNat
  | _ => none
def releaseOf : Instr → Option Nat
  | .bell _ _ _ n => some n.toNat
  | _ => none

/-- The nodes that tokens of a node reach, over any number of steps. -/
def tokenReach (edges : List (List Nat)) : List (List Nat) :=
  edges.map fun e => closure (fun n => edges.getD n []) edges.length e

/-- Whether an ob chain leads from one node to another, directly or through a bell (R193). -/
def chained (ns : List RaceNode) (reach : List (List Nat)) (i j : Nat) : Bool :=
  let hits := reach.getD i []
  hits.contains j || hits.any fun m =>
    match (ns[m]?).bind fun a => bellOf a.instr with
    | none => false
    | some b => ns.zipIdx.any fun r => releaseOf r.1.instr == some b && (reach.getD r.2 []).contains j

/-- Whether two memory instructions are an unordered pair (R193). -/
def Img.unordered (x : Img) (ns : List RaceNode) (reach : List (List Nat)) (a b : RaceNode × Nat) : Bool :=
  isMemory a.1.instr && isMemory b.1.instr && (writesMemory a.1.instr || writesMemory b.1.instr) && a.1.block.ctx == b.1.block.ctx &&
  x.mayTouch a.1 b.1 && !chained ns reach a.2 b.2 && !chained ns reach b.2 a.2 &&
  !((x.aliasOf a.1).1 == 7 && ((setsFull a.1.instr && waitsFull b.1.instr) || (setsFull b.1.instr && waitsFull a.1.instr)))

/-- A race, at a node. -/
def RaceNode.race (n : RaceNode) : Offence := ⟨n.off, .raceUnordered, n.block.code.sect.idx, n.block.idx, n.slot⟩

/-- The two instructions of the first unordered pair, in image order (R193). -/
def Img.racePair (x : Img) : Option (Offence × Offence) :=
  let ns := x.raceNodes
  let reach := tokenReach (x.tokenEdges ns)
  let all := ns.zipIdx
  let partner := fun (a : RaceNode × Nat) => firstOffence ((all.filter fun b => a.1.off < b.1.off && x.unordered ns reach a b).map fun b => b.1.race)
  let pairs := all.filterMap fun a => (partner a).map fun o => (a.1.race, o)
  (firstOffence (pairs.map Prod.fst)).bind fun o => pairs.find? fun p => p.1 == o

/-- The instruction of the first unordered pair that RESULT names (R404: the first offence in image order). -/
def Img.raceOffence (x : Img) : Option Offence := x.racePair.map Prod.fst

/-! Loading. -/

/-- Every offence of an image but races (R221). -/
def Img.offences (x : Img) (signedOnly : Bool) (key : List Byte) : List Offence :=
  headOffences x.bs signedOnly ++ aliasOffences x.bs ++ bindingOffences x.bs ++ dirOffences x.bs ++
  x.recordOffences ++ x.linkOffences ++ x.codeOffences ++ bellOffences x.bs ++ dataOffences x.bs ++ x.ringOffences ++
  x.listOffences ++ x.readoutOffences ++ signatureOffences x.bs key

/-- Refuse a charge (R404): DENIED for a signature, REFUSED for anything else. -/
def State.refuse (s : State) (e : Rec8) (o : Offence) : State :=
  s.complete (cmdTag e) (cmdCode e) (if o.cause == .signature then 4 else 1) o.result

/-- Load a charge (R221, R371). -/
def State.load (s : State) (e : Rec8) (p : Paddock) (x : Img) (race : Bool) : State :=
  ({ s with
     charges := s.charges ++ [Charge.mk s.nextCharge p.index race x.im]
     nextCharge := s.nextCharge + 1 }).done e (BitVec.ofNat 64 s.nextCharge)

/-- CHARGE_LOAD (R221): word 1 the image's host address, word 2 its length. -/
def execChargeLoad (s : State) : Host.Outcome State Fault Refusal :=
  onPaddock s [m64, lowBits 32] fun s e p =>
    let x := Img.ofBytes (s.hostBytes e.w1.toNat e.w2.toNat)
    match firstOffence (x.offences p.signedOnly p.key) with
    | some o => s.refuse e o
    | none =>
      match x.raceOffence with
      | none => s.load e p x false
      | some o => if x.im.raceMode then s.load e p x true else s.refuse e o

end Sys2Proof.Machine
end

