-- ==== Sys2Proof/Machine/Dispatch.lean ====
section
/-! DEFINITION. One arm for each constructor of `Instr`: the direct call of its meaning. -/

namespace Sys2Proof.Machine

/-- Execute one row of the opcode table: what it acts on is named by the state's cursor. -/
def exec (i : Instr) (s : State) : Host.Outcome State Fault Refusal :=
  match i with
  | .nop p => Sys2Proof.Machine.execNop p s
  | .exit p block => Sys2Proof.Machine.execExit p block s
  | .exitx p => Sys2Proof.Machine.execExitx p s
  | .halt p => Sys2Proof.Machine.execHalt p s
  | .yield p block dly => Sys2Proof.Machine.execYield p block dly s
  | .ctxend p => Sys2Proof.Machine.execCtxend p s
  | .pset p ta tb v => Sys2Proof.Machine.execPset p ta tb v s
  | .pnot p ta tb => Sys2Proof.Machine.execPnot p ta tb s
  | .pand p ta tb => Sys2Proof.Machine.execPand p ta tb s
  | .por p ta tb => Sys2Proof.Machine.execPor p ta tb s
  | .pxor p ta tb => Sys2Proof.Machine.execPxor p ta tb s
  | .tstz p ta tb => Sys2Proof.Machine.execTstz p ta tb s
  | .tstnz p ta tb => Sys2Proof.Machine.execTstnz p ta tb s
  | .tstneg p ta tb => Sys2Proof.Machine.execTstneg p ta tb s
  | .tstbit p ta tb n => Sys2Proof.Machine.execTstbit p ta tb n s
  | .add p ta tb => Sys2Proof.Machine.execAdd p ta tb s
  | .sub p ta tb => Sys2Proof.Machine.execSub p ta tb s
  | .mul p ta tb => Sys2Proof.Machine.execMul p ta tb s
  | .mulhs p ta tb => Sys2Proof.Machine.execMulhs p ta tb s
  | .mulhu p ta tb => Sys2Proof.Machine.execMulhu p ta tb s
  | .divs p ta tb => Sys2Proof.Machine.execDivs p ta tb s
  | .divu p ta tb => Sys2Proof.Machine.execDivu p ta tb s
  | .rems p ta tb => Sys2Proof.Machine.execRems p ta tb s
  | .remu p ta tb => Sys2Proof.Machine.execRemu p ta tb s
  | .and p ta tb => Sys2Proof.Machine.execAnd p ta tb s
  | .or p ta tb => Sys2Proof.Machine.execOr p ta tb s
  | .xor p ta tb => Sys2Proof.Machine.execXor p ta tb s
  | .shl p ta tb => Sys2Proof.Machine.execShl p ta tb s
  | .shr p ta tb => Sys2Proof.Machine.execShr p ta tb s
  | .sar p ta tb => Sys2Proof.Machine.execSar p ta tb s
  | .rol p ta tb => Sys2Proof.Machine.execRol p ta tb s
  | .ceq p ta tb => Sys2Proof.Machine.execCeq p ta tb s
  | .cne p ta tb => Sys2Proof.Machine.execCne p ta tb s
  | .clt p ta tb => Sys2Proof.Machine.execClt p ta tb s
  | .cle p ta tb => Sys2Proof.Machine.execCle p ta tb s
  | .cltu p ta tb => Sys2Proof.Machine.execCltu p ta tb s
  | .cleu p ta tb => Sys2Proof.Machine.execCleu p ta tb s
  | .mins p ta tb => Sys2Proof.Machine.execMins p ta tb s
  | .maxs p ta tb => Sys2Proof.Machine.execMaxs p ta tb s
  | .minu p ta tb => Sys2Proof.Machine.execMinu p ta tb s
  | .maxu p ta tb => Sys2Proof.Machine.execMaxu p ta tb s
  | .sel ta tb => Sys2Proof.Machine.execSel ta tb s
  | .abs p ta tb => Sys2Proof.Machine.execAbs p ta tb s
  | .neg p ta tb => Sys2Proof.Machine.execNeg p ta tb s
  | .not p ta tb => Sys2Proof.Machine.execNot p ta tb s
  | .addi p ta tb imm => Sys2Proof.Machine.execAddi p ta tb imm s
  | .muli p ta tb imm => Sys2Proof.Machine.execMuli p ta tb imm s
  | .movi p ta tb imm => Sys2Proof.Machine.execMovi p ta tb imm s
  | .movhi p ta tb imm => Sys2Proof.Machine.execMovhi p ta tb imm s
  | .copy p ta tb => Sys2Proof.Machine.execCopy p ta tb s
  | .andi p ta tb imm => Sys2Proof.Machine.execAndi p ta tb imm s
  | .ori p ta tb imm => Sys2Proof.Machine.execOri p ta tb imm s
  | .xori p ta tb imm => Sys2Proof.Machine.execXori p ta tb imm s
  | .shli p ta tb sh => Sys2Proof.Machine.execShli p ta tb sh s
  | .shri p ta tb sh => Sys2Proof.Machine.execShri p ta tb sh s
  | .sari p ta tb sh => Sys2Proof.Machine.execSari p ta tb sh s
  | .popc p ta tb => Sys2Proof.Machine.execPopc p ta tb s
  | .clz p ta tb => Sys2Proof.Machine.execClz p ta tb s
  | .ctz p ta tb => Sys2Proof.Machine.execCtz p ta tb s
  | .bfx p ta tb lo w sx => Sys2Proof.Machine.execBfx p ta tb lo w sx s
  | .bfi p ta tb lo w => Sys2Proof.Machine.execBfi p ta tb lo w s
  | .lea p ta tb sh off => Sys2Proof.Machine.execLea p ta tb sh off s
  | .ceqi p ta tb imm => Sys2Proof.Machine.execCeqi p ta tb imm s
  | .vadd p fs ta tb => Sys2Proof.Machine.execVadd p fs ta tb s
  | .vsub p fs ta tb => Sys2Proof.Machine.execVsub p fs ta tb s
  | .vmul p fs ta tb => Sys2Proof.Machine.execVmul p fs ta tb s
  | .vmad p fs ta tb => Sys2Proof.Machine.execVmad p fs ta tb s
  | .vmin p fs ta tb => Sys2Proof.Machine.execVmin p fs ta tb s
  | .vmax p fs ta tb => Sys2Proof.Machine.execVmax p fs ta tb s
  | .vabs p fs ta tb => Sys2Proof.Machine.execVabs p fs ta tb s
  | .vneg p fs ta tb => Sys2Proof.Machine.execVneg p fs ta tb s
  | .vand p fs ta tb => Sys2Proof.Machine.execVand p fs ta tb s
  | .vor p fs ta tb => Sys2Proof.Machine.execVor p fs ta tb s
  | .vxor p fs ta tb => Sys2Proof.Machine.execVxor p fs ta tb s
  | .vshl p fs ta tb sh => Sys2Proof.Machine.execVshl p fs ta tb sh s
  | .vshr p fs ta tb sh => Sys2Proof.Machine.execVshr p fs ta tb sh s
  | .vsar p fs ta tb sh => Sys2Proof.Machine.execVsar p fs ta tb sh s
  | .vadds p fs ta tb => Sys2Proof.Machine.execVadds p fs ta tb s
  | .vsubs p fs ta tb => Sys2Proof.Machine.execVsubs p fs ta tb s
  | .vfadd p fs ta tb => Sys2Proof.Machine.execVfadd p fs ta tb s
  | .vfsub p fs ta tb => Sys2Proof.Machine.execVfsub p fs ta tb s
  | .vfmul p fs ta tb => Sys2Proof.Machine.execVfmul p fs ta tb s
  | .vfma p fs ta tb => Sys2Proof.Machine.execVfma p fs ta tb s
  | .vfms p fs ta tb => Sys2Proof.Machine.execVfms p fs ta tb s
  | .vfnma p fs ta tb => Sys2Proof.Machine.execVfnma p fs ta tb s
  | .vfmin p fs ta tb => Sys2Proof.Machine.execVfmin p fs ta tb s
  | .vfmax p fs ta tb => Sys2Proof.Machine.execVfmax p fs ta tb s
  | .vfabs p fs ta tb => Sys2Proof.Machine.execVfabs p fs ta tb s
  | .vfneg p fs ta tb => Sys2Proof.Machine.execVfneg p fs ta tb s
  | .vfcmp p fs ta tb cc => Sys2Proof.Machine.execVfcmp p fs ta tb cc s
  | .vsel p fs ta tb => Sys2Proof.Machine.execVsel p fs ta tb s
  | .vfrcp p fs ta tb => Sys2Proof.Machine.execVfrcp p fs ta tb s
  | .vfrsq p fs ta tb => Sys2Proof.Machine.execVfrsq p fs ta tb s
  | .vfcls p fs ta tb cls => Sys2Proof.Machine.execVfcls p fs ta tb cls s
  | .vfscl p fs ta tb => Sys2Proof.Machine.execVfscl p fs ta tb s
  | .vcvt p fs ta tb c part => Sys2Proof.Machine.execVcvt p fs ta tb c part s
  | .vrint p fs ta tb c => Sys2Proof.Machine.execVrint p fs ta tb c s
  | .vfexp p fs ta tb => Sys2Proof.Machine.execVfexp p fs ta tb s
  | .vflog p fs ta tb => Sys2Proof.Machine.execVflog p fs ta tb s
  | .vxexp p fs ta tb => Sys2Proof.Machine.execVxexp p fs ta tb s
  | .vred p fs ta tb op => Sys2Proof.Machine.execVred p fs ta tb op s
  | .vscan p fs ta tb op => Sys2Proof.Machine.execVscan p fs ta tb op s
  | .vshuf p fs ta tb => Sys2Proof.Machine.execVshuf p fs ta tb s
  | .vsplat p fs ta tb => Sys2Proof.Machine.execVsplat p fs ta tb s
  | .vextr p fs ta tb lane => Sys2Proof.Machine.execVextr p fs ta tb lane s
  | .vinsl p fs ta tb lane => Sys2Proof.Machine.execVinsl p fs ta tb lane s
  | .vpack p fs ta tb sat uns => Sys2Proof.Machine.execVpack p fs ta tb sat uns s
  | .vunpk p fs ta tb hi => Sys2Proof.Machine.execVunpk p fs ta tb hi s
  | .vqnt p fs ta tb src dst c => Sys2Proof.Machine.execVqnt p fs ta tb src dst c s
  | .vdqnt p fs ta tb src dst c => Sys2Proof.Machine.execVdqnt p fs ta tb src dst c s
  | .vprune p fs ta tb => Sys2Proof.Machine.execVprune p fs ta tb s
  | .lds p q ta tb size sx off => Sys2Proof.Machine.execLds p q ta tb size sx off s
  | .ldsv p q ta tb off => Sys2Proof.Machine.execLdsv p q ta tb off s
  | .sts p q ta tb size off => Sys2Proof.Machine.execSts p q ta tb size off s
  | .stsv p q ta tb off => Sys2Proof.Machine.execStsv p q ta tb off s
  | .ldsx p q ta tb size sx off => Sys2Proof.Machine.execLdsx p q ta tb size sx off s
  | .stsx p q ta tb size off => Sys2Proof.Machine.execStsx p q ta tb size off s
  | .feset p ta tb off => Sys2Proof.Machine.execFeset p ta tb off s
  | .feclr p ta tb off => Sys2Proof.Machine.execFeclr p ta tb off s
  | .fetst p ta tb off => Sys2Proof.Machine.execFetst p ta tb off s
  | .krd p ta tb k => Sys2Proof.Machine.execKrd p ta tb k s
  | .kwr p ta tb k => Sys2Proof.Machine.execKwr p ta tb k s
  | .acrd p ta tb row qr => Sys2Proof.Machine.execAcrd p ta tb row qr s
  | .acwr p ta tb row qr => Sys2Proof.Machine.execAcwr p ta tb row qr s
  | .acclr p ta tb => Sys2Proof.Machine.execAcclr p ta tb s
  | .wick p ta tb w first n => Sys2Proof.Machine.execWick p ta tb w first n s
  | .wadv p ta tb w n => Sys2Proof.Machine.execWadv p ta tb w n s
  | .gld p q ta tb scope size off => Sys2Proof.Machine.execGld p q ta tb scope size off s
  | .gldv p q ta tb scope off => Sys2Proof.Machine.execGldv p q ta tb scope off s
  | .gst p q ta tb scope size off => Sys2Proof.Machine.execGst p q ta tb scope size off s
  | .gstv p q ta tb scope off => Sys2Proof.Machine.execGstv p q ta tb scope off s
  | .aadd p q ta tb scope size off => Sys2Proof.Machine.execAadd p q ta tb scope size off s
  | .aand p q ta tb scope size off => Sys2Proof.Machine.execAand p q ta tb scope size off s
  | .aor p q ta tb scope size off => Sys2Proof.Machine.execAor p q ta tb scope size off s
  | .axor p q ta tb scope size off => Sys2Proof.Machine.execAxor p q ta tb scope size off s
  | .amin p q ta tb scope size off => Sys2Proof.Machine.execAmin p q ta tb scope size off s
  | .amax p q ta tb scope size off => Sys2Proof.Machine.execAmax p q ta tb scope size off s
  | .aminu p q ta tb scope size off => Sys2Proof.Machine.execAminu p q ta tb scope size off s
  | .amaxu p q ta tb scope size off => Sys2Proof.Machine.execAmaxu p q ta tb scope size off s
  | .axch p q ta tb scope size off => Sys2Proof.Machine.execAxch p q ta tb scope size off s
  | .acas p q ta tb scope size keep off => Sys2Proof.Machine.execAcas p q ta tb scope size keep off s
  | .afadd p q ta tb scope off => Sys2Proof.Machine.execAfadd p q ta tb scope off s
  | .atas p q ta tb scope off => Sys2Proof.Machine.execAtas p q ta tb scope off s
  | .fence p ta tb scope => Sys2Proof.Machine.execFence p ta tb scope s
  | .ordj p ta tb => Sys2Proof.Machine.execOrdj p ta tb s
  | .bell p ta tb bell => Sys2Proof.Machine.execBell p ta tb bell s
  | .bella p ta tb bell => Sys2Proof.Machine.execBella p ta tb bell s
  | .abstn p ta tb bell => Sys2Proof.Machine.execAbstn p ta tb bell s
  | .qpush p ta tb k => Sys2Proof.Machine.execQpush p ta tb k s
  | .qpop p ta tb k => Sys2Proof.Machine.execQpop p ta tb k s
  | .qlen p ta tb => Sys2Proof.Machine.execQlen p ta tb s
  | .lnch p ta tb k => Sys2Proof.Machine.execLnch p ta tb k s
  | .sigc p ta tb inc => Sys2Proof.Machine.execSigc p ta tb inc s
  | .waitc p ta tb => Sys2Proof.Machine.execWaitc p ta tb s
  | .bmwait p ta tb off => Sys2Proof.Machine.execBmwait p ta tb off s
  | .lgen p ta tb step lv dpl => Sys2Proof.Machine.execLgen p ta tb step lv dpl s
  | .lgen2 p ta tb step0 step1 lv dpl => Sys2Proof.Machine.execLgen2 p ta tb step0 step1 lv dpl s
  | .spscn p ta tb op lv dpl => Sys2Proof.Machine.execSpscn p ta tb op lv dpl s
  | .rptc p ta tb base cap => Sys2Proof.Machine.execRptc p ta tb base cap s
  | .rpte p ta tb base cap => Sys2Proof.Machine.execRpte p ta tb base cap s
  | .emstp p ta tb lv dpl => Sys2Proof.Machine.execEmstp p ta tb lv dpl s
  | .tkind p ta tb lv test => Sys2Proof.Machine.execTkind p ta tb lv test s
  | .itgate p ta tb vc d lv => Sys2Proof.Machine.execItgate p ta tb vc d lv s
  | .take p ta tb vc => Sys2Proof.Machine.execTake p ta tb vc s
  | .cnttk p ta tb ctr lv dpl => Sys2Proof.Machine.execCnttk p ta tb ctr lv dpl s
  | .seqrd p ta tb => Sys2Proof.Machine.execSeqrd p ta tb s
  | .wgtrd p ta tb => Sys2Proof.Machine.execWgtrd p ta tb s
  | .wgtwr p ta tb => Sys2Proof.Machine.execWgtwr p ta tb s
  | .isgap p ta tb test => Sys2Proof.Machine.execIsgap p ta tb test s
  | .gaprd p ta tb fa fb => Sys2Proof.Machine.execGaprd p ta tb fa fb s
  | .emgap p ta tb => Sys2Proof.Machine.execEmgap p ta tb s
  | .voidr p ta tb => Sys2Proof.Machine.execVoidr p ta tb s
  | .wacc p fs ta tb acc wk wen sat => Sys2Proof.Machine.execWacc p fs ta tb acc wk wen sat s
  | .wincl p fs ta tb zl k sat => Sys2Proof.Machine.execWincl p fs ta tb zl k sat s
  | .joink p fs ta tb vcl vcr k gapemit => Sys2Proof.Machine.execJoink p fs ta tb vcl vcr k gapemit s
  | .wld p fs ta tb bank vc => Sys2Proof.Machine.execWld p fs ta tb bank vc s
  | .wlds p fs ta tb bank => Sys2Proof.Machine.execWlds p fs ta tb bank s
  | .wsel p ta tb bank => Sys2Proof.Machine.execWsel p ta tb bank s
  | .arow p fs ta tb row off => Sys2Proof.Machine.execArow p fs ta tb row off s
  | .adrn p ta tb row clr => Sys2Proof.Machine.execAdrn p ta tb row clr s
  | .azero p ta tb row n => Sys2Proof.Machine.execAzero p ta tb row n s
  | .xfwd p fs ta tb c => Sys2Proof.Machine.execXfwd p fs ta tb c s
  | .xinv p fs ta tb c => Sys2Proof.Machine.execXinv p fs ta tb c s
  | .cmac p fs ta tb => Sys2Proof.Machine.execCmac p fs ta tb s
  | .cmul p fs ta tb => Sys2Proof.Machine.execCmul p fs ta tb s
  | .cconj p fs ta tb => Sys2Proof.Machine.execCconj p fs ta tb s
  | .dtag p ta tb d => Sys2Proof.Machine.execDtag p ta tb d s
  | .xreq p ta tb => Sys2Proof.Machine.execXreq p ta tb s
  | .drvk p ta tb named shelf => Sys2Proof.Machine.execDrvk p ta tb named shelf s
  | .gtatt p ta tb => Sys2Proof.Machine.execGtatt p ta tb s
  | .gtdet p ta tb => Sys2Proof.Machine.execGtdet p ta tb s
  | .gtfld p ta tb => Sys2Proof.Machine.execGtfld p ta tb s
  | .trap p code => Sys2Proof.Machine.execTrap p code s
  | .brk p code => Sys2Proof.Machine.execBrk p code s
  | .ctlrd p ta tb idx => Sys2Proof.Machine.execCtlrd p ta tb idx s
  | .ctlwr p ta tb idx => Sys2Proof.Machine.execCtlwr p ta tb idx s
  | .cntrd p ta tb cnt task other clr => Sys2Proof.Machine.execCntrd p ta tb cnt task other clr s
  | .rand p ta tb => Sys2Proof.Machine.execRand p ta tb s
  | .seed p ta tb => Sys2Proof.Machine.execSeed p ta tb s
  | .timer p ta tb imm => Sys2Proof.Machine.execTimer p ta tb imm s
  | .fwsvc p ta tb svc => Sys2Proof.Machine.execFwsvc p ta tb svc s
  | .dnop => Sys2Proof.Machine.execDnop s
  | .dhalt => Sys2Proof.Machine.execDhalt s
  | .dset gd imm => Sys2Proof.Machine.execDset gd imm s
  | .dadd gd ga src => Sys2Proof.Machine.execDadd gd ga src s
  | .dmov gd ga => Sys2Proof.Machine.execDmov gd ga s
  | .dloop gd src tgt => Sys2Proof.Machine.execDloop gd src tgt s
  | .dnext gd tgt => Sys2Proof.Machine.execDnext gd tgt s
  | .djmp tgt => Sys2Proof.Machine.execDjmp tgt s
  | .djz ga tgt => Sys2Proof.Machine.execDjz ga tgt s
  | .dpat pr dim circ count stride extent start => Sys2Proof.Machine.execDpat pr dim circ count stride extent start s
  | .dpush pr ga gd fmt srcoc dgen dom imm => Sys2Proof.Machine.execDpush pr ga gd fmt srcoc dgen dom imm s
  | .dpull pr ga gd fmt dgen imm => Sys2Proof.Machine.execDpull pr ga gd fmt dgen imm s
  | .dgtld pr ga gd dgen dom imm => Sys2Proof.Machine.execDgtld pr ga gd dgen dom imm s
  | .dgath pr ga gb gd fmt dgen dom imm => Sys2Proof.Machine.execDgath pr ga gb gd fmt dgen dom imm s
  | .dwick tile wicket bind => Sys2Proof.Machine.execDwick tile wicket bind s
  | .dsig ctr inc => Sys2Proof.Machine.execDsig ctr inc s
  | .dwaitc ctr src => Sys2Proof.Machine.execDwaitc ctr src s
  | .dfence scope => Sys2Proof.Machine.execDfence scope s
  | .dfold ga gb => Sys2Proof.Machine.execDfold ga gb s
  | .dcopy pr ga gd fmt imm => Sys2Proof.Machine.execDcopy pr ga gd fmt imm s
  | .dpref pr ga fmt => Sys2Proof.Machine.execDpref pr ga fmt s
  | .dconv src dst mode sat on => Sys2Proof.Machine.execDconv src dst mode sat on s
  | .paddockCreate => Sys2Proof.Machine.execPaddockCreate s
  | .paddockDestroy => Sys2Proof.Machine.execPaddockDestroy s
  | .chargeLoad => Sys2Proof.Machine.execChargeLoad s
  | .queueCreate => Sys2Proof.Machine.execQueueCreate s
  | .queueTeardownDrain => Sys2Proof.Machine.execQueueTeardownDrain s
  | .queueTeardownAbort => Sys2Proof.Machine.execQueueTeardownAbort s
  | .launch => Sys2Proof.Machine.execLaunch s
  | .map => Sys2Proof.Machine.execMap s
  | .unmap => Sys2Proof.Machine.execUnmap s
  | .faultRead => Sys2Proof.Machine.execFaultRead s
  | .faultResume => Sys2Proof.Machine.execFaultResume s
  | .faultRetire => Sys2Proof.Machine.execFaultRetire s
  | .handleCreate => Sys2Proof.Machine.execHandleCreate s
  | .glazeAttach => Sys2Proof.Machine.execGlazeAttach s
  | .glazeDetach => Sys2Proof.Machine.execGlazeDetach s
  | .fold => Sys2Proof.Machine.execFold s
  | .snapshot => Sys2Proof.Machine.execSnapshot s
  | .setTolerance => Sys2Proof.Machine.execSetTolerance s
  | .setTier => Sys2Proof.Machine.execSetTier s
  | .powerReport => Sys2Proof.Machine.execPowerReport s
  | .linkHealth => Sys2Proof.Machine.execLinkHealth s
  | .attest => Sys2Proof.Machine.execAttest s
  | .fwPatch => Sys2Proof.Machine.execFwPatch s
  | .resetPaddock => Sys2Proof.Machine.execResetPaddock s
  | .resetPackage => Sys2Proof.Machine.execResetPackage s
  | .counterSet => Sys2Proof.Machine.execCounterSet s
  | .counterRead => Sys2Proof.Machine.execCounterRead s
  | .powerConfig => Sys2Proof.Machine.execPowerConfig s
  | .snapshotRestore => Sys2Proof.Machine.execSnapshotRestore s
  | .registerWrite => Sys2Proof.Machine.execRegisterWrite s
  | .hostApertureAccess => Sys2Proof.Machine.execHostApertureAccess s
  | .peerAccess => Sys2Proof.Machine.execPeerAccess s
  | .peerLaunchArrival => Sys2Proof.Machine.execPeerLaunchArrival s
  | .powerOn => Sys2Proof.Machine.execPowerOn s
  | .bootComplete => Sys2Proof.Machine.execBootComplete s
  | .fluidDataWrite => Sys2Proof.Machine.execFluidDataWrite s
  | .blockFire => Sys2Proof.Machine.execBlockFire s
  | .instructionComplete => Sys2Proof.Machine.execInstructionComplete s
  | .blockEnd => Sys2Proof.Machine.execBlockEnd s
  | .waitSatisfied => Sys2Proof.Machine.execWaitSatisfied s
  | .timerDeadline => Sys2Proof.Machine.execTimerDeadline s
  | .fwsvcResult => Sys2Proof.Machine.execFwsvcResult s
  | .accessResponse => Sys2Proof.Machine.execAccessResponse s
  | .unitInstall => Sys2Proof.Machine.execUnitInstall s
  | .linkArrival => Sys2Proof.Machine.execLinkArrival s
  | .waitingStopEnters => Sys2Proof.Machine.execWaitingStopEnters s
  | .creditReturn => Sys2Proof.Machine.execCreditReturn s
  | .slotReturnDelayExpiry => Sys2Proof.Machine.execSlotReturnDelayExpiry s
  | .tick => Sys2Proof.Machine.execTick s
  | .rsuFire => Sys2Proof.Machine.execRsuFire s
  | .rsuResult => Sys2Proof.Machine.execRsuResult s
  | .arowConsumed => Sys2Proof.Machine.execArowConsumed s
  | .stuTransformServe => Sys2Proof.Machine.execStuTransformServe s
  | .stuResultWrite => Sys2Proof.Machine.execStuResultWrite s
  | .signalPropagate => Sys2Proof.Machine.execSignalPropagate s
  | .bellRelease => Sys2Proof.Machine.execBellRelease s
  | .bellTimeout => Sys2Proof.Machine.execBellTimeout s
  | .queueRefill => Sys2Proof.Machine.execQueueRefill s
  | .phaseEnd => Sys2Proof.Machine.execPhaseEnd s
  | .contextSwitchComplete => Sys2Proof.Machine.execContextSwitchComplete s
  | .launchPick => Sys2Proof.Machine.execLaunchPick s
  | .launchReservation => Sys2Proof.Machine.execLaunchReservation s
  | .launchStart => Sys2Proof.Machine.execLaunchStart s
  | .kilnComplete => Sys2Proof.Machine.execKilnComplete s
  | .quantumExpiry => Sys2Proof.Machine.execQuantumExpiry s
  | .raddleSeal => Sys2Proof.Machine.execRaddleSeal s
  | .snapshotTaskSave => Sys2Proof.Machine.execSnapshotTaskSave s
  | .snapshotDeadline => Sys2Proof.Machine.execSnapshotDeadline s
  | .droveListStart => Sys2Proof.Machine.execDroveListStart s
  | .pushResume => Sys2Proof.Machine.execPushResume s
  | .btuCopy => Sys2Proof.Machine.execBtuCopy s
  | .btuCopyComplete => Sys2Proof.Machine.execBtuCopyComplete s
  | .foldComplete => Sys2Proof.Machine.execFoldComplete s
  | .memoryTilePort => Sys2Proof.Machine.execMemoryTilePort s
  | .migrationEpoch => Sys2Proof.Machine.execMigrationEpoch s
  | .scrub => Sys2Proof.Machine.execScrub s
  | .capCompute => Sys2Proof.Machine.execCapCompute s
  | .capClamp => Sys2Proof.Machine.execCapClamp s
  | .fluxLimit => Sys2Proof.Machine.execFluxLimit s
  | .clampRelease => Sys2Proof.Machine.execClampRelease s
  | .thermalTrip => Sys2Proof.Machine.execThermalTrip s
  | .tripClear => Sys2Proof.Machine.execTripClear s
  | .railFault => Sys2Proof.Machine.execRailFault s
  | .inputRange => Sys2Proof.Machine.execInputRange s
  | .converterTemp => Sys2Proof.Machine.execConverterTemp s
  | .converterShutdown => Sys2Proof.Machine.execConverterShutdown s
  | .powerStateChange => Sys2Proof.Machine.execPowerStateChange s
  | .flitReplay => Sys2Proof.Machine.execFlitReplay s
  | .healthWindow => Sys2Proof.Machine.execHealthWindow s
  | .portRetrainAttempt => Sys2Proof.Machine.execPortRetrainAttempt s
  | .migrationComplete => Sys2Proof.Machine.execMigrationComplete s
  | .peerAcknowledges => Sys2Proof.Machine.execPeerAcknowledges s

end Sys2Proof.Machine
end

