-- ==== Sys2Proof/Machine/Schedule.lean ====
section
/-! DEFINITION. What the machine does next (notes/assumptions 3 and 5): the events that are due at an instant in the order of
their phases, the fetch of a tile's next instruction, a drover's next command and a command entry, and the advance of time when
nothing is due. -/

namespace Sys2Proof.Machine

/-- What a step does: execute a row of the table at a state whose cursor names what it acts on; a step of firmware or of time that
is no row; or meet a fetched word that decodes to nothing. -/
inductive Act where
  | run (i : Instr) (s : State)
  | silent (s : State)
  | illegal

/-- Execute a row with a cursor. -/
def State.doAt (s : State) (i : Instr) (c : Cursor) : Act := .run i { s with cursor := c }

/-! Inputs and firmware. -/

/-- The oldest input that has arrived.
(DESIGN CHOICE, log 99.) -/
def State.inputAct (s : State) : Option Act :=
  match s.inbox with
  | [] => none
  | i :: r => some ({ s with inbox := r }.doAt i.row (.input i))

/-- The entry at the command ring's head (R369). -/
def State.commandEntry (s : State) : Rec8 :=
  Rec8.ofNat (s.num (hostPa (s.cmdBase.toNat + 64 * (s.cmdHead % 2 ^ s.cmdSize))) 64)

/-- Whether an entry is a LAUNCH of this package to a queue. -/
def launchesTo (e : Rec8) (q : Nat) : Bool := cmdCode e == 0x06 && !e.w3.getLsbD 4 && e.w1.toNat == q

/-- Whether a command that has begun and not completed keeps the next from beginning (R370): a FAULT_RESUME, or a QUEUE_TEARDOWN, but for
what R391 and R393 let begin meanwhile: a LAUNCH to the closed queue, and any command while a kiln of that queue, or a completion word
of it, waits for FAULT_RESUME.
(DEDUCED, log 75.) -/
def State.holdsRing (s : State) (o : Outstanding) : Bool :=
  match o with
  | .resume _ _ => true
  | .teardown _ q _ =>
    !(s.kilns.any fun k => k.queue == q && s.needsResume k) && !(s.heldWords.any fun h => (h.launch :: h.rest).any fun x => x.queue == q) &&
    !launchesTo s.commandEntry q
  | .snapshot _ _ | .peerLaunch _ _ _ _ _ _ _ => false

/-- Whether firmware may read the command ring: it has booted, an entry stands there, and no command that has begun holds the ring (R369,
R370, R429). -/
def State.commandDue (s : State) : Bool :=
  s.boot == .ready && s.cmdHead % 2 ^ s.cmdSize != s.cmdTail % 2 ^ s.cmdSize && !s.outstanding.any s.holdsRing

/-- Firmware: commands whose waits are over complete, then the next entry is read; one whose CODE names no command completes
BADPARAM.
(DEDUCED, log 98.) -/
def State.firmwareAct (s : State) : Option Act :=
  if s.outstanding.any s.resumeDone then some (.silent (s.commit { s with wlog := [] }.completeResumes))
  else if s.commandDue then
    let e := s.commandEntry
    let t := { s with cmdHead := (s.cmdHead + 1) % 2 ^ 16 }
    match decodeCommand e with
    | some i => some (t.doAt i (.command e))
    | none => some (.silent (s.commit ({ t with wlog := [] }.badParam e)))
  else if s.bootEnds then some (s.doAt .bootComplete .idle)
  else none

/-! Accesses and engines. -/

def State.accessAct (s : State) : Option Act :=
  (s.accs.find? s.accReady).map fun a => s.doAt .accessResponse (.kiln a.kiln a.id)

/-- A running list: a push whose window has opened, or its next command once it has been read (R338, R395). -/
def State.listAct (s : State) (d : DroverSt) (c : DCtx) : Option Act :=
  if !s.listReady c then none
  else if c.l.waits then
    if s.pushResumes c then some (s.doAt .pushResume (.die d.die d.slice 0)) else none
  else
    match s.droverNext c with
    | .none_ s' => some (.silent (s.commit s'))
    | .cmd i s' =>
      match c.l.ref, c.l.word with
      | .va _, none => some (.silent (s.commit s'))
      | _, _ => if s.listWaits c i then none else some ((s.commit s').doAt i (.die d.die d.slice 0))

def State.droverAct (s : State) : Option Act :=
  s.drovers.findSome? fun d =>
    match s.dctx? d.die d.slice with
    | some c => s.listAct d c
    | none => if s.listStarts d then some (s.doAt .droveListStart (.die d.die d.slice 0)) else none

def State.copyAct (s : State) : Option Act :=
  s.btus.findSome? fun b => b.copies.findSome? fun c =>
    match s.kiln? c.kiln with
    | none => none
    | some k =>
      let a : BtuAt := ⟨b, c, k⟩
      if s.copyBegins a then some (s.doAt .btuCopy (.die b.die b.shelf c.id))
      else if s.copyLands a then some (s.doAt .btuCopyComplete (.die b.die b.shelf c.id))
      else none

def State.foldAct (s : State) : Option Act := (s.folds.find? s.foldReady).map fun j => s.doAt .foldComplete (.item j.id)

/-! Events of a kiln whose times have come. -/

/-- The first number below `n` at which a row is due. -/
def firstBelow (n : Nat) (p : Nat → Bool) : Option Nat := (List.range n).find? p

def State.timedAct (s : State) (k : Kiln) : Option Act :=
  let at_ := fun (i : Instr) (n : Nat) => s.doAt i (.kiln k.id n)
  let link := fun (p : LinkSt → Bool) => firstBelow k.links.length fun n => (k.links[n]?).any p
  if !k.clocked s.now then none
  else
    ((firstBelow k.rsus.length fun n => (k.rsus[n]?).any fun r => k.rsuLeaves r s.now).map (at_ .rsuResult)).orElse fun _ =>
    ((firstBelow k.bells.length fun n => k.runs s.now && ((k.bells[n]?).bind (s.releaseDue k)).isSome).map (at_ .bellRelease)).orElse fun _ =>
    (if k.sigWrites.any (k.signalsDue s.now) then some (at_ .signalPropagate 0) else none).orElse fun _ =>
    ((link fun l => l.returning.any fun x => k.begun s.now l.cfg.src x).map (at_ .creditReturn)).orElse fun _ =>
    ((link fun l => l.delays.any fun x => k.begun s.now l.cfg.dst x.due).map (at_ .slotReturnDelayExpiry)).orElse fun _ =>
    (if k.snap.isSome then link fun l => !l.sealed && l.raddled s.now else none).map (at_ .raddleSeal)

/-! Tiles. -/

/-- Whether a kiln's cycles that begin at this instant have come to their arrivals: what its tiles would do later at this instant waits
for their next cycles, so that every dequeue of a cycle comes before its arrivals (R70, R74). -/
def Kiln.pastWork (k : Kiln) (now : Nat) : Bool := k.arrivalsAt == some now

/-- The tiles whose cycle begins at this instant. -/
def State.liveTiles (s : State) : List (Kiln × TileSt) :=
  s.kilns.flatMap fun k =>
    if k.runs s.now && !k.pastWork s.now then (k.tiles.filter fun t => t.cycAt == s.now).map fun t => (k, t) else []

/-- The instruction that a tile issues next on a plane (R32). -/
def State.tileIssue (s : State) (k : Kiln) (t : TileSt) (plane : Bool) : Option Act :=
  if (if plane then t.dataIssued else t.ctlIssued) then none
  else
    match s.nextIssue k t plane with
    | none => none
    | some (task, slot, some i) => some (s.doAt i (.tile k.id t.id task slot))
    | some (_, _, none) => some .illegal

def State.issueAct (s : State) (plane : Bool) : Option Act := s.liveTiles.findSome? fun x => s.tileIssue x.1 x.2 plane

def State.fireAct (s : State) : Option Act :=
  s.liveTiles.findSome? fun x => (s.nextToFire x.1 x.2).map fun task => s.doAt .blockFire (.tile x.1.id x.2.id task 0)

/-- The issued instructions of the tiles whose cycle begins now. -/
def State.liveWork (s : State) : List Where :=
  s.liveTiles.flatMap fun x => x.2.execs.flatMap fun e => e.pend.map fun p => ⟨x.1, x.2, e, p⟩

/-- An event of an issued instruction. -/
def State.doWhere (s : State) (i : Instr) (w : Where) : Act := s.doAt i (.tile w.k.id w.t.id w.x.task w.p.slot)

/-- Of a list, the least under a key. -/
def leastBy {α : Type} (key : α → Nat) (xs : List α) : Option α :=
  xs.foldl (fun b x => match b with
    | some y => if key x < key y then some x else b
    | none => some x) none

/-- The instructions that may act on a queue at this instant, in whatever cycle of their tiles. -/
def State.queueWork (s : State) : List Where :=
  s.kilns.flatMap fun k => k.tiles.flatMap fun t => t.execs.flatMap fun e =>
    (e.pend.map fun p => (⟨k, t, e, p⟩ : Where)).filter fun w => w.p.work.isQueue && s.actsNow w && s.workReady w

/-- The results that the STUs write at this instant (R136), each with the number of its instruction in issue order. -/
def State.stuResults (s : State) : List (Nat × Act) :=
  s.kilns.flatMap fun k =>
    if !k.runs s.now || k.pastWork s.now then []
    else (k.stus.filter fun x => s.stuWrites k (k.stu x.shelf)).map fun x =>
      ((((k.stu x.shelf).serving.bind (s.stuWork k.id)).map fun w => w.p.no).getD 0, s.doAt .stuResultWrite (.kiln k.id x.shelf))

def Work.isWadv : Work → Bool
  | .wadv _ _ _ => true
  | _ => false

/-- When a WAITC load began to wait (R285). -/
def Work.since : Work → Nat
  | .scratch _ _ _ _ n => n
  | _ => 0

/-- Waiting instructions whose conditions are met, and results of the STUs, in the order of R285 and R357: of tile stores, the STUs'
among them, the one issued first. -/
def State.waitAct (s : State) : Option Act :=
  let ready := s.liveWork.filter fun w => !w.p.work.isQueue && s.workReady w
  let step := fun n => ready.filter fun w => w.p.work.granuleStep == n
  let pick := fun (w : Option Where) => w.map (s.doWhere .waitSatisfied)
  let rank := fun (w : Where) => ((((if w.p.work.isPop then 0 else 4) + w.k.die) * 2 ^ 13 + w.t.id) * 8 + w.x.task) * 2 ^ 40 + w.p.no
  (pick ((step 0).find? fun w => w.p.work.isWadv)).orElse fun _ =>
  (pick (step 0).head?).orElse fun _ =>
  (pick (step 1).head?).orElse fun _ =>
  (pick (leastBy (fun w => w.p.work.since * 8 + w.x.task) (step 2))).orElse fun _ =>
  ((leastBy Prod.fst (((step 3).map fun w => (w.p.no, s.doWhere .waitSatisfied w)) ++ s.stuResults)).map Prod.snd).orElse fun _ =>
  pick (leastBy rank s.queueWork)

/-- Instructions that send or complete, in issue order; deadlines and answers. -/
def State.completeAct (s : State) : Option Act :=
  let all := s.liveWork
  ((leastBy (fun (w : Where) => w.p.no) (all.filter fun w => State.lateReady w || w.k.settles w.t w.p)).map
    (s.doWhere .instructionComplete)).orElse fun _ =>
  ((all.find? State.timerReady).map (s.doWhere .timerDeadline)).orElse fun _ =>
  (all.find? s.svcReady).map (s.doWhere .fwsvcResult)

def State.endAct (s : State) : Option Act :=
  s.liveTiles.findSome? fun x => (x.2.execs.find? fun e => s.ends x.1 x.2 e).map fun e => s.doAt .blockEnd (.tile x.1.id x.2.id e.task 0)

/-- Whether an AROW's consumed event, or one of its group adds, is due. -/
def arowDue (w : Where) : Bool :=
  match w.p.work with
  | .arow row _ fmt _ _ got c sums => arowAddReady w row fmt got c sums
  | _ => false

def State.arowAct (s : State) : Option Act := (s.liveWork.find? arowDue).map (s.doWhere .arowConsumed)

/-- The STU's reads (R136). -/
def State.stuAct (s : State) : Option Act :=
  s.kilns.findSome? fun k =>
    if !k.runs s.now || k.pastWork s.now then none
    else (k.stus.find? fun x => k.stuReads (k.stu x.shelf) s.now).map fun x => s.doAt .stuTransformServe (.kiln k.id x.shelf)

/-! The fabric. -/

/-- The tails and tick sources: after the dequeues of the cycle (R70), waiting stops enter, then tokens and ticks arrive. The first of
these ends the work of the kiln's tiles at this instant. -/
def State.fabricAct (s : State) : Option Act :=
  s.kilns.findSome? fun k =>
    let s := s.modKiln k.id fun kl => { kl with arrivalsAt := some s.now }
    let link := fun (i : Instr) (p : LinkSt → Bool) => (firstBelow k.links.length fun n => (k.links[n]?).any p).map fun n => s.doAt i (.kiln k.id n)
    if !k.clocked s.now then none
    else
      ((firstBelow k.rsus.length fun n => (k.rsus[n]?).any fun r => k.rsuFires r s.now).map fun n => s.doAt .rsuFire (.kiln k.id n)).orElse fun _ =>
      (link .waitingStopEnters fun l => !l.waiting.isEmpty && l.occupancy < l.cfg.slots).orElse fun _ =>
      (link .linkArrival (k.arrives s.now)).orElse fun _ =>
      ((k.tiles.find? fun t => t.cycAt == s.now && t.tick.any fun x => x.due t.cyc)).map fun t => s.doAt .tick (.tile k.id t.id 0 0)

/-- A memory tile's ports: the write side takes (0), the read side sends (1). -/
def State.portAct (s : State) : Option Act :=
  s.liveTiles.findSome? fun x =>
    if s.portTakes x.1 x.2 then some (s.doAt .memoryTilePort (.tile x.1.id x.2.id 0 0))
    else if (s.portSends x.1 x.2).isSome then some (s.doAt .memoryTilePort (.tile x.1.id x.2.id 1 0))
    else none

def State.unitAct (s : State) : Option Act :=
  (s.kilns.find? fun k => !(s.unitsDue k).isEmpty).map fun k => s.doAt .unitInstall (.kiln k.id 0)

def State.refillAct (s : State) : Option Act :=
  (s.queues.find? fun q => q.mayRefill s.now && (s.refill q.index).isSome).map fun q => s.doAt .queueRefill (.item q.index)

/-- Tasks and memory tiles that save for a snapshot (R58). -/
def State.saveAct (s : State) : Option Act :=
  s.liveTiles.findSome? fun x =>
    if x.1.snap.isNone then none
    else if x.2.id % 128 < 64 then
      (firstBelow 8 fun task => (x.2.task task).stat != .absent && s.taskSaves x.1 x.2 task).map fun task =>
        s.doAt .snapshotTaskSave (.tile x.1.id x.2.id task 0)
    else if x.1.memSaves x.2 then some (s.doAt .snapshotTaskSave (.tile x.1.id x.2.id 0 0))
    else none

/-! Kilns, launches, power, migration. -/

/-- Whether a bell generation has timed out now (R389). -/
def State.bellLate (s : State) (b : BellSt) : Bool :=
  !b.timedOut && b.opened.any fun o => o.2.2 + queueCycle * b.timeout ≤ s.now

def State.kilnAct (s : State) : Option Act :=
  s.kilns.findSome? fun k =>
    let at_ := fun (i : Instr) (n : Nat) => s.doAt i (.kiln k.id n)
    let when_ := fun (b : Bool) (i : Instr) => if b then some (at_ i 0) else none
    (if k.awake s.now then (firstBelow k.bells.length fun n => (k.bells[n]?).any s.bellLate).map (at_ .bellTimeout) else none).orElse fun _ =>
    (when_ (s.completes k) .kilnComplete).orElse fun _ =>
    (when_ (s.phaseEnds k) .phaseEnd).orElse fun _ =>
    (when_ (s.switchDone k).isSome .contextSwitchComplete).orElse fun _ =>
    (when_ (s.snapLate k) .snapshotDeadline).orElse fun _ =>
    (when_ (s.startsNow k) .launchStart).orElse fun _ =>
    when_ (s.quantumEnds k) .quantumExpiry

def State.launchAct (s : State) : Option Act :=
  (s.dies.find? fun d => (s.pick d.index).isSome).map (fun d => s.doAt .launchPick (.die d.index 0 0)) |>.orElse fun _ =>
  s.dies.findSome? fun d =>
    ((s.heads d.index).find? fun h => (s.reservable d.index h).isSome).map fun h => s.doAt .launchReservation (.die d.index h.queue 0)

/-- A migration whose copy is over: accesses that waited for the frame go on at this instant. -/
def State.moveAct (s : State) : Option Act :=
  (s.migrations.find? fun m => m.doneAt ≤ s.now).map fun m => s.doAt .migrationComplete (.item m.id)

def State.upkeepAct (s : State) : Option Act :=
  ((s.dies.find? fun d => s.epochEnds d.index).map fun d => s.doAt .migrationEpoch (.die d.index 0 0)).orElse fun _ =>
  (s.dies.findSome? fun d => (firstBelow 72 fun i => s.shelfChanges d.index i).map fun i => s.doAt .powerStateChange (.die d.index i 0)).orElse fun _ =>
  if s.boot == .ready && s.power != 3 && s.power != s.packageWants then some (s.doAt .powerStateChange (.item 0)) else none

/-- A kiln whose present cycle is over freezes (R53, R385).
(DEDUCED, log 78.) -/
def State.freezeAct (s : State) : Option Act :=
  (s.kilns.find? fun k => match k.stat with
    | .freezing _ _ => true
    | _ => false).map fun k => .silent (s.commit ({ s with wlog := [] }.freezeNow k.id))

/-! Time. -/

/-- The times at which something of a kiln may be due. -/
def State.kilnTimes (s : State) (k : Kiln) : List Nat :=
  (match k.stat with
   | .starting t => [t]
   | .switching t _ => [t]
   | .running => [k.quantumAt + s.quantumOf k.paddock]
   | _ => []) ++
  (if k.awake s.now then k.bells.flatMap fun b => b.opened.toList.map fun o => o.2.2 + queueCycle * b.timeout else []) ++
  (if k.clocked s.now then
    k.tiles.map TileSt.cycAt ++
    k.drainedAt.toList.map (fun t => t + 16 * queueCycle) ++ k.snap.toList.map SnapRun.deadline
   else [])

/-- Whether a queue may act as its next cycle begins: it holds records in its ring or has moved in the present cycle, or an instruction
waits for it. -/
def State.queueTurns (s : State) : Bool :=
  (s.queues.any fun q => q.count > 0 || (q.cycNo == s.now / queueCycle && q.addedNow + q.freedNow > 0)) ||
  (s.kilns.any fun k => k.runs s.now && k.tiles.any fun t => t.execs.any fun e => e.pend.any fun p => p.work.isQueue)

/-- The next time at which something may be due. -/
def State.nextTime (s : State) : Option Nat :=
  let cand :=
    s.kilns.flatMap s.kilnTimes ++ s.accs.map Acc.ready ++ (s.drovers.flatMap fun d => d.run.toList.map DList.at_) ++
    (s.btus.flatMap fun b => b.copies.map BtuCopy.at_) ++ s.folds.map FoldJob.at_ ++ s.migrations.map Migration.doneAt ++
    (match s.boot with
     | .booting t => [t]
     | .bootOk => []
     | .ready => s.dies.map fun d => d.epochAt + tMs
     | .off => []) ++
    (if s.queueTurns then [(s.now / queueCycle + 1) * queueCycle] else []) ++
    s.dies.flatMap fun d => (s.heads d.index).map fun h => h.since + 2 * s.quantumOf h.paddock + 1
  (cand.filter fun t => s.now < t).foldl (fun (b : Option Nat) t => match b with
    | some x => some (min x t)
    | none => some t) none

/-- Nothing is due at this instant: the cycles that began at it end, its fault records are put in order (R390, R419), and time goes on; where nothing ever will be due, time
stands.
(DESIGN CHOICE, log 100.) -/
def State.advance (s : State) : State :=
  let s := (s.kilns.filter fun k => k.clocked s.now).foldl (fun (s : State) k => s.cycleEnd k.id) s
  let s := { s with dies := s.dies.map DieSt.sortNew }
  match s.nextTime with
  | some t => { s with now := t }
  | none => s

/-- What comes before the tiles' own work in an instant. -/
def State.earlyAct (s : State) : Option Act :=
  s.inputAct.orElse fun _ => s.firmwareAct.orElse fun _ => s.moveAct.orElse fun _ => s.accessAct.orElse fun _ => s.droverAct.orElse fun _ =>
  s.copyAct.orElse fun _ => s.foldAct.orElse fun _ => s.kilns.findSome? s.timedAct

/-- What comes after the tiles have issued: every dequeue of the cycle before its arrivals (R70, R74). -/
def State.lateAct (s : State) : Option Act :=
  s.fireAct.orElse fun _ => s.stuAct.orElse fun _ => s.waitAct.orElse fun _ => s.arowAct.orElse fun _ =>
  s.completeAct.orElse fun _ => s.endAct.orElse fun _ => s.portAct.orElse fun _ => s.saveAct.orElse fun _ =>
  s.refillAct.orElse fun _ => s.fabricAct.orElse fun _ => s.unitAct.orElse fun _ =>
  s.kilnAct.orElse fun _ => s.launchAct.orElse fun _ => s.upkeepAct.orElse fun _ => s.freezeAct

/-- What the machine does next.
(DESIGN CHOICE, log 3.) -/
def State.act (s : State) : Act :=
  (s.earlyAct.orElse fun _ => (s.issueAct false).orElse fun _ => (s.issueAct true).orElse fun _ => s.lateAct).getD
    (.silent (s.commit { s with wlog := [] }.advance))

/-! Units of storage that cannot be installed yet. -/

/-- A step from `s` that comes to `t`: where it would have reached a unit that cannot be installed, it has not taken place, and its
kiln waits (R56, R57). -/
def State.endStep (s t : State) : State :=
  match t.unitMiss with
  | none => t
  | some m => if (s.kiln? m.kiln).any Kiln.holdable then s.commit ({ s with wlog := [] }.pause m) else { t with unitMiss := none }

/-! Placing an instruction where the next step fetches. -/

/-- Write bytes into memory. -/
def putBytes (m : List Host.Cell) (a : Nat) : List Byte → List Host.Cell
  | [] => m
  | b :: r => putBytes (Mem.write m a b) (a + 1) r

/-- A state in which nothing from before comes first: no input, no waiting command, no access, list, copy or kiln. -/
def State.cleared (s : State) : State :=
  { s with inbox := [], outstanding := [], boot := .off, accs := [], drovers := [], btus := [], folds := [], kilns := [], queues := [], wlog := [] }

/-- A running kiln of one tile in which block 0 of task 0 fired in the cycle before; nothing names a position. -/
def State.bareKiln (s : State) : Kiln where
  id := 1
  charge := 1
  paddock := 0
  queue := 0
  record := ⟨0, 0, 0, 0, 0, 0, 0, 0⟩
  cols := 1
  rows := 1
  stat := .running
  place := some (0, 0, 0)
  lastPlace := none
  ctx := 0
  ctxAt := s.now
  race := false
  origin := s.now
  signals := 0
  sigWrites := []
  bells := []
  counters := List.replicate 8 0
  tiles := [{ TileSt.fresh 0 s.now with
    cyc := 1
    nextNo := 1
    tasks := { TaskSt.blank with stat := .active } :: List.replicate 7 TaskSt.blank
    execs := [⟨0, 0, 0, 0, [], [], [], [], none, none⟩] }]
  argq := []
  links := []
  sinks := []
  drainedAt := none
  rsus := []
  stus := []
  quantumAt := s.now
  resident := 0
  startedAt := 1
  throttle := 0
  frozenAt := 0
  waitAt := 0
  stops := []
  lists := []
  copies := []
  snap := none
  saveSlots := []
  savedUnits := []
  restored := none
  paused := none
  switchLeft := none
  arrivalsAt := none

/-- An image of one drove list and nothing else. -/
def Image.ofList (cmd : Nat) : Image where
  cols := 1
  rows := 1
  ctxs := 1
  raceMode := false
  signed := false
  readout := 0
  next := List.replicate 64 0
  bells := []
  aliases := []
  args := []
  sinks := []
  tiles := []
  mtiles := []
  wickets := []
  links := []
  ticks := []
  code := []
  images := []
  lists := [⟨true, 0, [cmd]⟩]

/-- The state with a tile instruction in block 0, slot 0 of a running tile. -/
def State.withTileWord (s : State) (w : Nat) : State :=
  let s := s.cleared
  let k := s.bareKiln
  let m := putBytes s.mem (k.pa 0 4 0) (leBytes 8 w)
  { s with mem := putBytes m (k.pa 0 4 0x4000) (leBytes 16 (0xB * 2 ^ 124)), kilns := [k] }

/-- The state with a drove-list command as the only one of a list that a drover runs. -/
def State.withListCommand (s : State) (w : Nat) : State :=
  let s := s.cleared
  { s with
    kilns := [{ s.bareKiln with tiles := [] }]
    charges := [⟨1, 0, false, Image.ofList w⟩]
    drovers := [⟨0, 0, some (DList.start 1 0 (.charge 0) (List.replicate 6 0) []), []⟩] }

/-- The state with a command entry at the head of the command ring. -/
def State.withCommand (s : State) (w : Nat) : State :=
  let s := s.cleared
  { s with
    boot := .ready, cmdBase := 0, cmdSize := 6, cmdHead := 0, cmdTail := 1
    mem := putBytes s.mem (hostPa 0) (leBytes 64 w) }

end Sys2Proof.Machine
end

