-- ==== Sys2Proof/Machine/Step.lean ====
section
/-! DEFINITION. One step of the machine, and where it fetches its next instruction. -/

namespace Sys2Proof.Machine

/-- A step's outcome, once it is known that every unit of storage it reached could be installed (R56). -/
def State.settled (s : State) : Host.Outcome State Fault Refusal → Host.Outcome State Fault Refusal
  | .next t => .next (s.endStep t)
  | o => o

/-- One step: the next due row of the opcode table is executed, or firmware or time moves on.
(DESIGN CHOICE, log 5.) -/
def step (s : State) : Host.Outcome State Fault Refusal :=
  match s.act with
  | .run i t => s.settled (exec i t)
  | .silent t => .next (s.endStep t)
  | .illegal => .fault .illegalWord

/-- `s` with the instruction of `nbits` bits `w` where the next step fetches: a tile's next slot, a drover's next command, or the
head of the command ring.
(DESIGN CHOICE, log 22.) -/
def State.withFetchWord (s : State) (nbits w : Nat) : State :=
  if nbits ≤ 64 then s.withTileWord (w % 2 ^ nbits)
  else if nbits ≤ 128 then s.withListCommand (w % 2 ^ nbits)
  else s.withCommand (w % 2 ^ nbits)

end Sys2Proof.Machine
end

