-- ==== Sys2Proof/Safety.lean ====
section
/-! DEFINITION. What a state must satisfy for claims to speak of it, and the words in which claims speak of a step: an
instruction that acts or is nullified, and the next state in which it stands recorded as issued. -/

namespace Sys2Proof

/-- Memory lists addresses in strictly rising order and no zero, and the store log of the step under way is empty. -/
def StateInv (s : Machine.State) : Prop := Machine.Mem.wf s.mem = true ∧ s.wlog = []

namespace Machine

/-- The cursor names the context `c`, and PM lets the instruction act (R31). -/
def State.Acts (s : State) (c : Ctx) (p : Pred) : Prop := s.ctx? = some c ∧ c.nullified p = false

/-- The cursor names the context `c`, and PM nullifies the instruction (R31). -/
def State.Nulls (s : State) (c : Ctx) (p : Pred) : Prop := s.ctx? = some c ∧ c.nullified p = true

/-- The state as a step's effect finds it: nothing stored yet. -/
def State.begun (s : State) : State := { s with wlog := [] }

/-- The next state of an instruction that made `s1` of the state and whose issue `i` is recorded. -/
def State.issuedFrom (s s1 : State) (c : Ctx) (plane : Bool) (ta tb : Target) (i : Issue) : State :=
  s.commit (s1.issued c plane ta tb i)

/-- The next state of an instruction that does nothing but record its issue. -/
def State.issuing (s : State) (c : Ctx) (plane : Bool) (ta tb : Target) (i : Issue) : State :=
  s.issuedFrom s.begun c plane ta tb i

/-- The next state of an instruction of the control plane that sends one token to both targets after a latency (R224, R225). -/
def State.sends (s : State) (c : Ctx) (lat : Nat) (ta tb : Target) (x : Tok) : State := s.issuing c false ta tb (c.emit lat ta tb x)

/-- The same for the data plane. -/
def State.sendsData (s : State) (c : Ctx) (lat : Nat) (ta tb : Target) (x : Tok) : State := s.issuing c true ta tb (c.emit lat ta tb x)

/-- What an issue leaves under way in its slot: its results, each ob after the accesses that the issue names. -/
def Ctx.pending (c : Ctx) (ta tb : Target) (i : Issue) : Pending where
  slot := c.slot
  no := c.t.nextNo
  ta := ta
  tb := tb
  sends := i.sends.map fun x => { x with tok := x.tok.withDeps (x.tok.deps ++ i.deps).eraseDups }
  flags := i.fl.fp
  sat := i.fl.sat
  doneAt := i.doneAt
  deps := i.deps
  work := i.work
  next := i.next

/-- A stall counter of a task of the tile; 0 for an index that has no task (R245). -/
def Ctx.stall (c : Ctx) (task n : Nat) : Word :=
  if (c.t.task task).stat == .absent then 0 else BitVec.ofNat 64 ((c.t.task task).stalls.getD n 0)

/-- Words `i` and `i + 1` of the draw at a task's generator (R101, R246). -/
def randHalf (x : TaskSt) (i : Nat) : Word :=
  let w := philox x.seedKey x.genCtr
  BitVec.ofNat 64 (w.getD i 0 + 2 ^ 32 * w.getD (i + 1) 0)

/-- Every data token at the positions given is a record of the given DOMAIN (R131, R253); a position that nothing names reads
as a record of payload 0. -/
def Ctx.Records (c : Ctx) (dom : Bool) (ps : List Pos) : Prop :=
  ∀ q ∈ ps, ∀ x : DTok, c.at q = some (.data x) → x.isRecord = true ∧ x.domain = dom

/-- The issue of a lane computation: a record of the payload to both targets, with the flags (R253, R254). -/
def Ctx.lanesOut (c : Ctx) (lat : Nat) (ta tb : Target) (dom : Bool) (r : Payload × Fl) : Issue :=
  { c.emit lat ta tb (.data (DTok.record r.1 dom)) with fl := r.2 }

/-- The payload and the flags of lane results. -/
def ofLanesFl (w : Nat) (rs : List (Nat × Fl)) : Payload × Fl := (ofLanes w (foldFlags rs).1, (foldFlags rs).2)

/-- The next state of a lane computation of DOMAIN 0. -/
def State.lanesDone (s : State) (c : Ctx) (lat : Nat) (ta tb : Target) (r : Payload × Fl) : State :=
  s.issuing c true ta tb (c.lanesOut lat ta tb false r)

/-- The next state of an instruction whose lanes draw `n` values. -/
def State.lanesDrawn (s : State) (c : Ctx) (lat : Nat) (ta tb : Target) (n : Nat) (r : Payload × Fl) : State :=
  s.issuing c true ta tb { c.lanesOut lat ta tb false r with tsk := c.drawn n }

/-- The issue of an instruction that waits: nothing is sent, its work goes on from a cycle. -/
def Ctx.waits (c : Ctx) (w : Work) (next : Nat) : Issue := { c.nothing with work := w, next := next }

/-- The tokens that a generator sends to TGA in at most `fuel` actions, and its last token, to TGB. -/
def Work.stream : Nat → Work → Option (List Tok × Tok)
  | 0, _ => none
  | fuel + 1, w =>
    match w.genStep with
    | some (.send x rest) => (Work.stream fuel rest).map fun r => (x :: r.1, r.2)
    | some (.done x) => some ([], x)
    | none => none

end Machine

end Sys2Proof
end

