-- ==== Sys2Proof/Certificates/Slice0/Obligations.lean ====
section
/-! DEFINITION. The statements for the provers. Those of one instruction say the next state it answers, for every state
whose cursor names its context and every operand: `State.issuing` is that state, and `IssueFrame` says all that recording an
issue changes. -/

open Sys2Proof Sys2Proof.Machine

/-! Memory, reset, invariant. -/

/-- What the spec fixes of the state at reset: nothing booted, no paddock, queue, kiln or charge; ring sizes of 2^6 entries
(R368); FRAC 500 and every die's cap 1,200 W (R378); the migration threshold 1,024 of every die (R160). -/
def Obligations.ResetValues : Prop :=
  State.reset.boot = .off ∧ State.reset.cmdSize = 6 ∧ State.reset.cplSize = 6 ∧
  State.reset.frac = 500 ∧ (∀ d ∈ State.reset.dies, d.threshold = 1024 ∧ d.capMw = 1200000) ∧
  State.reset.dies.map DieSt.index = [0, 1, 2, 3] ∧
  State.reset.paddocks = [] ∧ State.reset.queues = [] ∧ State.reset.kilns = [] ∧ State.reset.charges = []

/-- The invariant holds at reset. -/
def Obligations.ResetInvariant : Prop := StateInv State.reset

/-- Every step keeps the invariant: memory stays in its canonical form, and no store of the step is left outside it. -/
def Obligations.StepKeepsInvariant : Prop :=
  ∀ s t : State, StateInv s → step s = .next t → StateInv t

/-- Memory in canonical form: a byte written is read back and every other byte is untouched; and memories that read alike
are the same data. -/
def Obligations.MemoryLaws : Prop :=
  (∀ (m : List Host.Cell) (a : Nat) (b : Byte), Mem.wf m = true →
      ∀ x : Nat, Mem.read (Mem.write m a b) x = if x = a then b else Mem.read m x) ∧
  (∀ m n : List Host.Cell, Mem.wf m = true → Mem.wf n = true → (∀ a : Nat, Mem.read m a = Mem.read n a) → m = n)

/-- A step's stores reach memory byte by byte: after it every byte is what the step's own reads saw at its end. -/
def Obligations.CommitReadsAsStep : Prop :=
  ∀ (s t : State) (a : Nat), Mem.wf s.mem = true → t.mem = s.mem → (s.commit t).byte a = t.byte a

/-! Encodings. -/

/-- For every well-formed tile instruction, with every operand at every value its encoding admits, the word that the encoder
gives has 64 bits and decodes to that instruction. -/
def Obligations.TileEncodeDecode : Prop :=
  ∀ (i : Instr) (w : Nat), i.wellFormed = true → encodeTile i = some w → w < 2 ^ 64 ∧ decodeTileNat w = .ok i

/-- The same for every well-formed drove-list command and its 128 bits. -/
def Obligations.DroveEncodeDecode : Prop :=
  ∀ (i : Instr) (w : Nat), i.wellFormed = true → encodeDrove i = some w → w < 2 ^ 128 ∧ decodeDroveNat w = .ok i

/-- A word with a reserved OP byte is refused as such, whatever its other bits are (R220, R221). -/
def Obligations.ReservedOpcodesRefused : Prop :=
  ∀ w op : Nat, w < 2 ^ 64 → w / 2 ^ 56 = op →
    (op = 0x0F ∨ (0x9C ≤ op ∧ op ≤ 0x9F) ∨ (0xAA ≤ op ∧ op ≤ 0xAF) ∨ (0xBA ≤ op ∧ op ≤ 0xBF) ∨ (0xC6 ≤ op ∧ op ≤ 0xCF) ∨
      (0xDB ≤ op ∧ op ≤ 0xDF) ∨ (0xE9 ≤ op ∧ op ≤ 0xFF)) →
    decodeTileNat w = .error .opcodeReserved

/-- Words that the spec writes out decode to the instructions it writes beside them. -/
def Obligations.SpecWordsDecode : Prop :=
  decodeTableWord 64 0x3E004200FFFFF003 = some (.lea .always (.slot 4 .a) .null 3 0xFFFFF0) ∧
  decodeTableWord 64 0x5200802400000000 = some (.vfmul .always 0 (.slot 8 .a) (.slot 9 .a)) ∧
  decodeTableWord 128 (0x0900_0000_0000_003D * 2 ^ 64 + 0x0006_0007_0000_0400) = some (.dpat 0 1 1 7 1024 7 6) ∧
  decodeTableWord 128 (0x0100_0000_0000_0000 * 2 ^ 64) = some .dhalt

/-! A step runs the decoded instruction. -/

/-- Where nothing comes first, a step runs: the instruction that the word in the first ready slot of a tile decodes to; the
drove-list command at the running list's index, or for a list in memory the command read there in the step before (it stands in
`word`, and the list's marks of an earlier wait are cleared first); the host command at the ring's head, where no command that has
begun holds the ring; the row of the oldest input. Which commands hold the ring is the model's reading of R370, R391 and R393 (log
entry 75, DEDUCED: R370 names three that do not); that an input goes before everything else due is the model's choice (log entries
3 and 99). Around `exec` stands only `State.settled`: it changes nothing but a next state in which a unit of storage could not be
installed (R56), and that step its kiln makes again later (the model's choice, log entry 120). -/
def Obligations.StepRunsDecoded : Prop :=
  (∀ (s : State) (k : Kiln) (t : TileSt) (rest : List (Kiln × TileSt)) (x : Exec) (xs : List Exec) (more : List (Nat × Nat))
      (slot w : Nat) (plane : Bool) (i : Instr),
    s.earlyAct.isNone = true → (plane = true → (s.issueAct false).isNone = true) →
    s.liveTiles = (k, t) :: rest → (if plane then t.dataIssued else t.ctlIssued) = false →
    t.execs = x :: xs → s.readySlots k t x plane = (slot, w) :: more → decodeTileNat w = .ok i → t.fits i = true →
    step s = s.settled (exec i { s with cursor := .tile k.id t.id x.task slot })) ∧
  (∀ (s : State) (d : DroverSt) (ds : List DroverSt) (c : DCtx) (n w : Nat) (i : Instr),
    s.inbox = [] → s.firmwareAct.isNone = true → s.moveAct.isNone = true → s.accessAct.isNone = true → s.wlog = [] → s.drovers = d :: ds →
    s.dctx? d.die d.slice = some c → s.listReady c = true → c.l.waits = false → c.l.ref = .charge n →
    ((s.image? c.k.charge).bind fun im => im.lists[n]?).bind (fun l => l.cmds[c.l.index]?) = some w →
    decodeDroveNat w = .ok i → s.listWaits c i = false →
    step s = s.settled (exec i { s with cursor := .die d.die d.slice 0 })) ∧
  (∀ (s : State) (d : DroverSt) (ds : List DroverSt) (c : DCtx) (a w : Nat) (i : Instr),
    s.inbox = [] → s.firmwareAct.isNone = true → s.moveAct.isNone = true → s.accessAct.isNone = true → s.wlog = [] → s.drovers = d :: ds →
    s.dctx? d.die d.slice = some c → s.listReady c = true → c.l.waits = false → c.l.ref = .va a → c.l.word = some w →
    decodeDroveNat w = .ok i → s.listWaits c i = false →
    let u := s.putList c (some { c.l with word := some w, held := none, retry := false })
    step s = s.settled (exec i { s.commit u with cursor := .die d.die d.slice 0 })) ∧
  (∀ (s : State) (i : Instr),
    s.inbox = [] → (∀ o ∈ s.outstanding, s.holdsRing o = false) → s.boot = .ready → s.cmdHead % 2 ^ s.cmdSize ≠ s.cmdTail % 2 ^ s.cmdSize →
    decodeCommand s.commandEntry = some i →
    step s = s.settled (exec i { s with cmdHead := (s.cmdHead + 1) % 2 ^ 16, cursor := .command s.commandEntry })) ∧
  (∀ (s : State) (i : Input) (r : List Input), s.inbox = i :: r →
    step s = s.settled (exec i.row { s with inbox := r, cursor := .input i })) ∧
  (∀ (s t : State), t.unitMiss = none → s.settled (.next t) = .next t) ∧
  (∀ (s : State) (f : Fault), s.settled (.fault f) = .fault f) ∧ (∀ (s : State) (r : Refusal), s.settled (.refused r) = .refused r)

/-! What an issue changes: the frame of every tile instruction. -/

/-- Recording an issue without a stop cause changes the instruction's own tile in its own kiln and nothing else, and no byte
of memory that the instruction itself did not store: with `s1` storing nothing, every byte reads as before. -/
def Obligations.IssueFrame : Prop :=
  ∀ (s s1 : State) (c : Ctx) (plane : Bool) (ta tb : Target) (i : Issue),
    StateInv s → s1.wlog = [] → s1.mem = s.mem → i.cause = none →
    let t := s.issuedFrom s1 c plane ta tb i
    t = { s1 with kilns := t.kilns } ∧ (∀ a : Nat, t.byte a = s.byte a) ∧
    (∀ k : Nat, k ≠ c.k.id → t.kiln? k = s1.kiln? k) ∧
    ∀ kl : Kiln, s1.kiln? c.k.id = some kl → ∃ kl' : Kiln, t.kiln? c.k.id = some kl' ∧
      kl' = { kl with tiles := kl'.tiles } ∧ (∀ n : Nat, n ≠ c.t.id → kl'.tile? n = kl.tile? n) ∧
      ∀ tl : TileSt, kl.tile? c.t.id = some tl → ∃ tl' : TileSt, kl'.tile? c.t.id = some tl' ∧
        tl' = { tl with
          ctlIssued := tl.ctlIssued || !plane, dataIssued := tl.dataIssued || plane, nextNo := tl.nextNo + 1
          bank := i.bank, divFree := i.divFree, tasks := tl'.tasks, execs := tl'.execs } ∧
        (∀ n : Nat, n ≠ c.task → tl'.task n = tl.task n) ∧ (∀ n : Nat, n ≠ c.task → tl'.exec? n = tl.exec? n) ∧
        (c.task < tl.tasks.length → tl'.task c.task = { i.tsk with stopped := (tl.task c.task).stopped })

/-- Recording an issue without a stop cause appends the slot to the execution's issued slots, keeps its results pending, with the flags
and the saturation that the instruction computed, where the instruction stays, and takes the first exit of a block execution. When such
an instruction completes, with its work done and its results sent, it leaves the pending ones, and its flags and its saturation are ORed
into FPFLAGS and SATFLAG of its task, and of that task alone (R32, R107, R250). -/
def Obligations.IssueRecord : Prop :=
  (∀ (s s1 : State) (c : Ctx) (plane : Bool) (ta tb : Target) (i : Issue) (kl : Kiln) (tl : TileSt) (x : Exec),
    i.cause = none → s1.kiln? c.k.id = some kl → kl.tile? c.t.id = some tl → tl.exec? c.task = some x →
    ∃ (kl' : Kiln) (tl' : TileSt), (s.issuedFrom s1 c plane ta tb i).kiln? c.k.id = some kl' ∧ kl'.tile? c.t.id = some tl' ∧
      tl'.exec? c.task = some { x with
        issued := x.issued ++ [c.slot]
        pend := if i.stays then x.pend ++ [c.pending ta tb i] else x.pend
        exit := x.exit.orElse fun _ => i.exit.map fun e => (c.slot, e) } ∧
      (c.pending ta tb i).flags = i.fl.fp ∧ (c.pending ta tb i).sat = i.fl.sat) ∧
  ∀ (s : State) (k t task slot : Nat) (kl : Kiln) (tl : TileSt) (x : Exec) (p : Pending),
    s.kiln? k = some kl → kl.tile? t = some tl → tl.exec? task = some x → x.pend? slot = some p → task < tl.tasks.length →
    p.completes tl.cyc = true → p.sends = [] →
    ∃ (kl' : Kiln) (tl' : TileSt), (s.settle k t task slot).kiln? k = some kl' ∧ kl'.tile? t = some tl' ∧
      tl'.task task = { tl.task task with fpflags := (tl.task task).fpflags ||| p.flags, satflag := (tl.task task).satflag || p.sat } ∧
      (∀ n : Nat, n ≠ task → tl'.task n = tl.task n) ∧
      tl'.exec? task = some { x with pend := x.pend.filter fun q => q.slot != slot }

/-- A stop cause is taken as an exception (R385, R386). First, the shared operation, for any fault request: its record is posted, the
kiln is freezing for a stop from this cycle on, or, where it is freezing already, since the cycle in which that began (R390), and the
cause stands among its stops. Then an issue that raises a cause: the request is of CLASS 0, with the place of the kiln's die, shelf and
tile, the task, block and slot, the kiln's ids and the cause's code and words; the same is done with it, and the task issues nothing
further. -/
def Obligations.StopCauseTaken : Prop :=
  (∀ (s : State) (k : Nat) (kl : Kiln) (f : FaultReq) (t task slot aux : Nat),
    s.kiln? k = some kl →
    ∃ kl' : Kiln, (s.stopBy k f t task slot aux).kiln? k = some kl' ∧
      (kl.stat = .running → kl'.stat = .freezing s.now .stop) ∧
      (∀ (since : Nat) (why : FreezeWhy), kl.stat = .freezing since why → kl'.stat = .freezing since .stop) ∧
      kl'.stops = kl.stops ++ [⟨s.nextId, f.cause, t, task, slot, aux⟩] ∧
      kl' = { kl with stops := kl'.stops, stat := kl'.stat, switchLeft := kl'.switchLeft } ∧
      (kl.stat = .running → kl'.switchLeft = kl.switchLeft) ∧
      (s.stopBy k f t task slot aux).dies = (s.postFault f).2.dies ∧ (s.stopBy k f t task slot aux).msix = (s.postFault f).2.msix) ∧
  (∀ (s s1 : State) (c : Ctx) (plane : Bool) (ta tb : Target) (i : Issue) (code w6 w7 : Nat) (kl : Kiln) (tl : TileSt),
    i.cause = some ⟨code, w6, w7⟩ → s1.kiln? c.k.id = some kl → kl.tile? c.t.id = some tl → c.task < tl.tasks.length →
    let f : FaultReq := { cause := code, cls := 0, die := c.k.die, shelf := c.k.shelf (c.t.id / 128), tile := c.t.id % 128, task := c.task,
                          block := c.x.block, slot := c.slot, paddock := c.k.paddock, kiln := c.k.id, queue := c.k.queue, w6 := w6, w7 := w7 }
    let t := s.issuedFrom s1 c plane ta tb i
    t.dies = (s1.postFault f).2.dies ∧ t.msix = (s1.postFault f).2.msix ∧
    ∃ (kl' : Kiln) (tl' : TileSt), t.kiln? c.k.id = some kl' ∧ kl'.tile? c.t.id = some tl' ∧
      (kl.stat = .running → kl'.stat = .freezing s1.now .stop) ∧
      (∀ (since : Nat) (why : FreezeWhy), kl.stat = .freezing since why → kl'.stat = .freezing since .stop) ∧
      kl'.stops = kl.stops ++ [⟨s1.nextId, code, c.t.id, c.task, c.slot, 0⟩] ∧ (tl'.task c.task).stopped = true)

/-- Posting a fault where the die's queue has room: the record stands last, under a RECNO that no outstanding record of the
die held, and a message of its vector is sent (R386, R414). -/
def Obligations.FaultPosted : Prop :=
  ∀ (s : State) (f : FaultReq) (d : DieSt),
    s.dies.find? (fun x => x.index == f.die) = some d → d.faults.length < 512 → d.deferred = [] → d.outstanding.length < 4096 →
    ∃ n : Nat, n < 4096 ∧ (∀ o ∈ d.outstanding, o.recno ≠ n) ∧
      (s.postFault f).1 = s.nextId ∧ (s.postFault f).2.msix = s.msix ++ [f.vec] ∧
      (s.postFault f).2.die f.die = { d with
        faults := d.faults ++ [{ f.toRec s.timeNs with w4 := BitVec.ofNat 64 (s.timeNs % 2 ^ 52 + n * 2 ^ 52) }]
        newFaults := d.newFaults + 1
        nextRec := (n + 1) % 4096
        outstanding := d.outstanding ++ [⟨n, s.nextId, f.cls % 16, false⟩] }

/-! Rows 0x0_ to 0x3_ and 0xE_. -/

/-- The two-operand instructions of R232: `rotateLeft` is ROL, and MULHS and MULHU give bits [127:64] of exact products. -/
def Obligations.ScalarArithmetic : Prop :=
  ∀ (s : State) (c : Ctx) (p : Pred) (ta tb : Target), s.Acts c p →
    exec (.add p ta tb) s = .next (s.sends c 1 ta tb (Tok.val (c.av + c.bv))) ∧
    exec (.sub p ta tb) s = .next (s.sends c 1 ta tb (Tok.val (c.av - c.bv))) ∧
    exec (.mul p ta tb) s = .next (s.sends c 3 ta tb (Tok.val (c.av * c.bv))) ∧
    exec (.mulhs p ta tb) s = .next (s.sends c 3 ta tb (Tok.val (BitVec.extractLsb' 64 64 (c.av.signExtend 128 * c.bv.signExtend 128)))) ∧
    exec (.mulhu p ta tb) s = .next (s.sends c 3 ta tb (Tok.val (BitVec.extractLsb' 64 64 (c.av.setWidth 128 * c.bv.setWidth 128)))) ∧
    exec (.and p ta tb) s = .next (s.sends c 1 ta tb (Tok.val (c.av &&& c.bv))) ∧
    exec (.or p ta tb) s = .next (s.sends c 1 ta tb (Tok.val (c.av ||| c.bv))) ∧
    exec (.xor p ta tb) s = .next (s.sends c 1 ta tb (Tok.val (c.av ^^^ c.bv))) ∧
    exec (.shl p ta tb) s = .next (s.sends c 1 ta tb (Tok.val (c.av <<< (c.bv.toNat % 64)))) ∧
    exec (.shr p ta tb) s = .next (s.sends c 1 ta tb (Tok.val (c.av >>> (c.bv.toNat % 64)))) ∧
    exec (.sar p ta tb) s = .next (s.sends c 1 ta tb (Tok.val (c.av.sshiftRight (c.bv.toNat % 64)))) ∧
    exec (.rol p ta tb) s = .next (s.sends c 1 ta tb (Tok.val (c.av.rotateLeft (c.bv.toNat % 64))))

/-- The four divisions answer for every pair of operands: they hold the tile's divider for 18 cycles, raise no flag and do not
trap, and their results are those of R233, its fixed cases among them: truncation toward zero (`tdiv`), the remainder's sign that
of the dividend (`tmod`), and opa = q opb + r. That the divider is held for 18 cycles and no longer, whatever becomes of the result, is
the model's choice (log entry 134, DESIGN CHOICE: R225 keeps a second division from issuing while one is in flight). -/
def Obligations.ScalarDivision : Prop :=
  ∀ (s : State) (c : Ctx) (p : Pred) (ta tb : Target), s.Acts c p →
    ∃ qu ru qs rs : Word,
      exec (.divu p ta tb) s = .next (s.issuing c false ta tb { c.emit 18 ta tb (Tok.val qu) with divFree := c.t.cyc + 18 }) ∧
      exec (.remu p ta tb) s = .next (s.issuing c false ta tb { c.emit 18 ta tb (Tok.val ru) with divFree := c.t.cyc + 18 }) ∧
      exec (.divs p ta tb) s = .next (s.issuing c false ta tb { c.emit 18 ta tb (Tok.val qs) with divFree := c.t.cyc + 18 }) ∧
      exec (.rems p ta tb) s = .next (s.issuing c false ta tb { c.emit 18 ta tb (Tok.val rs) with divFree := c.t.cyc + 18 }) ∧
      (c.bv = 0 → qu = 0xFFFFFFFFFFFFFFFF ∧ ru = c.av ∧ rs = c.av ∧ qs = if c.av.msb then 1 else -1) ∧
      (c.bv ≠ 0 → qu = c.av / c.bv ∧ ru = c.av % c.bv ∧ qs = c.av.sdiv c.bv ∧ rs = c.av.srem c.bv) ∧
      (c.bv ≠ 0 → c.av ≠ 0x8000000000000000 ∨ c.bv ≠ -1 → qs.toInt = c.av.toInt.tdiv c.bv.toInt ∧ rs.toInt = c.av.toInt.tmod c.bv.toInt) ∧
      (c.bv ≠ 0 → c.av = qu * c.bv + ru ∧ c.av = qs * c.bv + rs) ∧
      (c.av = 0x8000000000000000 → c.bv = -1 → qs = 0x8000000000000000 ∧ rs = 0)

/-- The predicate and test instructions of R231 and the compares, minima and maxima of R234. -/
def Obligations.PredicatesAndCompares : Prop :=
  ∀ (s : State) (c : Ctx) (p : Pred) (ta tb : Target) (v : BitVec 1) (n : BitVec 6), s.Acts c p →
    exec (.pset p ta tb v) s = .next (s.sends c 1 ta tb (Tok.pred (v.getLsbD 0))) ∧
    exec (.pnot p ta tb) s = .next (s.sends c 1 ta tb (Tok.pred (decide (c.av = 0)))) ∧
    exec (.pand p ta tb) s = .next (s.sends c 1 ta tb (Tok.pred (decide (c.av ≠ 0 ∧ c.bv ≠ 0)))) ∧
    exec (.por p ta tb) s = .next (s.sends c 1 ta tb (Tok.pred (decide (c.av ≠ 0 ∨ c.bv ≠ 0)))) ∧
    exec (.pxor p ta tb) s = .next (s.sends c 1 ta tb (Tok.pred (decide (¬ (c.av ≠ 0 ↔ c.bv ≠ 0))))) ∧
    exec (.tstz p ta tb) s = .next (s.sends c 1 ta tb (Tok.pred (decide (c.av = 0)))) ∧
    exec (.tstnz p ta tb) s = .next (s.sends c 1 ta tb (Tok.pred (decide (c.av ≠ 0)))) ∧
    exec (.tstneg p ta tb) s = .next (s.sends c 1 ta tb (Tok.pred c.av.msb)) ∧
    exec (.tstbit p ta tb n) s = .next (s.sends c 1 ta tb (Tok.pred (c.av.getLsbD n.toNat))) ∧
    exec (.ceq p ta tb) s = .next (s.sends c 1 ta tb (Tok.pred (decide (c.av = c.bv)))) ∧
    exec (.cne p ta tb) s = .next (s.sends c 1 ta tb (Tok.pred (decide (c.av ≠ c.bv)))) ∧
    exec (.clt p ta tb) s = .next (s.sends c 1 ta tb (Tok.pred (c.av.slt c.bv))) ∧
    exec (.cle p ta tb) s = .next (s.sends c 1 ta tb (Tok.pred (c.av.sle c.bv))) ∧
    exec (.cltu p ta tb) s = .next (s.sends c 1 ta tb (Tok.pred (c.av.ult c.bv))) ∧
    exec (.cleu p ta tb) s = .next (s.sends c 1 ta tb (Tok.pred (c.av.ule c.bv))) ∧
    exec (.mins p ta tb) s = .next (s.sends c 1 ta tb (Tok.val (if c.bv.slt c.av then c.bv else c.av))) ∧
    exec (.maxs p ta tb) s = .next (s.sends c 1 ta tb (Tok.val (if c.av.slt c.bv then c.bv else c.av))) ∧
    exec (.minu p ta tb) s = .next (s.sends c 1 ta tb (Tok.val (if c.bv < c.av then c.bv else c.av))) ∧
    exec (.maxu p ta tb) s = .next (s.sends c 1 ta tb (Tok.val (if c.av < c.bv then c.bv else c.av)))

/-- The immediate forms of R237, the moves of R238, SEL of R235, the one-operand instructions ABS, NEG and NOT of R236, and
LEA of R240. SEL and COPY send the token itself, with its KIND, LEVEL and value. -/
def Obligations.ImmediatesAndMoves : Prop :=
  ∀ (s : State) (c : Ctx) (p : Pred) (ta tb : Target) (imm : BitVec 32) (sh : BitVec 6) (sc : BitVec 3) (off : BitVec 24), s.Acts c p →
    exec (.addi p ta tb imm) s = .next (s.sends c 1 ta tb (Tok.val (c.av + imm.signExtend 64))) ∧
    exec (.muli p ta tb imm) s = .next (s.sends c 3 ta tb (Tok.val (c.av * imm.signExtend 64))) ∧
    exec (.andi p ta tb imm) s = .next (s.sends c 1 ta tb (Tok.val (c.av &&& imm.signExtend 64))) ∧
    exec (.ori p ta tb imm) s = .next (s.sends c 1 ta tb (Tok.val (c.av ||| imm.signExtend 64))) ∧
    exec (.xori p ta tb imm) s = .next (s.sends c 1 ta tb (Tok.val (c.av ^^^ imm.signExtend 64))) ∧
    exec (.shli p ta tb sh) s = .next (s.sends c 1 ta tb (Tok.val (c.av <<< sh.toNat))) ∧
    exec (.shri p ta tb sh) s = .next (s.sends c 1 ta tb (Tok.val (c.av >>> sh.toNat))) ∧
    exec (.sari p ta tb sh) s = .next (s.sends c 1 ta tb (Tok.val (c.av.sshiftRight sh.toNat))) ∧
    exec (.ceqi p ta tb imm) s = .next (s.sends c 1 ta tb (Tok.pred (decide (c.av = imm.signExtend 64)))) ∧
    exec (.movi p ta tb imm) s = .next (s.sends c 1 ta tb (Tok.val (imm.signExtend 64))) ∧
    exec (.movhi p ta tb imm) s = .next (s.sends c 1 ta tb (Tok.val (imm ++ c.av.setWidth 32))) ∧
    exec (.abs p ta tb) s = .next (s.sends c 1 ta tb (Tok.val (if c.av.msb then -c.av else c.av))) ∧
    exec (.neg p ta tb) s = .next (s.sends c 1 ta tb (Tok.val (-c.av))) ∧
    exec (.not p ta tb) s = .next (s.sends c 1 ta tb (Tok.val (~~~c.av))) ∧
    exec (.lea p ta tb sc off) s =
      .next (s.sends c 1 ta tb (Tok.val (c.av + BitVec.ofNat 64 (c.bv.toNat * 2 ^ sc.toNat) + off.signExtend 64))) ∧
    (∀ x : Tok, c.a = some x → exec (.copy p ta tb) s = .next (s.sends c 1 ta tb x)) ∧
    (∀ x y : Tok, c.a = some x → c.b = some y →
      exec (.sel ta tb) s = .next (s.sends c 1 ta tb (if c.pv = 0 then y else x)))

/-- POPC, CLZ and CTZ (R236): they answer the number of bits that are 1, and the numbers of bits before the first 1 from the
top and from the bottom, 64 where there is none. BFX and BFI (R239) bit by bit, for every field that the loader admits: BFX
answers the field in its low bits and above it zeros or, with SX, copies of its top bit; BFI answers opa with the field's bits
taken from the low bits of opb. -/
def Obligations.ScalarBits : Prop :=
  (∀ (s : State) (c : Ctx) (p : Pred) (ta tb : Target), s.Acts c p →
      ∃ n l t : Nat,
        exec (.popc p ta tb) s = .next (s.sends c 1 ta tb (Tok.val (BitVec.ofNat 64 n))) ∧
        exec (.clz p ta tb) s = .next (s.sends c 1 ta tb (Tok.val (BitVec.ofNat 64 l))) ∧
        exec (.ctz p ta tb) s = .next (s.sends c 1 ta tb (Tok.val (BitVec.ofNat 64 t))) ∧
        n = ((List.range 64).map fun i => (c.av.getLsbD i).toNat).sum ∧
        l ≤ 64 ∧ (∀ i : Nat, i < l → c.av.getLsbD (63 - i) = false) ∧ (l < 64 → c.av.getLsbD (63 - l) = true) ∧
        t ≤ 64 ∧ (∀ i : Nat, i < t → c.av.getLsbD i = false) ∧ (t < 64 → c.av.getLsbD t = true)) ∧
  (∀ (s : State) (c : Ctx) (p : Pred) (ta tb : Target) (lo w : BitVec 6) (sx : BitVec 1), s.Acts c p → lo.toNat + w.toNat + 1 ≤ 64 →
      ∃ x y : Word,
        exec (.bfx p ta tb lo w sx) s = .next (s.sends c 1 ta tb (Tok.val x)) ∧
        exec (.bfi p ta tb lo w) s = .next (s.sends c 1 ta tb (Tok.val y)) ∧
        ∀ i : Nat, i < 64 →
          x.getLsbD i = (if i ≤ w.toNat then c.av.getLsbD (lo.toNat + i) else sx.getLsbD 0 && c.av.getLsbD (lo.toNat + w.toNat)) ∧
          y.getLsbD i = (if lo.toNat ≤ i ∧ i ≤ lo.toNat + w.toNat then c.bv.getLsbD (i - lo.toNat) else c.av.getLsbD i))

/-- NOP and the exits (R227 to R230): with no exit before it in the block execution, each records its own; a second exit raises
MULTI_EXIT, whose record names the block and the first exit's slot, and this one's slot (R34, R387); and what a task does
after its block execution, by its exit (R33, R36). That EXITX after another exit raises MULTI_EXIT whatever its index, also one out of
range, is the model's choice (log entry 135, DESIGN CHOICE: R387 gives a cause for each and no order). -/
def Obligations.Exits : Prop :=
  (∀ (s : State) (c : Ctx) (p : Pred) (block : BitVec 5) (dly : BitVec 16), s.Acts c p → c.x.exit = none →
      exec (.nop p) s = .next (s.issuing c false .null .null c.nothing) ∧
      exec (.exit p block) s = .next (s.issuing c false .null .null { c.nothing with exit := some (.to block.toNat) }) ∧
      exec (.halt p) s = .next (s.issuing c false .null .null { c.nothing with exit := some .halt }) ∧
      exec (.ctxend p) s = .next (s.issuing c false .null .null { c.nothing with exit := some .ctxEnd }) ∧
      exec (.yield p block dly) s = .next (s.issuing c false .null .null { c.nothing with exit := some (.yield block.toNat dly.toNat) }) ∧
      (s.begun.exitInRange c c.av = true →
        exec (.exitx p) s = .next (s.issuing c false .null .null { c.nothing with exit := some (.to c.av.toNat) })) ∧
      (s.begun.exitInRange c c.av = false →
        exec (.exitx p) s = .next (s.issuing c false .null .null (c.stop 0x04 (c.x.block + c.slot * 2 ^ 8) c.av.toNat)))) ∧
  (∀ (s : State) (c : Ctx) (p : Pred) (block : BitVec 5) (dly : BitVec 16) (first : Nat) (e : ExitKind), s.Acts c p →
      c.x.exit = some (first, e) →
      let t := s.issuing c false .null .null (c.stop 0x03 (c.x.block + first * 2 ^ 8) c.slot)
      exec (.exit p block) s = .next t ∧ exec (.exitx p) s = .next t ∧ exec (.halt p) s = .next t ∧ exec (.ctxend p) s = .next t ∧
        exec (.yield p block dly) s = .next t) ∧
  (∀ (x : TaskSt) (cyc b d : Nat),
      x.leave cyc none = { x with stat := .idle, notBefore := cyc + 1 } ∧
      x.leave cyc (some (.to b)) = { x with stat := .idle, block := b, notBefore := cyc + 1 } ∧
      x.leave cyc (some .halt) = { x with stat := .halted } ∧
      x.leave cyc (some .ctxEnd) = { x with stat := .ended } ∧
      x.leave cyc (some (.yield b d)) = { x with stat := .idle, block := b, notBefore := cyc + 1 + d } ∧
      x.leave cyc (some (.yield b 0)) = x.leave cyc (some (.to b)))

/-- TRAP and BRK (R241, R242, R387): TRAP stops the kiln with its code and opa, stays issued and never completes; BRK stops it
and completes where the paddock has breakpoints enabled, and is a NOP where it has not. -/
def Obligations.TrapAndBreak : Prop :=
  ∀ (s : State) (c : Ctx) (p : Pred) (code : BitVec 16) (pd : Paddock), s.Acts c p → s.paddock? c.k.paddock = some pd →
    exec (.trap p code) s =
      .next (s.issuing c false .null .null { c.stop 0x01 code.toNat c.av.toNat with work := .trapped, stays := true }) ∧
    (pd.breakpoints = true →
      exec (.brk p code) s = .next (s.issuing c false .null .null { c.stop 0x02 code.toNat c.av.toNat with stays := true })) ∧
    (pd.breakpoints = false → exec (.brk p code) s = .next (s.issuing c false .null .null c.nothing))

/-- CTLRD and CTLWR (R243, R244) register by register: the value that is read, and what a write of opa leaves. -/
def Obligations.ControlRegisters : Prop :=
  ∀ (s : State) (c : Ctx) (p : Pred) (ta tb : Target) (idx : BitVec 12) (n : Nat), s.Acts c p → n < 8 →
    exec (.ctlrd p ta tb idx) s = .next (s.sends c 1 ta tb (Tok.val (c.ctlReg idx.toNat))) ∧
    exec (.ctlwr p ta tb idx) s =
      .next (s.issuing c false ta tb { c.emit 1 ta tb (Tok.val (c.ctlReg idx.toNat)) with tsk := c.tsk.writeReg idx.toNat c.av }) ∧
    c.ctlReg 0x000 = BitVec.ofNat 64 c.task ∧ c.ctlReg 0x001 = BitVec.ofNat 64 c.t.id ∧
    c.ctlReg 0x002 = BitVec.ofNat 64 (c.k.id % 2 ^ 32) ∧ c.ctlReg 0x003 = BitVec.ofNat 64 c.k.paddock ∧
    c.ctlReg 0x004 = BitVec.ofNat 64 c.k.ctx ∧ c.ctlReg 0x020 = c.tsk.seedKey ∧
    c.ctlReg 0x022 ++ c.ctlReg 0x021 = c.tsk.genCtr ∧ c.ctlReg 0x030 = BitVec.ofNat 64 c.t.cyc ∧
    c.ctlReg (0x040 + n) = BitVec.ofNat 64 (c.tsk.stalls.getD n 0) ∧
    c.tsk.writeReg 0x020 c.av = { c.tsk with seedKey := c.av } ∧
    c.tsk.writeReg 0x021 c.av = { c.tsk with genCtr := c.ctlReg 0x022 ++ c.av } ∧
    c.tsk.writeReg 0x022 c.av = { c.tsk with genCtr := c.av ++ c.ctlReg 0x021 } ∧
    c.tsk.writeReg (0x040 + n) c.av = { c.tsk with stalls := c.tsk.stalls.set n c.av.toNat }

/-- CTLWR writes only the bits that R243 gives meaning to (R410): of FPFLAGS [4:0], of SATFLAG [0], of the other rw registers all; the
bits above ignore the write and read zero; and the register as it stood before the write is sent. -/
def Obligations.ControlRegisterWrites : Prop :=
  ∀ (s : State) (c : Ctx) (p : Pred) (ta tb : Target) (i : Nat), s.Acts c p →
    exec (.ctlwr p ta tb 0x010) s =
      .next (s.issuing c false ta tb { c.emit 1 ta tb (Tok.val (c.tsk.fpflags.setWidth 64)) with
        tsk := { c.tsk with fpflags := BitVec.extractLsb' 0 5 c.av } }) ∧
    exec (.ctlwr p ta tb 0x011) s =
      .next (s.issuing c false ta tb { c.emit 1 ta tb (Tok.val (BitVec.ofNat 64 c.tsk.satflag.toNat)) with
        tsk := { c.tsk with satflag := c.av.getLsbD 0 } }) ∧
    (c.task < c.t.tasks.length → c.tsk.stalls.length = 8 →
      let after : Ctx := { c with t := c.t.setTask c.task (c.tsk.writeReg i c.av) }
      (i = 0x010 → after.ctlReg i = c.av &&& 0x1F ∧ (c.av = 0xFFFFFFFFFFFFFFFF → after.ctlReg i = 0x1F)) ∧
      (i = 0x011 → after.ctlReg i = c.av &&& 1) ∧
      (i ∈ [0x020, 0x021, 0x022] ∨ 0x040 ≤ i ∧ i ≤ 0x047 → after.ctlReg i = c.av))

/-- CNTRD, RAND, SEED, TIMER and FWSVC (R245 to R249). FWSVC's result waits for a time that the model leaves free within the
20 us of R249. -/
def Obligations.SystemInstructions : Prop :=
  ∀ (s : State) (c : Ctx) (p : Pred) (ta tb : Target) (cnt task : BitVec 3) (imm : BitVec 32) (svc : BitVec 8), s.Acts c p →
    exec (.cntrd p ta tb cnt task 0 0) s = .next (s.sends c 1 ta tb (Tok.val (c.stall c.task cnt.toNat))) ∧
    exec (.cntrd p ta tb cnt task 1 0) s = .next (s.sends c 1 ta tb (Tok.val (c.stall task.toNat cnt.toNat))) ∧
    exec (.cntrd p ta tb cnt task 0 1) s =
      .next (s.issuing c false ta tb { c.emit 1 ta tb (Tok.val (c.stall c.task cnt.toNat)) with
        tsk := { c.tsk with stalls := c.tsk.stalls.set cnt.toNat 0 } }) ∧
    (task.toNat = c.task → exec (.cntrd p ta tb cnt task 1 1) s = exec (.cntrd p ta tb cnt task 0 1) s) ∧
    (task.toNat ≠ c.task →
      exec (.cntrd p ta tb cnt task 1 1) s =
        .next (s.issuedFrom (s.begun.modTask c.k.id c.t.id task.toNat fun _ =>
            { c.t.task task.toNat with stalls := (c.t.task task.toNat).stalls.set cnt.toNat 0 })
          c false ta tb (c.emit 1 ta tb (Tok.val (c.stall task.toNat cnt.toNat))))) ∧
    exec (.rand p ta tb) s =
      .next (s.issuing c false ta tb { c.send2 1 ta (Tok.val (randHalf c.tsk 0)) tb (Tok.val (randHalf c.tsk 2)) with
        tsk := { c.tsk with genCtr := c.tsk.genCtr + 1 } }) ∧
    exec (.seed p ta tb) s =
      .next (s.issuing c false ta tb { c.emit 1 ta tb (Tok.val 0) with tsk := { c.tsk with seedKey := c.av, genCtr := (0 : Word) ++ c.bv } }) ∧
    (c.a = none → exec (.timer p ta tb imm) s = .next (s.sends c 1 ta tb (Tok.val (BitVec.ofNat 64 c.t.cyc)))) ∧
    (∀ x : Tok, c.a = some x →
      exec (.timer p ta tb imm) s = .next (s.issuing c false ta tb { c.nothing with work := .timer (c.av + imm.signExtend 64) })) ∧
    ∃ at_ : Nat, s.now ≤ at_ ∧ at_ + 2 * c.k.period c.t < s.now + 20 * tUs ∧
      exec (.fwsvc p ta tb svc) s = .next (s.issuedFrom s.begun.draw.2 c false ta tb { c.nothing with work := .fwsvc svc.toNat c.av at_ })

/-! Rows 0x4_ to 0x6_. In these statements `A`, `B` and `C` are the payloads of the data operands, and lane functions take and
give lane bits. -/

/-- Lane-wise computation: lane `i` of the result is the function of the lanes `i` of the operands, at the lane width, and the
flags, each of the five and the saturation, are the OR of the lanes' flags (R96, R256). -/
def Obligations.LaneWise : Prop :=
  ∀ (w i : Nat) (a b c : Payload) (f1 : Nat → Nat × Fl) (f2 : Nat → Nat → Nat × Fl) (f3 : Nat → Nat → Nat → Nat × Fl),
    (w = 4 ∨ w = 8 ∨ w = 16 ∨ w = 32 ∨ w = 64) → i < 128 / w →
    lane w (map1 w a f1).1 i = (f1 (lane w a i)).1 % 2 ^ w ∧
    lane w (map2 w a b f2).1 i = (f2 (lane w a i) (lane w b i)).1 % 2 ^ w ∧
    lane w (map3 w a b c f3).1 i = (f3 (lane w a i) (lane w b i) (lane w c i)).1 % 2 ^ w ∧
    ∀ flag ∈ [Fl.inv, Fl.dz, Fl.ovf, Fl.unf, Fl.inx, Fl.sat],
      (flag (map1 w a f1).2 = true ↔ ∃ j : Nat, j < 128 / w ∧ flag (f1 (lane w a j)).2 = true) ∧
      (flag (map2 w a b f2).2 = true ↔ ∃ j : Nat, j < 128 / w ∧ flag (f2 (lane w a j) (lane w b j)).2 = true) ∧
      (flag (map3 w a b c f3).2 = true ↔ ∃ j : Nat, j < 128 / w ∧ flag (f3 (lane w a j) (lane w b j) (lane w c j)).2 = true)

/-- Integer lanes are read as signed, in UINT8 as unsigned, and written modulo 2^w; clamping keeps a value in range and says
when it did not lie there (R90, R257). -/
def Obligations.IntegerLaneReading : Prop :=
  ∀ (n : Nat) (v : Int),
    intRead 0 (n % 2 ^ 8) = (BitVec.ofNat 8 n).toInt ∧ intRead 1 (n % 2 ^ 8) = (BitVec.ofNat 8 n).toNat ∧
    intRead 2 (n % 2 ^ 16) = (BitVec.ofNat 16 n).toInt ∧ intRead 3 (n % 2 ^ 32) = (BitVec.ofNat 32 n).toInt ∧
    (∀ w : Nat, intBits w v = (BitVec.ofInt w v).toNat) ∧
    intClamp 0 v = (max (-128) (min 127 v), decide (v < -128 ∨ 127 < v)) ∧
    intClamp 1 v = (max 0 (min 255 v), decide (v < 0 ∨ 255 < v)) ∧
    intClamp 2 v = (max (-32768) (min 32767 v), decide (v < -32768 ∨ 32767 < v)) ∧
    intClamp 3 v = (max (-2147483648) (min 2147483647 v), decide (v < -2147483648 ∨ 2147483647 < v))

/-- The integer instructions of R257 and the shifts of R258. -/
def Obligations.IntegerLanes : Prop :=
  ∀ (s : State) (c : Ctx) (p : Pred) (fs : BitVec 2) (ta tb : Target) (sh : BitVec 6), s.Acts c p → c.Records false [.a, .b, .c] →
    let f := c.fmt fs
    let w := fmtWidth f
    let A := c.ad.pay
    let B := c.bd.pay
    let C := c.cd.pay
    let I := intRead f
    let wrap := fun v : Int => (intBits w v, ({} : Fl))
    exec (.vadd p fs ta tb) s = .next (s.lanesDone c 1 ta tb (map2 w A B fun a b => wrap (I a + I b))) ∧
    exec (.vsub p fs ta tb) s = .next (s.lanesDone c 1 ta tb (map2 w A B fun a b => wrap (I a - I b))) ∧
    exec (.vmul p fs ta tb) s = .next (s.lanesDone c 2 ta tb (map2 w A B fun a b => wrap (I a * I b))) ∧
    exec (.vmad p fs ta tb) s = .next (s.lanesDone c 2 ta tb (map3 w A B C fun a b d => wrap (I a * I b + I d))) ∧
    exec (.vmin p fs ta tb) s = .next (s.lanesDone c 1 ta tb (map2 w A B fun a b => (if I a ≤ I b then a else b, {}))) ∧
    exec (.vmax p fs ta tb) s = .next (s.lanesDone c 1 ta tb (map2 w A B fun a b => (if I a ≤ I b then b else a, {}))) ∧
    exec (.vabs p fs ta tb) s = .next (s.lanesDone c 1 ta tb (map1 w A fun a => wrap (I a).natAbs)) ∧
    exec (.vneg p fs ta tb) s = .next (s.lanesDone c 1 ta tb (map1 w A fun a => wrap (-(I a)))) ∧
    exec (.vand p fs ta tb) s = .next (s.lanesDone c 1 ta tb (A &&& B, {})) ∧
    exec (.vor p fs ta tb) s = .next (s.lanesDone c 1 ta tb (A ||| B, {})) ∧
    exec (.vxor p fs ta tb) s = .next (s.lanesDone c 1 ta tb (A ^^^ B, {})) ∧
    exec (.vadds p fs ta tb) s = .next (s.lanesDone c 1 ta tb (map2 w A B fun a b =>
      (intBits w (intClamp f (I a + I b)).1, { sat := (intClamp f (I a + I b)).2 }))) ∧
    exec (.vsubs p fs ta tb) s = .next (s.lanesDone c 1 ta tb (map2 w A B fun a b =>
      (intBits w (intClamp f (I a - I b)).1, { sat := (intClamp f (I a - I b)).2 }))) ∧
    (c.b ≠ none →
      exec (.vshl p fs ta tb sh) s = .next (s.lanesDone c 1 ta tb (map2 w A B fun a b => (a * 2 ^ (b % w) % 2 ^ w, {}))) ∧
      exec (.vshr p fs ta tb sh) s = .next (s.lanesDone c 1 ta tb (map2 w A B fun a b => (a / 2 ^ (b % w), {}))) ∧
      exec (.vsar p fs ta tb sh) s = .next (s.lanesDone c 1 ta tb (map2 w A B fun a b => wrap (I a / (2 ^ (b % w) : Nat))))) ∧
    (c.b = none →
      exec (.vshl p fs ta tb sh) s = .next (s.lanesDone c 1 ta tb (map1 w A fun a => (a * 2 ^ (sh.toNat % w) % 2 ^ w, {}))) ∧
      exec (.vshr p fs ta tb sh) s = .next (s.lanesDone c 1 ta tb (map1 w A fun a => (a / 2 ^ (sh.toNat % w), {}))) ∧
      exec (.vsar p fs ta tb sh) s = .next (s.lanesDone c 1 ta tb (map1 w A fun a => wrap (I a / (2 ^ (sh.toNat % w) : Nat)))))

/-- The floating instructions of R259 to R265, VRINT of R267 and VPRUNE of R276, in a lane format of kind FLT: the lane
functions are those of the format `F`. Only VRINT under SR and VPRUNE draw. -/
def Obligations.FloatLanes : Prop :=
  ∀ (s : State) (c : Ctx) (p : Pred) (fs : BitVec 2) (ta tb : Target) (F : FF) (cc : BitVec 3) (cls : BitVec 10) (cv : BitVec 2),
    s.Acts c p → c.Records false [.a, .b, .c] → FF.ofCode (c.fmt fs) = some F →
    let w := F.width
    let A := c.ad.pay
    let B := c.bd.pay
    let C := c.cd.pay
    let mask := fun b : Bool => if b then 2 ^ w - 1 else 0
    let mode := (c.conv cv).2.2.1
    let nr := if mode = 5 then (128 / w + 3) / 4 else 0
    let np := (128 / w + 3) / 4
    exec (.vfadd p fs ta tb) s = .next (s.lanesDone c 4 ta tb (map2 w A B (F.add false))) ∧
    exec (.vfsub p fs ta tb) s = .next (s.lanesDone c 4 ta tb (map2 w A B (F.add true))) ∧
    exec (.vfmul p fs ta tb) s = .next (s.lanesDone c 4 ta tb (map2 w A B F.mul)) ∧
    exec (.vfma p fs ta tb) s = .next (s.lanesDone c 4 ta tb (map3 w A B C (F.fma false false))) ∧
    exec (.vfms p fs ta tb) s = .next (s.lanesDone c 4 ta tb (map3 w A B C (F.fma false true))) ∧
    exec (.vfnma p fs ta tb) s = .next (s.lanesDone c 4 ta tb (map3 w A B C (F.fma true false))) ∧
    exec (.vfmin p fs ta tb) s = .next (s.lanesDone c 2 ta tb (map2 w A B (F.minMax false))) ∧
    exec (.vfmax p fs ta tb) s = .next (s.lanesDone c 2 ta tb (map2 w A B (F.minMax true))) ∧
    exec (.vfabs p fs ta tb) s = .next (s.lanesDone c 1 ta tb (map1 w A fun a => (a % 2 ^ (w - 1), {}))) ∧
    exec (.vfneg p fs ta tb) s = .next (s.lanesDone c 1 ta tb (map1 w A fun a => ((a + 2 ^ (w - 1)) % 2 ^ w, {}))) ∧
    exec (.vfcmp p fs ta tb cc) s = .next (s.lanesDone c 1 ta tb (map2 w A B fun a b => (mask (F.cmp cc.toNat a b).1, (F.cmp cc.toNat a b).2))) ∧
    exec (.vfcls p fs ta tb cls) s = .next (s.lanesDone c 1 ta tb (map1 w A fun a => (mask (cls.getLsbD (F.classOf a)), {}))) ∧
    exec (.vfrcp p fs ta tb) s = .next (s.lanesDone c 12 ta tb (map1 w A F.rcp)) ∧
    exec (.vfrsq p fs ta tb) s = .next (s.lanesDone c 12 ta tb (map1 w A F.rsq)) ∧
    exec (.vfexp p fs ta tb) s = .next (s.lanesDone c 12 ta tb (map1 w A F.exp2)) ∧
    exec (.vflog p fs ta tb) s = .next (s.lanesDone c 12 ta tb (map1 w A F.log2)) ∧
    exec (.vxexp p fs ta tb) s = .next (s.lanesDone c 2 ta tb (map1 w A F.xexp)) ∧
    exec (.vfscl p fs ta tb) s = .next (s.lanesDone c 4 ta tb (map2 w A B F.scl)) ∧
    exec (.vrint p fs ta tb cv) s = .next (s.lanesDrawn c 2 ta tb nr (ofLanesFl w
      ((lanes w A).zipIdx.map fun l => F.rint mode ((c.us nr).getD l.2 0) l.1))) ∧
    exec (.vprune p fs ta tb) s = .next (s.lanesDrawn c 4 ta tb np (ofLanesFl w
      (((lanes w A).zip (lanes w B)).zipIdx.map fun l => F.prune ((c.us np).getD l.2 0) l.1.1 l.1.2)))

/-- A value that a floating format represents is rounded to itself, with no flag, for every bit pattern that is no NaN (R91,
R99); the default NaN is what infinity minus infinity and zero times infinity give, and they raise INV (R91, R106). -/
def Obligations.FloatValues : Prop :=
  (∀ (F : FF) (n : Nat), F ∈ [FF.fp16, FF.bf16, FF.fp32] → n < 2 ^ F.width → (F.read n).isNan = false → F.ofFV (F.read n) = (n, {})) ∧
  (∀ F ∈ [FF.fp16, FF.bf16, FF.fp32], ∀ z t : Bool,
      F.add true (F.infBits t) (F.infBits t) = (F.defNan, { inv := true }) ∧
      F.add false (F.infBits t) (F.infBits !t) = (F.defNan, { inv := true }) ∧
      F.mul (F.sbit z) (F.infBits t) = (F.defNan, { inv := true }) ∧
      F.fma z t (F.sbit z) (F.infBits t) 0 = (F.defNan, { inv := true }))

/-- The lane moves of R264 and R270 to R273: VSEL, VSHUF, VSPLAT, VEXTR, VINSL, VPACK and VUNPK on records. -/
def Obligations.LaneMoves : Prop :=
  ∀ (s : State) (c : Ctx) (p : Pred) (fs : BitVec 2) (ta tb : Target) (ln : BitVec 4) (sat uns hi : BitVec 1), s.Acts c p →
    c.Records false [.a, .b, .c] →
    let f := c.fmt fs
    let w := fmtWidth f
    let A := c.ad.pay
    let B := c.bd.pay
    let C := c.cd.pay
    exec (.vsel p fs ta tb) s = .next (s.lanesDone c 1 ta tb (map3 w A B C fun a b d => (if d = 0 then b else a, {}))) ∧
    exec (.vshuf p fs ta tb) s = .next (s.lanesDone c 1 ta tb (ofLanes w ((List.range (128 / w)).map fun i =>
      if 128 ≤ lane 8 C i then 0
      else
        let j := lane 8 C i % (2 * (128 / w))
        if j < 128 / w then lane w A j else lane w B (j - 128 / w)), {})) ∧
    exec (.vpack p fs ta tb sat uns) s = .next (s.lanesDone c 1 ta tb (vpackPay f (sat == 1) (uns == 1) A B)) ∧
    exec (.vunpk p fs ta tb hi) s = .next (s.lanesDone c 1 ta tb (ofLanes (2 * w) ((List.range (128 / w / 2)).map fun i =>
      intBits (2 * w) (intRead f (lane w A (hi.toNat * (128 / w / 2) + i)))), {})) ∧
    (∀ x : CTok, c.a = some (.ctl x) →
      exec (.vsplat p fs ta tb) s = .next (s.issuing c true ta tb (c.send2 1 ta (.data (if x.isStop then DTok.stop x.level
        else DTok.record (ofLanes w (List.replicate (128 / w) (x.val.toNat % 2 ^ w))) false)) tb (.ctl x)))) ∧
    (∀ x : DTok, c.a = some (.data x) →
      exec (.vextr p fs ta tb ln) s = .next (s.sendsData c 1 ta tb (Tok.val (if f = 0 ∨ f = 2 ∨ f = 3
        then BitVec.ofInt 64 (intRead f (lane w A ln.toNat)) else BitVec.ofNat 64 (lane w A ln.toNat))))) ∧
    (∀ (x : DTok) (y : Tok), c.a = some (.data x) → c.b = some y →
      exec (.vinsl p fs ta tb ln) s = .next (s.issuing c true ta tb (c.send2 1 ta
        (.data (DTok.record (ofLanes w ((lanes w A).set ln.toNat (c.bv.toNat % 2 ^ w))) false)) tb y)))

/-- VCVT, VRED, VSCAN, VQNT and VDQNT (R266, R268, R269, R274, R275). VQNT and VDQNT read their keeps at issue and write keeps
with their results 12 cycles later. None of the five has an operand B: a token there changes nothing here. -/
def Obligations.LaneConversions : Prop :=
  ∀ (s : State) (c : Ctx) (p : Pred) (fs cv : BitVec 2) (ta tb : Target) (part : BitVec 3) (op : BitVec 2) (src dst : BitVec 6),
    s.Acts c p → c.Records false [.a, .c] →
    let f := c.fmt fs
    let w := fmtWidth f
    let A := c.ad.pay
    let k := c.conv cv
    let n := if k.2.2.1 = 5 then (128 / max w (fmtWidth k.2.1) + 3) / 4 else 0
    let nq := if k.2.2.1 = 5 then 8 else 0
    let rq := s.begun.keepLanes c.k.id c.t.id w src.toNat
    let q := vqntBlock f k.2.1 k.2.2.1 k.2.2.2 (c.us nq) rq.1
    let rd := s.begun.keepLanes c.k.id c.t.id (mxWidth k.1) src.toNat
    let d := vdqntBlock k.1 f k.2.2.1 k.2.2.2 (A.toNat % 256) (c.us nq) rd.1
    exec (.vcvt p fs ta tb cv part) s = .next (s.lanesDrawn c 2 ta tb n
      (vcvtPay w (fmtWidth k.2.1) part.toNat A c.cd.pay fun i v => convert k.1 k.2.1 k.2.2.1 k.2.2.2 ((c.us n).getD i 0) v)) ∧
    exec (.vred p fs ta tb op) s = .next (s.lanesDone c 6 ta tb (vredPay f op.toNat A)) ∧
    exec (.vscan p fs ta tb op) s = .next (s.lanesDone c 6 ta tb (vscanPay f op.toNat A)) ∧
    exec (.vqnt p fs ta tb src dst cv) s = .next (s.issuedFrom rq.2 c true ta tb
      { c.emit 12 ta tb (.data (DTok.record (BitVec.ofNat 128 q.1) false)) with
        sends := keepSends (mxWidth k.2.1) dst.toNat (c.t.cyc + 12) q.2.1 ++
          (c.emit 12 ta tb (.data (DTok.record (BitVec.ofNat 128 q.1) false))).sends
        fl := q.2.2, tsk := c.drawn nq }) ∧
    exec (.vdqnt p fs ta tb src dst cv) s = .next (s.issuedFrom rd.2 c true ta tb
      { c.emit 12 ta tb (.data c.ad) with
        sends := keepSends (fmtWidth f) dst.toNat (c.t.cyc + 12) d.1 ++ (c.emit 12 ta tb (.data c.ad)).sends
        fl := d.2, tsk := c.drawn nq })

/-- A non-record at A of a lane computation goes on unchanged, in the cycle of the result it replaces, with nothing computed; and a
record of DOMAIN 1 at A stops the kiln with DOMAIN_MISMATCH, which names the slot and position and carries the record's sideband:
every instruction that computes on lanes of DOMAIN 0 (R131, R253, R397). The same holds at B and C of the instructions that take data
there, where no position before passes a non-record on or stops; of VCVT, at C, whatever stands at B (R266). That the token at A of VQNT and VDQNT counts as a data operand is
the model's reading (log entry 38, DEDUCED: R274 calls A a wait). -/
def Obligations.NonRecordsAndDomains : Prop :=
  ∀ (s : State) (c : Ctx) (p : Pred) (fs cv op : BitVec 2) (ta tb : Target) (cc part : BitVec 3) (cls : BitVec 10) (sh src dst : BitVec 6)
      (sat uns hi : BitVec 1) (x : DTok), s.Acts c p → c.a = some (.data x) →
    (x.isRecord = false → (∀ y : DTok, c.b = some (.data y) ∨ c.c = some (.data y) → y.isRecord = true → y.domain = false) →
      exec (.vadd p fs ta tb) s = .next (s.sendsData c 1 ta tb (.data x)) ∧
      exec (.vsub p fs ta tb) s = .next (s.sendsData c 1 ta tb (.data x)) ∧
      exec (.vmul p fs ta tb) s = .next (s.sendsData c 2 ta tb (.data x)) ∧
      exec (.vmad p fs ta tb) s = .next (s.sendsData c 2 ta tb (.data x)) ∧
      exec (.vmin p fs ta tb) s = .next (s.sendsData c 1 ta tb (.data x)) ∧
      exec (.vmax p fs ta tb) s = .next (s.sendsData c 1 ta tb (.data x)) ∧
      exec (.vabs p fs ta tb) s = .next (s.sendsData c 1 ta tb (.data x)) ∧
      exec (.vneg p fs ta tb) s = .next (s.sendsData c 1 ta tb (.data x)) ∧
      exec (.vand p fs ta tb) s = .next (s.sendsData c 1 ta tb (.data x)) ∧
      exec (.vor p fs ta tb) s = .next (s.sendsData c 1 ta tb (.data x)) ∧
      exec (.vxor p fs ta tb) s = .next (s.sendsData c 1 ta tb (.data x)) ∧
      exec (.vshl p fs ta tb sh) s = .next (s.sendsData c 1 ta tb (.data x)) ∧
      exec (.vshr p fs ta tb sh) s = .next (s.sendsData c 1 ta tb (.data x)) ∧
      exec (.vsar p fs ta tb sh) s = .next (s.sendsData c 1 ta tb (.data x)) ∧
      exec (.vadds p fs ta tb) s = .next (s.sendsData c 1 ta tb (.data x)) ∧
      exec (.vsubs p fs ta tb) s = .next (s.sendsData c 1 ta tb (.data x)) ∧
      exec (.vfadd p fs ta tb) s = .next (s.sendsData c 4 ta tb (.data x)) ∧
      exec (.vfsub p fs ta tb) s = .next (s.sendsData c 4 ta tb (.data x)) ∧
      exec (.vfmul p fs ta tb) s = .next (s.sendsData c 4 ta tb (.data x)) ∧
      exec (.vfma p fs ta tb) s = .next (s.sendsData c 4 ta tb (.data x)) ∧
      exec (.vfms p fs ta tb) s = .next (s.sendsData c 4 ta tb (.data x)) ∧
      exec (.vfnma p fs ta tb) s = .next (s.sendsData c 4 ta tb (.data x)) ∧
      exec (.vfmin p fs ta tb) s = .next (s.sendsData c 2 ta tb (.data x)) ∧
      exec (.vfmax p fs ta tb) s = .next (s.sendsData c 2 ta tb (.data x)) ∧
      exec (.vfabs p fs ta tb) s = .next (s.sendsData c 1 ta tb (.data x)) ∧
      exec (.vfneg p fs ta tb) s = .next (s.sendsData c 1 ta tb (.data x)) ∧
      exec (.vfcmp p fs ta tb cc) s = .next (s.sendsData c 1 ta tb (.data x)) ∧
      exec (.vsel p fs ta tb) s = .next (s.sendsData c 1 ta tb (.data x)) ∧
      exec (.vfrcp p fs ta tb) s = .next (s.sendsData c 12 ta tb (.data x)) ∧
      exec (.vfrsq p fs ta tb) s = .next (s.sendsData c 12 ta tb (.data x)) ∧
      exec (.vfcls p fs ta tb cls) s = .next (s.sendsData c 1 ta tb (.data x)) ∧
      exec (.vfscl p fs ta tb) s = .next (s.sendsData c 4 ta tb (.data x)) ∧
      exec (.vcvt p fs ta tb cv part) s = .next (s.sendsData c 2 ta tb (.data x)) ∧
      exec (.vrint p fs ta tb cv) s = .next (s.sendsData c 2 ta tb (.data x)) ∧
      exec (.vfexp p fs ta tb) s = .next (s.sendsData c 12 ta tb (.data x)) ∧
      exec (.vflog p fs ta tb) s = .next (s.sendsData c 12 ta tb (.data x)) ∧
      exec (.vxexp p fs ta tb) s = .next (s.sendsData c 2 ta tb (.data x)) ∧
      exec (.vred p fs ta tb op) s = .next (s.sendsData c 6 ta tb (.data x)) ∧
      exec (.vscan p fs ta tb op) s = .next (s.sendsData c 6 ta tb (.data x)) ∧
      exec (.vshuf p fs ta tb) s = .next (s.sendsData c 1 ta tb (.data x)) ∧
      exec (.vpack p fs ta tb sat uns) s = .next (s.sendsData c 1 ta tb (.data x)) ∧
      exec (.vunpk p fs ta tb hi) s = .next (s.sendsData c 1 ta tb (.data x)) ∧
      exec (.vqnt p fs ta tb src dst cv) s = .next (s.sendsData c 12 ta tb (.data x)) ∧
      exec (.vdqnt p fs ta tb src dst cv) s = .next (s.sendsData c 12 ta tb (.data x)) ∧
      exec (.vprune p fs ta tb) s = .next (s.sendsData c 4 ta tb (.data x))) ∧
    (x.isRecord = true → x.domain = true →
      let t := s.issuing c true ta tb (c.stop 0x38 c.slot x.side)
      exec (.vadd p fs ta tb) s = .next t ∧
      exec (.vsub p fs ta tb) s = .next t ∧
      exec (.vmul p fs ta tb) s = .next t ∧
      exec (.vmad p fs ta tb) s = .next t ∧
      exec (.vmin p fs ta tb) s = .next t ∧
      exec (.vmax p fs ta tb) s = .next t ∧
      exec (.vabs p fs ta tb) s = .next t ∧
      exec (.vneg p fs ta tb) s = .next t ∧
      exec (.vand p fs ta tb) s = .next t ∧
      exec (.vor p fs ta tb) s = .next t ∧
      exec (.vxor p fs ta tb) s = .next t ∧
      exec (.vshl p fs ta tb sh) s = .next t ∧
      exec (.vshr p fs ta tb sh) s = .next t ∧
      exec (.vsar p fs ta tb sh) s = .next t ∧
      exec (.vadds p fs ta tb) s = .next t ∧
      exec (.vsubs p fs ta tb) s = .next t ∧
      exec (.vfadd p fs ta tb) s = .next t ∧
      exec (.vfsub p fs ta tb) s = .next t ∧
      exec (.vfmul p fs ta tb) s = .next t ∧
      exec (.vfma p fs ta tb) s = .next t ∧
      exec (.vfms p fs ta tb) s = .next t ∧
      exec (.vfnma p fs ta tb) s = .next t ∧
      exec (.vfmin p fs ta tb) s = .next t ∧
      exec (.vfmax p fs ta tb) s = .next t ∧
      exec (.vfabs p fs ta tb) s = .next t ∧
      exec (.vfneg p fs ta tb) s = .next t ∧
      exec (.vfcmp p fs ta tb cc) s = .next t ∧
      exec (.vsel p fs ta tb) s = .next t ∧
      exec (.vfrcp p fs ta tb) s = .next t ∧
      exec (.vfrsq p fs ta tb) s = .next t ∧
      exec (.vfcls p fs ta tb cls) s = .next t ∧
      exec (.vfscl p fs ta tb) s = .next t ∧
      exec (.vcvt p fs ta tb cv part) s = .next t ∧
      exec (.vrint p fs ta tb cv) s = .next t ∧
      exec (.vfexp p fs ta tb) s = .next t ∧
      exec (.vflog p fs ta tb) s = .next t ∧
      exec (.vxexp p fs ta tb) s = .next t ∧
      exec (.vred p fs ta tb op) s = .next t ∧
      exec (.vscan p fs ta tb op) s = .next t ∧
      exec (.vshuf p fs ta tb) s = .next t ∧
      exec (.vpack p fs ta tb sat uns) s = .next t ∧
      exec (.vunpk p fs ta tb hi) s = .next t ∧
      exec (.vqnt p fs ta tb src dst cv) s = .next t ∧
      exec (.vdqnt p fs ta tb src dst cv) s = .next t ∧
      exec (.vprune p fs ta tb) s = .next t) ∧
    (let two : List (Instr × Nat) :=
     [(Instr.vadd p fs ta tb, 1), (.vsub p fs ta tb, 1), (.vmul p fs ta tb, 2), (.vmin p fs ta tb, 1), (.vmax p fs ta tb, 1),
      (.vand p fs ta tb, 1), (.vor p fs ta tb, 1), (.vxor p fs ta tb, 1), (.vshl p fs ta tb sh, 1), (.vshr p fs ta tb sh, 1),
      (.vsar p fs ta tb sh, 1), (.vadds p fs ta tb, 1), (.vsubs p fs ta tb, 1), (.vfadd p fs ta tb, 4), (.vfsub p fs ta tb, 4),
      (.vfmul p fs ta tb, 4), (.vfmin p fs ta tb, 2), (.vfmax p fs ta tb, 2), (.vfcmp p fs ta tb cc, 1), (.vfscl p fs ta tb, 4),
      (.vpack p fs ta tb sat uns, 1), (.vprune p fs ta tb, 4)]
     let three : List (Instr × Nat) :=
     [(Instr.vmad p fs ta tb, 2), (.vfma p fs ta tb, 4), (.vfms p fs ta tb, 4), (.vfnma p fs ta tb, 4), (.vsel p fs ta tb, 1),
      (.vshuf p fs ta tb, 1)]
     x.isRecord = true → x.domain = false → ∀ y : DTok,
      (c.b = some (.data y) →
        (∀ i ∈ two,
          (y.isRecord = false → exec i.1 s = .next (s.sendsData c i.2 ta tb (.data y))) ∧
          (y.isRecord = true → y.domain = true → exec i.1 s = .next (s.issuing c true ta tb (c.stop 0x38 (c.slot + 2 ^ 8) y.side)))) ∧
        (∀ i ∈ three,
          (y.isRecord = false → (∀ z : DTok, c.c = some (.data z) → z.isRecord = true → z.domain = false) →
            exec i.1 s = .next (s.sendsData c i.2 ta tb (.data y))) ∧
          (y.isRecord = true → y.domain = true → exec i.1 s = .next (s.issuing c true ta tb (c.stop 0x38 (c.slot + 2 ^ 8) y.side))))) ∧
      (c.c = some (.data y) → (∀ z : DTok, c.b = some (.data z) → z.isRecord = true ∧ z.domain = false) → ∀ i ∈ three,
        (y.isRecord = false → exec i.1 s = .next (s.sendsData c i.2 ta tb (.data y))) ∧
        (y.isRecord = true → y.domain = true → exec i.1 s = .next (s.issuing c true ta tb (c.stop 0x38 (c.slot + 2 * 2 ^ 8) y.side)))) ∧
      (c.c = some (.data y) →
        (y.isRecord = false → exec (.vcvt p fs ta tb cv part) s = .next (s.sendsData c 2 ta tb (.data y))) ∧
        (y.isRecord = true → y.domain = true →
          exec (.vcvt p fs ta tb cv part) s = .next (s.issuing c true ta tb (c.stop 0x38 (c.slot + 2 * 2 ^ 8) y.side)))))

/-! Rows 0x7_ to 0x9_. An instruction that has no stop at A issues, and its access goes on as work under way; what that work
then does is stated with the events. -/

/-- The scratchpad loads and stores of R282 to R284, FESET, FECLR and FETST of R286: an effective address that lies in the
scratchpad and is aligned to the access issues the access for the next cycle; a store whose B writes nothing only sends its
order tokens (R280); an address that is misaligned or reaches beyond the scratchpad raises SCRATCH_RANGE with the slot and
the address, of LDSX and STSX the first such lane address, and makes no access (R412). -/
def Obligations.ScratchpadIssues : Prop :=
  (∀ (s : State) (c : Ctx) (p : Pred) (lq : LoadQual) (sq : StoreQual) (ta tb : Target) (size : BitVec 2) (sx : BitVec 1) (off : BitVec 21),
      s.Acts c p → (∀ t : Tok, c.a = some t → t.isStop = false) →
      let n := 2 ^ size.toNat
      let ea := (c.av + off.signExtend 64).toNat
      let eas := (List.range 4).map fun j => (BitVec.ofNat 32 (lane 32 c.ad.pay j) + off.signExtend 32).toNat
      let lf : BitVec 2 := match lq with | .plain => 0 | .waitF => 1 | .waitC => 2
      let sf : BitVec 2 := match sq with | .setFull => 0 | .waitE => 1 | .noFe => 2
      let go := fun (es : List Nat) (op : ScratchOp) (fs : BitVec 2) => c.waits (.scratch es op fs c.deps (c.t.cyc + 1)) (c.t.cyc + 1)
      (ea + n ≤ 0x18000 → ea % n = 0 →
        exec (.lds p lq ta tb size sx off) s = .next (s.issuing c false ta tb (go [ea] (.load n (sx == 1)) lf)) ∧
        ((∀ t : Tok, c.b = some t → t.writesNothing = false) →
          exec (.sts p sq ta tb size off) s = .next (s.issuing c false ta tb (go [ea] (.store (leBytes n c.bv.toNat)) sf)))) ∧
      (ea + 16 ≤ 0x18000 → ea % 16 = 0 →
        exec (.ldsv p lq ta tb off) s = .next (s.issuing c true ta tb (go [ea] .loadVec lf)) ∧
        ((∀ t : Tok, c.b = some t → t.writesNothing = false) →
          exec (.stsv p sq ta tb off) s = .next (s.issuing c true ta tb (go [ea] (.storeVec c.bd.pay c.bd.domain) sf))) ∧
        exec (.feset p ta tb off) s = .next (s.issuing c false ta tb (go [ea] .feSet 0)) ∧
        exec (.feclr p ta tb off) s = .next (s.issuing c false ta tb (go [ea] .feClr 0)) ∧
        exec (.fetst p ta tb off) s = .next (s.issuing c false ta tb (go [ea] .feTst 0))) ∧
      ((∀ a ∈ eas, a + n ≤ 0x18000 ∧ a % n = 0) →
        exec (.ldsx p lq ta tb size sx off) s = .next (s.issuing c true ta tb (go eas (.gather n (sx == 1)) lf)) ∧
        ((∀ t : Tok, c.b = some t → t.writesNothing = false) →
          exec (.stsx p sq ta tb size off) s = .next (s.issuing c true ta tb (go eas (.scatter n c.bd.pay c.bd.domain) sf)))) ∧
      (∀ t : Tok, c.b = some t → t.writesNothing = true →
        exec (.sts p sq ta tb size off) s = .next (s.sends c 1 ta tb Tok.order) ∧
        exec (.stsv p sq ta tb off) s = .next (s.sendsData c 1 ta tb Tok.order) ∧
        exec (.stsx p sq ta tb size off) s = .next (s.sendsData c 3 ta tb Tok.order))) ∧
  (∀ (s : State) (c : Ctx) (p : Pred) (lq : LoadQual) (sq : StoreQual) (ta tb : Target) (size : BitVec 2) (sx : BitVec 1) (off : BitVec 21),
      s.Acts c p → (∀ t : Tok, c.a = some t → t.isStop = false) → (∀ t : Tok, c.b = some t → t.writesNothing = false) →
      let n := 2 ^ size.toNat
      let ea := (c.av + off.signExtend 64).toNat
      (0x18000 < ea + n ∨ ea % n ≠ 0 →
        exec (.lds p lq ta tb size sx off) s = .next (s.issuing c false ta tb (c.stop 0x25 c.slot ea)) ∧
        exec (.sts p sq ta tb size off) s = .next (s.issuing c false ta tb (c.stop 0x25 c.slot ea))) ∧
      (0x18000 < ea + 16 ∨ ea % 16 ≠ 0 →
        exec (.ldsv p lq ta tb off) s = .next (s.issuing c true ta tb (c.stop 0x25 c.slot ea)) ∧
        exec (.stsv p sq ta tb off) s = .next (s.issuing c true ta tb (c.stop 0x25 c.slot ea)) ∧
        exec (.feset p ta tb off) s = .next (s.issuing c false ta tb (c.stop 0x25 c.slot ea)) ∧
        exec (.feclr p ta tb off) s = .next (s.issuing c false ta tb (c.stop 0x25 c.slot ea)) ∧
        exec (.fetst p ta tb off) s = .next (s.issuing c false ta tb (c.stop 0x25 c.slot ea))) ∧
      (∀ (good more : List Nat) (a : Nat),
        ((List.range 4).map fun j => (BitVec.ofNat 32 (lane 32 c.ad.pay j) + off.signExtend 32).toNat) = good ++ a :: more →
        (∀ x ∈ good, x + n ≤ 0x18000 ∧ x % n = 0) → 0x18000 < a + n ∨ a % n ≠ 0 →
        exec (.ldsx p lq ta tb size sx off) s = .next (s.issuing c true ta tb (c.stop 0x25 c.slot a)) ∧
        exec (.stsx p sq ta tb size off) s = .next (s.issuing c true ta tb (c.stop 0x25 c.slot a))))

/-- A stop token at A of a load, store or atomic makes no access: the stop goes to TGA in the plane of the value result, an
order token to TGB (R280). The cycles in which the two leave are the model's reading (log entry 39, DEDUCED): the stop after the latency
of the access, the order token in the next cycle. -/
def Obligations.StopPassesMemory : Prop :=
  ∀ (s : State) (c : Ctx) (p : Pred) (lq : LoadQual) (sq : StoreQual) (gq : GlobalQual) (ta tb : Target) (size : BitVec 2) (sx : BitVec 1)
      (scope : BitVec 3) (keep : BitVec 6) (off : BitVec 21) (t : Tok),
    s.Acts c p → c.a = some t → t.isStop = true →
    let pass := fun (plane : Bool) (lat : Nat) => { c.nothing with
      sends := [⟨ta, Tok.stop plane t.level, c.t.cyc + lat⟩, ⟨tb, Tok.order, c.t.cyc + 1⟩], doneAt := c.t.cyc + lat }
    let s0 := s.begun.modTile c.k.id c.t.id fun tl => { tl with elems := 0 }
    exec (.lds p lq ta tb size sx off) s = .next (s.issuing c false ta tb (pass false 2)) ∧
    exec (.ldsv p lq ta tb off) s = .next (s.issuing c true ta tb (pass true 2)) ∧
    exec (.ldsx p lq ta tb size sx off) s = .next (s.issuing c true ta tb (pass true 3)) ∧
    exec (.sts p sq ta tb size off) s = .next (s.issuing c false ta tb (pass false 1)) ∧
    exec (.stsv p sq ta tb off) s = .next (s.issuing c true ta tb (pass false 1)) ∧
    exec (.stsx p sq ta tb size off) s = .next (s.issuing c true ta tb (pass false 3)) ∧
    exec (.gld p gq ta tb scope size off) s = .next (s.issuedFrom s0 c false ta tb (pass false 1)) ∧
    exec (.gldv p gq ta tb scope off) s = .next (s.issuedFrom s0 c true ta tb (pass true 1)) ∧
    exec (.gst p gq ta tb scope size off) s = .next (s.issuedFrom s0 c false ta tb (pass false 1)) ∧
    exec (.gstv p gq ta tb scope off) s = .next (s.issuedFrom s0 c true ta tb (pass false 1)) ∧
    ∀ i ∈ [Instr.aadd p gq ta tb scope size off, .aand p gq ta tb scope size off, .aor p gq ta tb scope size off,
        .axor p gq ta tb scope size off, .amin p gq ta tb scope size off, .amax p gq ta tb scope size off,
        .aminu p gq ta tb scope size off, .amaxu p gq ta tb scope size off, .axch p gq ta tb scope size off,
        .acas p gq ta tb scope size keep off, .afadd p gq ta tb scope off, .atas p gq ta tb scope off],
      exec i s = .next (s.issuedFrom s0 c false ta tb (pass false 1))

/-- KRD, KWR, ACRD, ACWR, ACCLR, WICK, WADV and BMWAIT (R287 to R290, R304). KRD reads its keep at issue, a poisoned one
as a void record (R421); KWR writes the keep
with its results; the accumulator instructions wait by R126. -/
def Obligations.KeepsAndAccumulators : Prop :=
  ∀ (s : State) (c : Ctx) (p : Pred) (ta tb : Target) (k : BitVec 6) (row : BitVec 6) (qr w : BitVec 4) (first n : BitVec 6) (off : BitVec 21),
    s.Acts c p →
    let ea := (c.av + off.signExtend 64).toNat
    let rd := s.begun.keepRead c.k.id c.t.id k.toNat
    (s.begun.ocPoisoned c.k.id c.t.id 3 (16 * k.toNat) 16 = false →
      exec (.krd p ta tb k) s = .next (s.issuedFrom rd.2 c true ta tb (c.emit 1 ta tb (.data (DTok.record rd.1 false))))) ∧
    (s.begun.ocPoisoned c.k.id c.t.id 3 (16 * k.toNat) 16 = true →
      exec (.krd p ta tb k) s = .next (s.issuedFrom (rd.2.poisonSeen
        (c.k.faultReq c.t.id c.x.task c.x.block c.slot 0x29 2 0 0) (c.k.pa c.t.id 3 (16 * k.toNat))) c true ta tb (c.emit 1 ta tb (.data (DTok.void true false 0))))) ∧
    (∀ x : DTok, c.a = some (.data x) → x.isRecord = true →
      exec (.kwr p ta tb k) s = .next (s.issuing c true ta tb { c.emit 1 ta tb (.data x) with
        sends := [⟨.keep k, .data x, c.t.cyc + 1⟩, ⟨ta, .data x, c.t.cyc + 1⟩, ⟨tb, .data x, c.t.cyc + 1⟩] })) ∧
    (∀ x : DTok, c.a = some (.data x) → x.isRecord = false → exec (.kwr p ta tb k) s = .next (s.sendsData c 1 ta tb (.data x))) ∧
    exec (.acrd p ta tb row qr) s = .next (s.issuing c true ta tb { c.nothing with work := .accum row.toNat qr.toNat none }) ∧
    (∀ x : Tok, c.a = some x →
      exec (.acwr p ta tb row qr) s = .next (s.issuing c true ta tb { c.nothing with work := .accum row.toNat qr.toNat (some x) })) ∧
    exec (.acclr p ta tb) s = .next (s.issuing c false ta tb { c.nothing with work := .acclr, doneAt := c.t.cyc + 16 }) ∧
    exec (.wick p ta tb w first n) s =
      .next (s.issuing c false ta tb { c.nothing with work := .wick w.toNat first.toNat (n.toNat + 1) }) ∧
    exec (.wadv p ta tb w n) s = .next (s.issuing c false ta tb { c.nothing with work := .wadv w.toNat (n.toNat + 1) c.deps }) ∧
    (ea + 8 ≤ 0x18000 → ea % 8 = 0 → c.bv ≠ 0 →
      exec (.bmwait p ta tb off) s = .next (s.issuing c false ta tb { c.nothing with work := .bmwait ea c.bv })) ∧
    (ea + 8 ≤ 0x18000 → ea % 8 = 0 → c.bv = 0 → exec (.bmwait p ta tb off) s = .next (s.sends c 1 ta tb Tok.order)) ∧
    (0x18000 < ea + 8 ∨ ea % 8 ≠ 0 → exec (.bmwait p ta tb off) s = .next (s.issuing c false ta tb (c.stop 0x25 c.slot ea)))

/-- The global loads and stores of R291 and R292: an address of a form that R291 admits goes to the memory port, with its
qualifiers and its scope; GLDV and GSTV need 16-byte alignment. A store whose B writes nothing makes no access and only sends its
order tokens (R280). That an address both of a bad form and misaligned raises ADDRESS_FORM is the model's reading (log entry 41,
DEDUCED: R412 gives no order). -/
def Obligations.GlobalIssues : Prop :=
  (∀ (s : State) (c : Ctx) (p : Pred) (q : GlobalQual) (ta tb : Target) (scope : BitVec 3) (size : BitVec 2) (off : BitVec 21),
    s.Acts c p → (∀ t : Tok, c.a = some t → t.isStop = false) → (∀ t : Tok, c.b = some t → t.writesNothing = false) →
    let n := 2 ^ size.toNat
    let ea := c.av + off.signExtend 64
    let acq := match q with | .acq | .acqRel => true | _ => false
    let rel := match q with | .rel | .acqRel => true | _ => false
    let go := fun (code : BitVec 8) (op : GlobalOp) =>
      { c.nothing with work := .portWait ⟨op, code, ea, scope.toNat, acq, rel, c.deps⟩ none none }
    (c.k.eaBad ea n = false →
      exec (.gld p q ta tb scope size off) s = .next (s.issuing c false ta tb (go 0x80 (.read n))) ∧
      exec (.gst p q ta tb scope size off) s = .next (s.issuing c false ta tb (go 0x82 (.write (leBytes n c.bv.toNat))))) ∧
    (c.k.eaBad ea 16 = false → ea.toNat % 16 = 0 →
      exec (.gldv p q ta tb scope off) s = .next (s.issuing c true ta tb (go 0x81 .readVec)) ∧
      exec (.gstv p q ta tb scope off) s = .next (s.issuing c true ta tb (go 0x83 (.writeVec c.bd.pay c.bd.domain)))) ∧
    (c.k.eaBad ea n = true →
      exec (.gld p q ta tb scope size off) s = .next (s.issuing c false ta tb (c.stop 0x20 0x80 ea.toNat)) ∧
      exec (.gst p q ta tb scope size off) s = .next (s.issuing c false ta tb (c.stop 0x20 0x82 ea.toNat))) ∧
    (c.k.eaBad ea 16 = true →
      exec (.gldv p q ta tb scope off) s = .next (s.issuing c true ta tb (c.stop 0x20 0x81 ea.toNat)) ∧
      exec (.gstv p q ta tb scope off) s = .next (s.issuing c true ta tb (c.stop 0x20 0x83 ea.toNat))) ∧
    (c.k.eaBad ea 16 = false → ea.toNat % 16 ≠ 0 →
      exec (.gldv p q ta tb scope off) s = .next (s.issuing c true ta tb (c.stop 0x26 0x81 ea.toNat)) ∧
      exec (.gstv p q ta tb scope off) s = .next (s.issuing c true ta tb (c.stop 0x26 0x83 ea.toNat)))) ∧
  (∀ (s : State) (c : Ctx) (p : Pred) (q : GlobalQual) (ta tb : Target) (scope : BitVec 3) (size : BitVec 2) (off : BitVec 21) (y : Tok),
    s.Acts c p → (∀ t : Tok, c.a = some t → t.isStop = false) → c.b = some y → y.writesNothing = true →
    exec (.gst p q ta tb scope size off) s = .next (s.sends c 1 ta tb Tok.order) ∧
    exec (.gstv p q ta tb scope off) s = .next (s.sendsData c 1 ta tb Tok.order))

/-- The atomics of R293: an aligned address of a form that R291 admits goes to the memory port; one of no such form raises
ADDRESS_FORM, a misaligned one ALIGNMENT, with the instruction's OP byte (R412). ACAS reads its comparand from its keep at issue. That
an address both of a bad form and misaligned raises ADDRESS_FORM is the model's reading (log entry 41, DEDUCED: R412 gives no order). -/
def Obligations.AtomicIssues : Prop :=
  ∀ (s : State) (c : Ctx) (p : Pred) (q : GlobalQual) (ta tb : Target) (scope : BitVec 3) (size : BitVec 2) (keep : BitVec 6) (off : BitVec 21),
    s.Acts c p → (∀ t : Tok, c.a = some t → t.isStop = false) →
    let n := 2 ^ size.toNat
    let ea := c.av + off.signExtend 64
    let acq := match q with | .acq | .acqRel => true | _ => false
    let rel := match q with | .rel | .acqRel => true | _ => false
    let go := fun (code : BitVec 8) (n : Nat) (cmp : Word) =>
      { c.nothing with work := .portWait ⟨.atomic code n c.bv cmp, code, ea, scope.toNat, acq, rel, c.deps⟩ none none }
    let rd := s.begun.keepRead c.k.id c.t.id keep.toNat
    (c.k.eaBad ea n = false → ea.toNat % n = 0 →
      exec (.aadd p q ta tb scope size off) s = .next (s.issuing c false ta tb (go 0x84 n 0)) ∧
      exec (.aand p q ta tb scope size off) s = .next (s.issuing c false ta tb (go 0x85 n 0)) ∧
      exec (.aor p q ta tb scope size off) s = .next (s.issuing c false ta tb (go 0x86 n 0)) ∧
      exec (.axor p q ta tb scope size off) s = .next (s.issuing c false ta tb (go 0x87 n 0)) ∧
      exec (.amin p q ta tb scope size off) s = .next (s.issuing c false ta tb (go 0x88 n 0)) ∧
      exec (.amax p q ta tb scope size off) s = .next (s.issuing c false ta tb (go 0x89 n 0)) ∧
      exec (.aminu p q ta tb scope size off) s = .next (s.issuing c false ta tb (go 0x8A n 0)) ∧
      exec (.amaxu p q ta tb scope size off) s = .next (s.issuing c false ta tb (go 0x8B n 0)) ∧
      exec (.axch p q ta tb scope size off) s = .next (s.issuing c false ta tb (go 0x8C n 0)) ∧
      exec (.acas p q ta tb scope size keep off) s = .next (s.issuedFrom rd.2 c false ta tb (go 0x8D n (rd.1.setWidth 64)))) ∧
    (c.k.eaBad ea 4 = false → ea.toNat % 4 = 0 →
      exec (.afadd p q ta tb scope off) s = .next (s.issuing c false ta tb (go 0x8E 4 0))) ∧
    (c.k.eaBad ea 8 = false → ea.toNat % 8 = 0 →
      exec (.atas p q ta tb scope off) s = .next (s.issuing c false ta tb (go 0x8F 8 0))) ∧
    ∀ x ∈ [(Instr.aadd p q ta tb scope size off, (0x84 : Nat), n), (.aand p q ta tb scope size off, 0x85, n), (.aor p q ta tb scope size off, 0x86, n),
        (.axor p q ta tb scope size off, 0x87, n), (.amin p q ta tb scope size off, 0x88, n), (.amax p q ta tb scope size off, 0x89, n),
        (.aminu p q ta tb scope size off, 0x8A, n), (.amaxu p q ta tb scope size off, 0x8B, n), (.axch p q ta tb scope size off, 0x8C, n),
        (.acas p q ta tb scope size keep off, 0x8D, n), (.afadd p q ta tb scope off, 0x8E, 4), (.atas p q ta tb scope off, 0x8F, 8)],
      let s1 := if x.2.1 = 0x8D then rd.2 else s.begun
      (c.k.eaBad ea x.2.2 = true → exec x.1 s = .next (s.issuedFrom s1 c false ta tb (c.stop 0x20 x.2.1 ea.toNat))) ∧
      (c.k.eaBad ea x.2.2 = false → ea.toNat % x.2.2 ≠ 0 →
        exec x.1 s = .next (s.issuedFrom s1 c false ta tb (c.stop 0x26 x.2.1 ea.toNat)))

/-- What each atomic makes of the old value on the SIZE bytes that the loader admits for it (R199, R293), as bit vectors of its width:
the ten on 1, 2, 4 and 8 bytes with operand and comparand restricted to that width, AFADD on 4 bytes by the FP32 addition of R106,
ATAS on 8 bytes; and what it sends to TGA, old zero-extended or, of ATAS, the old bit. -/
def Obligations.AtomicFunctions : Prop :=
  (∀ (n : Nat) (old : BitVec (8 * n)) (x m : Word), n = 1 ∨ n = 2 ∨ n = 4 ∨ n = 8 →
    let b := x.setWidth (8 * n)
    atomicNew 0x84 n old.toNat x.toNat m.toNat = (old + b).toNat ∧
    atomicNew 0x85 n old.toNat x.toNat m.toNat = (old &&& b).toNat ∧
    atomicNew 0x86 n old.toNat x.toNat m.toNat = (old ||| b).toNat ∧
    atomicNew 0x87 n old.toNat x.toNat m.toNat = (old ^^^ b).toNat ∧
    atomicNew 0x88 n old.toNat x.toNat m.toNat = (if b.slt old then b else old).toNat ∧
    atomicNew 0x89 n old.toNat x.toNat m.toNat = (if old.slt b then b else old).toNat ∧
    atomicNew 0x8A n old.toNat x.toNat m.toNat = (if b.ult old then b else old).toNat ∧
    atomicNew 0x8B n old.toNat x.toNat m.toNat = (if old.ult b then b else old).toNat ∧
    atomicNew 0x8C n old.toNat x.toNat m.toNat = b.toNat ∧
    atomicNew 0x8D n old.toNat x.toNat m.toNat = (if old = m.setWidth (8 * n) then b else old).toNat) ∧
  (∀ (old : BitVec 32) (x m : Word), atomicNew 0x8E 4 old.toNat x.toNat m.toNat = (FF.fp32.add false old.toNat (x.setWidth 32).toNat).1) ∧
  (∀ old x m : Word,
    atomicNew 0x8F 8 old.toNat x.toNat m.toNat = (old ||| 1#64 <<< (x.toNat % 64)).toNat ∧
    atomicTok 0x8F old.toNat x.toNat = Tok.pred (old.getLsbD (x.toNat % 64))) ∧
  (∀ (op : BitVec 8) (old x : Word), op ≠ 0x8F → atomicTok op old.toNat x.toNat = Tok.val old)

/-- FENCE, ORDJ, BELL, BELLA and ABSTN (R295 to R298). BELL waits for its generation; BELLA and ABSTN only enter it. Entering
a bell (R189): the tally rises by one; at the bell's count the generation is reached, the tally starts again and a release
stands 16 cycles later, and nothing else of the machine changes. That these are cycles of the tile that arrives last is the model's
reading (log entry 16, DEDUCED). -/
def Obligations.SynchronisationIssues : Prop :=
  (∀ (s : State) (c : Ctx) (p : Pred) (ta tb : Target) (scope : BitVec 3) (bell : BitVec 6), s.Acts c p →
      let r := s.begun.bellEnter c bell.toNat
      exec (.fence p ta tb scope) s = .next (s.issuing c false ta tb (c.waits (.fence scope.toNat) (c.t.cyc + 1))) ∧
      exec (.ordj p ta tb) s = .next (s.sends c 0 ta tb Tok.order) ∧
      exec (.bell p ta tb bell) s = .next (s.issuedFrom r.2 c false ta tb { c.nothing with work := .bell bell.toNat r.1 }) ∧
      exec (.bella p ta tb bell) s = .next (s.issuedFrom r.2 c false ta tb (c.emit 1 ta tb Tok.order)) ∧
      exec (.abstn p ta tb bell) s = .next (s.issuedFrom r.2 c false ta tb (c.emit 1 ta tb Tok.order))) ∧
  (∀ (s : State) (c : Ctx) (b : Nat) (x : BellSt), c.k.bells[b]? = some x →
      ∃ y : BellSt, s.bellEnter c b = (x.gen, s.modKiln c.k.id fun kl => { kl with bells := kl.bells.set b y }) ∧
        y.count = x.count ∧ y.timeout = x.timeout ∧
        (x.tally + 1 ≠ x.count → y.tally = x.tally + 1 ∧ y.gen = x.gen ∧ y.releases = x.releases ∧ y.opened.isSome = true) ∧
        (x.tally + 1 = x.count → y.tally = 0 ∧ y.gen = x.gen + 1 ∧ y.opened = none ∧
          ∃ d : List Nat, y.releases = x.releases ++ [(x.gen, c.t.id, c.t.cyc + 16, d)]))

/-- The queue and counter instructions of R299 to R303 on a queue that R299 admits and a counter id below 4,096: QPUSH and LNCH
take K[n] to K[n+3] at issue, and the request is served after a latency that the model leaves free. -/
def Obligations.QueueAndCounterIssues : Prop :=
  ∀ (s : State) (c : Ctx) (p : Pred) (ta tb : Target) (k : BitVec 6) (inc : BitVec 16), s.Acts c p →
    let q := c.av.toNat % 256
    let go := fun (s1 : State) (op : QueueOp) => Host.Outcome.next (s.issuedFrom s1.draw.2 c false ta tb
      (c.waits (.queue op c.deps) (c.t.cyc + 1 + s1.draw.1 / max 1 (c.k.period c.t))))
    let rd := s.begun.readKeeps4 c.k.id c.t.id k.toNat
    (s.begun.queueCause c.k.paddock c.av (some true) false = none →
      exec (.qpush p ta tb k) s = go rd.2 (.push q rd.1) ∧ exec (.qpop p ta tb k) s = go s.begun (.pop q k.toNat)) ∧
    (s.begun.queueCause c.k.paddock c.av none true = none → exec (.qlen p ta tb) s = go s.begun (.len q)) ∧
    (s.begun.queueCause c.k.paddock c.av (some false) false = none → exec (.lnch p ta tb k) s = go rd.2 (.lnch q rd.1)) ∧
    (c.av.toNat < 4096 →
      exec (.sigc p ta tb inc) s = go s.begun (.sigc c.av.toNat inc.toNat) ∧
      exec (.waitc p ta tb) s = .next (s.issuing c false ta tb (c.waits (.queue (.waitc c.av.toNat c.bv) c.deps) (c.t.cyc + 1)))) ∧
    (4096 ≤ c.av.toNat →
      exec (.sigc p ta tb inc) s = .next (s.issuing c false ta tb (c.stop 0x0B c.av.toNat 0x99)) ∧
      exec (.waitc p ta tb) s = .next (s.issuing c false ta tb (c.stop 0x0B c.av.toNat 0x9A))) ∧
    (∀ code : Nat, s.begun.queueCause c.k.paddock c.av (some true) false = some code →
      exec (.qpush p ta tb k) s = .next (s.issuing c false ta tb (c.stop code c.av.toNat 0x95)) ∧
      exec (.qpop p ta tb k) s = .next (s.issuing c false ta tb (c.stop code c.av.toNat 0x96))) ∧
    (∀ code : Nat, s.begun.queueCause c.k.paddock c.av none true = some code →
      exec (.qlen p ta tb) s = .next (s.issuing c false ta tb (c.stop code c.av.toNat 0x97))) ∧
    (∀ code : Nat, s.begun.queueCause c.k.paddock c.av (some false) false = some code →
      exec (.lnch p ta tb k) s = .next (s.issuing c false ta tb (c.stop code c.av.toNat 0x98)))

/-! Rows 0xA_ to 0xD_. -/

/-- The stream instructions and takes at issue, EMSTP and TKIND (R309 to R319): the work that each leaves under way. ITGATE
(R317): with OUT clear it passes its token on at once and, unless the token closes the loop, sets OUT; with OUT set it takes
its done tokens first; a stop below LV passes on without either. -/
def Obligations.StreamIssues : Prop :=
  (∀ (s : State) (c : Ctx) (p : Pred) (ta tb : Target) (step : BitVec 20) (st0 st1 : BitVec 12) (lv vc ctr : BitVec 3) (dpl op test : BitVec 1)
        (base cap : BitVec 12), s.Acts c p →
      let go := fun w : Work => { c.nothing with work := w }
      let n0 := c.bv.toNat % 2 ^ 32
      let na := c.av.toNat % 2 ^ 32
      exec (.lgen p ta tb step lv dpl) s = .next (s.issuing c false ta tb (go (.lgen 0 na c.bv (step.signExtend 64) lv (dpl == 1)))) ∧
      exec (.lgen2 p ta tb st0 st1 lv dpl) s =
        .next (s.issuing c false ta tb (go (.lgen2 0 0 na n0 c.cv (st1.signExtend 64) (st0.signExtend 64) lv (dpl == 1)))) ∧
      (c.b ≠ none → exec (.spscn p ta tb 0 lv dpl) s = .next (s.issuing c false ta tb (go (.spscn 0 0 (c.av &&& c.bv) c.cv lv (dpl == 1)))) ∧
        exec (.spscn p ta tb 1 lv dpl) s = .next (s.issuing c false ta tb (go (.spscn 0 0 (c.av ||| c.bv) c.cv lv (dpl == 1))))) ∧
      (c.b = none → exec (.spscn p ta tb op lv dpl) s = .next (s.issuing c false ta tb (go (.spscn 0 0 c.av c.cv lv (dpl == 1))))) ∧
      exec (.rptc p ta tb base cap) s = .next (s.issuing c true ta tb (go (.rptc base.toNat (cap.toNat + 1) c.ad))) ∧
      exec (.rpte p ta tb base cap) s = .next (s.issuing c true ta tb (go (.rpte base.toNat (cap.toNat + 1) na 0 0 false))) ∧
      exec (.emstp p ta tb lv dpl) s = .next (s.sends c 1 ta tb (Tok.stop (dpl == 1) lv)) ∧
      (∀ t : Tok, c.a = some t →
        exec (.tkind p ta tb lv 0) s = .next (s.issuing c false ta tb
          (c.send2 1 ta (Tok.val (BitVec.ofNat 64 (t.kind.toNat + t.level.toNat * 2 ^ 4 + t.plane.toNat * 2 ^ 7))) tb t)) ∧
        exec (.tkind p ta tb lv 1) s = .next (s.issuing c false ta tb (c.send2 1 ta (Tok.pred (t.isStop && lv ≤ t.level)) tb t))) ∧
      (s.wlog = [] →
        exec (.take p ta tb vc) s = .next (s.issuing c (s.takePlane c vc) ta tb (go (.take (s.takePlane c vc) vc.toNat)))) ∧
      exec (.cnttk p ta tb ctr lv dpl) s =
        .next (s.issuing c false ta tb (c.waits (.cnttk ctr.toNat c.av lv (dpl == 1) (c.t.cyc + 16)) (c.t.cyc + 16)))) ∧
  (∀ (s : State) (c : Ctx) (p : Pred) (ta tb : Target) (vc lv : BitVec 3) (d : BitVec 4) (x : CTok), s.Acts c p → c.a = some (.ctl x) →
      let ends := x.isStop && lv ≤ x.level
      (x.isStop = true → ends = false → exec (.itgate p ta tb vc d lv) s = .next (s.sends c 1 ta tb (.ctl x))) ∧
      (x.isStop = false ∨ ends = true → c.tsk.gates.contains (c.x.block, c.slot) = false →
        exec (.itgate p ta tb vc d lv) s = .next (s.issuing c false ta tb { c.emit 1 ta tb (.ctl x) with
          tsk := c.tsk.setGate c.x.block c.slot (!ends) })) ∧
      (x.isStop = false ∨ ends = true → c.tsk.gates.contains (c.x.block, c.slot) = true →
        exec (.itgate p ta tb vc d lv) s = .next (s.issuing c false ta tb { c.nothing with work := .itgate vc.toNat d.toNat x ends })))

/-- The tokens that a generator's work sends, from a state of its work on: each token to TGA in order, then the value to TGB. -/
def Obligations.GeneratedStreams : Prop :=
  (∀ (n : Nat) (b st : Word) (lv : BitVec 3) (dpl : Bool),
    Work.stream (n + 2) (.lgen 0 n b st lv dpl) =
      some ((List.range n).map (fun i => genTok dpl (b + BitVec.ofNat 64 i * st)) ++ [Tok.stop dpl lv], Tok.val (BitVec.ofNat 64 n))) ∧
  (∀ (n1 n0 : Nat) (b s1 s0 : Word) (lv : BitVec 3) (dpl : Bool), 0 < n1 →
    Work.stream (n1 * (n0 + 1) + 1) (.lgen2 0 0 n1 n0 b s1 s0 lv dpl) =
      some ((List.range n1).flatMap (fun i => (List.range n0).map (fun j => genTok dpl (b + BitVec.ofNat 64 i * s1 + BitVec.ofNat 64 j * s0)) ++
        [Tok.stop dpl (if i + 1 = n1 then lv + 1 else lv)]), Tok.val (BitVec.ofNat 64 (n1 * n0)))) ∧
  (∀ (n0 : Nat) (b s1 s0 : Word) (lv : BitVec 3) (dpl : Bool),
    Work.stream 2 (.lgen2 0 0 0 n0 b s1 s0 lv dpl) = some ([Tok.stop dpl (lv + 1)], Tok.val 0)) ∧
  (∀ (m b : Word) (lv : BitVec 3) (dpl : Bool),
    let is := (List.range 64).filter fun i => m.getLsbD i
    Work.stream (is.length + 2) (.spscn 0 0 m b lv dpl) =
      some (is.map (fun i => genTok dpl (b + BitVec.ofNat 64 i)) ++ [Tok.stop dpl lv], Tok.val (BitVec.ofNat 64 is.length)))

/-- The sideband instructions of R320 and R321 complete on every operand: SEQRD, WGTRD, WGTWR, ISGAP, GAPRD and VOIDR on the token at A
whatever its KIND, EMGAP on its three control values, with SATFLAG where a count saturates (R107). -/
def Obligations.SidebandInstructions : Prop :=
  ∀ (s : State) (c : Ctx) (p : Pred) (ta tb : Target) (test fa fb : BitVec 2), s.Acts c p →
    let x := c.ad
    let gapf := fun f : BitVec 2 => if x.kind = 2 then BitVec.ofNat 64 (match f.toNat with
      | 0 => x.gapFields.lost | 1 => x.gapFields.wlost | 2 => x.gapFields.first | _ => x.gapFields.last) else 0
    exec (.seqrd p ta tb) s = .next (s.issuing c true ta tb (c.send2 1 ta (Tok.val (x.seq.setWidth 64)) tb (.data x))) ∧
    exec (.wgtrd p ta tb) s = .next (s.issuing c true ta tb (c.send2 1 ta (Tok.val (x.weight.setWidth 64)) tb (.data x))) ∧
    (x.kind = 0 → exec (.wgtwr p ta tb) s = .next (s.issuing c true ta tb
      { c.emit 1 ta tb (.data { x with weight := BitVec.ofNat 16 (min c.bv.toNat 65535) }) with fl := { sat := decide (65535 < c.bv.toNat) } })) ∧
    (x.kind ≠ 0 → exec (.wgtwr p ta tb) s = .next (s.sendsData c 1 ta tb (.data x))) ∧
    exec (.isgap p ta tb 0) s = .next (s.issuing c true ta tb (c.send2 1 ta (Tok.pred (x.kind == 2)) tb (.data x))) ∧
    exec (.isgap p ta tb 1) s = .next (s.issuing c true ta tb (c.send2 1 ta (Tok.pred (x.kind == 4)) tb (.data x))) ∧
    exec (.isgap p ta tb 2) s = .next (s.issuing c true ta tb (c.send2 1 ta (Tok.pred (x.kind == 2 || x.kind == 4)) tb (.data x))) ∧
    exec (.isgap p ta tb 3) s = .next (s.issuing c true ta tb (c.send2 1 ta (Tok.pred (x.kind == 1)) tb (.data x))) ∧
    exec (.gaprd p ta tb fa fb) s = .next (s.issuing c true ta tb (c.send2 1 ta (Tok.val (gapf fa)) tb (Tok.val (gapf fb)))) ∧
    exec (.emgap p ta tb) s = .next (s.issuing c true ta tb
      { c.emit 1 ta tb (.data (DTok.gap ⟨c.av.toNat, c.bv.toNat, c.cv.toNat % 2 ^ 23, c.cv.toNat / 2 ^ 23 % 2 ^ 23⟩)) with
        fl := { sat := decide (2 ^ 32 ≤ c.av.toNat) || decide (2 ^ 32 ≤ c.bv.toNat) } }) ∧
    (x.kind = 0 → exec (.voidr p ta tb) s = .next (s.sendsData c 1 ta tb (.data ⟨4, 0, false, x.domain, 0, x.seq, 0, []⟩))) ∧
    (x.kind ≠ 0 → exec (.voidr p ta tb) s = .next (s.sendsData c 1 ta tb (.data x)))

/-- A gap token reports what it was made from, LOST and WLOST saturated to 32 bits (R66); and a data-plane token's sideband and
payload say all of it: what a ring entry holds reads back as the token (R62, R312). -/
def Obligations.DataTokensRoundTrip : Prop :=
  (∀ lost wlost first last : Nat,
      (DTok.gap ⟨lost, wlost, first, last⟩).gapFields = ⟨min lost (2 ^ 32 - 1), min wlost (2 ^ 32 - 1), first % 2 ^ 23, last % 2 ^ 23⟩ ∧
      (DTok.gap ⟨lost, wlost, first, last⟩).seq = BitVec.ofNat 23 first ∧ (DTok.gap ⟨lost, wlost, first, last⟩).kind = 2) ∧
  (∀ x : DTok, x.side < 2 ^ 48 ∧ DTok.ofSide x.pay x.side = { x with deps := [] })

/-- SEQ values compare modulo 2^23: `a` precedes `b` when b - a lies in 1 to 2^22 - 1 (R65); and of two different values less
than a window apart, exactly one precedes the other. -/
def Obligations.SequenceOrder : Prop :=
  ∀ a b : BitVec 23,
    (seqBefore a.toNat b.toNat = true ↔ 1 ≤ (b - a).toNat ∧ (b - a).toNat ≤ 2 ^ 22 - 1) ∧
    (seqBefore a.toNat b.toNat = true → seqBefore b.toNat a.toNat = false) ∧
    (a ≠ b → (b - a).toNat ≠ 2 ^ 22 → seqBefore a.toNat b.toNat = true ∨ seqBefore b.toNat a.toNat = true)

/-- WACC and WINCL at issue wait for their latency of four cycles, JOINK takes from its VCs (R322 to R324). That WACC and WINCL read and
write their keeps in that fourth cycle, and not at issue, is the model's reading (log entry 29, DEDUCED). -/
def Obligations.WindowIssues : Prop :=
  ∀ (s : State) (c : Ctx) (p : Pred) (fs : BitVec 2) (ta tb : Target) (acc wk : BitVec 6) (wen sat emit : BitVec 1) (zl : BitVec 5) (vl vr : BitVec 3),
    s.Acts c p →
    let fp := c.fmt fs == 7
    let at_ := c.t.cyc + 4
    exec (.wacc p fs ta tb acc wk wen sat) s =
      .next (s.issuing c true ta tb (c.waits (.wacc acc.toNat wk.toNat (wen == 1) (sat == 1) fp c.ad at_) at_)) ∧
    exec (.wincl p fs ta tb zl wk sat) s =
      .next (s.issuing c true ta tb (c.waits (.wincl zl.toNat wk.toNat (sat == 1) fp c.ad at_) at_)) ∧
    exec (.joink p fs ta tb vl vr wk emit) s =
      .next (s.issuing c true ta tb { c.nothing with work := .joink vl.toNat vr.toNat wk.toNat (emit == 1) })

/-- The MAC region's instructions at issue (R325 to R329): WLD takes its granules from a VC, WLDS and AROW read scratchpad spans
that must be 16-aligned and lie in it, WSEL changes the current bank, which an AROW of its own cycle does not yet read (R120: AROW
takes the bank as the cycle began), ADRN and AZERO wait by R126; and AROW with a stop at A makes no access and passes it on as a
control stop (R280). The stops are those of R397 and R412. The model's readings: SCRATCH_RANGE where ARRAY_OPERAND also holds (log entry
41, DEDUCED), and the cycles in which a passed stop and its order token leave (log entry 39, DEDUCED). -/
def Obligations.MacIssues : Prop :=
  ∀ (s : State) (c : Ctx) (p : Pred) (fs : BitVec 2) (ta tb : Target) (bank : BitVec 5) (vc : BitVec 3) (row n : BitVec 6) (off : BitVec 16)
      (clr : BitVec 1), s.Acts c p →
    let f := c.fmt fs
    let g := (wldTakes f).1 + (wldTakes f).2
    let ea := (c.av + off.signExtend 64).toNat
    let w := c.t.bankOf c.t.bankAt
    let span := fun e m : Nat => e % 16 = 0 ∧ e + m ≤ 0x18000
    exec (.wld p fs ta tb bank vc) s = .next (s.issuing c true ta tb { c.nothing with work := .wld bank.toNat f vc.toNat 0 g }) ∧
    (span c.av.toNat (16 * g) → exec (.wlds p fs ta tb bank) s =
      .next (s.issuing c true ta tb (c.waits (.wlds bank.toNat f c.av.toNat 0 g) (c.t.cyc + 1)))) ∧
    (¬ span c.av.toNat (16 * g) → exec (.wlds p fs ta tb bank) s = .next (s.issuing c true ta tb (c.stop 0x25 c.slot c.av.toNat))) ∧
    exec (.wsel p ta tb bank) s = .next (s.issuing c false ta tb { c.emit 1 ta tb Tok.order with bank := bank.toNat }) ∧
    ((∀ t : Tok, c.a = some t → t.isStop = false) → span ea (16 * (arowTiming f).1) →
      (w.2 = false → arowPair f w.1 = true → exec (.arow p fs ta tb row off) s =
        .next (s.issuing c true ta tb { c.nothing with work := .arow row.toNat ea f w.1 c.t.bankAt [] c.t.cyc none })) ∧
      (w.2 = true ∨ arowPair f w.1 = false → exec (.arow p fs ta tb row off) s =
        .next (s.issuing c true ta tb (c.stop 0x3B (c.slot + c.t.bankAt * 2 ^ 8) (f + w.1 * 2 ^ 4))))) ∧
    ((∀ t : Tok, c.a = some t → t.isStop = false) → ¬ span ea (16 * (arowTiming f).1) →
      exec (.arow p fs ta tb row off) s = .next (s.issuing c true ta tb (c.stop 0x25 c.slot ea))) ∧
    (∀ t : Tok, c.a = some t → t.isStop = true → exec (.arow p fs ta tb row off) s = .next (s.issuing c true ta tb { c.nothing with
      sends := [⟨ta, Tok.stop false t.level, c.t.cyc + 1⟩, ⟨tb, Tok.order, c.t.cyc + 1⟩], doneAt := c.t.cyc + 1 })) ∧
    exec (.adrn p ta tb row clr) s = .next (s.issuing c true ta tb { c.nothing with work := .adrn row.toNat 0 (clr == 1) [] }) ∧
    exec (.azero p ta tb row n) s = .next (s.issuing c false ta tb
      { c.nothing with work := .azero ((List.range (n.toNat + 1)).map fun i => row.toNat + i) })

/-- The spectral instructions (R330 to R332): XFWD and XINV go to the shelf's STU, or raise SCRATCH_RANGE for a source or destination
that is misaligned or reaches beyond the scratchpad (R412); CMAC acts four cycles after its issue on bins that must lie in the operator
and accumulator stores, and accumulates nothing for a non-record; CMUL and CCONJ compute on lanes of DOMAIN 1, pass the first non-record
on (R253) and stop at a record of DOMAIN 0 (R131, R397); DTAG sets DOMAIN. That a transform enters the STU in the cycle after issue is
the model's reading (log entry 103, DEDUCED), and so is that the source is named where both offsets are bad (log entry 41, DEDUCED). -/
def Obligations.SpectralIssues : Prop :=
  ∀ (s : State) (c : Ctx) (p : Pred) (fs cv : BitVec 2) (ta tb : Target) (d : BitVec 1) (x : DTok), s.Acts c p →
    let f := c.fmt fs
    let w := fmtWidth f
    let conv := c.t.conv.getD cv.toNat 0
    let b := 2 ^ (4 + min c.t.bsize 4)
    let fits := fun (e : Word) (n : Nat) => e.toNat % 16 = 0 ∧ e.toNat + n ≤ 0x18000
    let go := fun inv : Bool => c.waits (.stu false inv f conv c.av.toNat c.bv.toNat) (c.t.cyc + 1)
    (fits c.av (stuSizes false b f conv).1 → fits c.bv (stuSizes false b f conv).2 →
      exec (.xfwd p fs ta tb cv) s = .next (s.issuing c true ta tb (go false))) ∧
    (fits c.av (stuSizes true b f conv).1 → fits c.bv (stuSizes true b f conv).2 →
      exec (.xinv p fs ta tb cv) s = .next (s.issuing c true ta tb (go true))) ∧
    (∀ i ∈ [(Instr.xfwd p fs ta tb cv, false), (.xinv p fs ta tb cv, true)],
      (¬ fits c.av (stuSizes i.2 b f conv).1 → exec i.1 s = .next (s.issuing c true ta tb (c.stop 0x25 c.slot c.av.toNat))) ∧
      (fits c.av (stuSizes i.2 b f conv).1 → ¬ fits c.bv (stuSizes i.2 b f conv).2 →
        exec i.1 s = .next (s.issuing c true ta tb (c.stop 0x25 c.slot c.bv.toNat)))) ∧
    (c.a = some (.data x) →
      (x.kind = 0 → x.domain = true →
        ((∀ e ∈ cmacBins f c.bv, e.2.1 + binBytes f ≤ 0x30000 ∧ e.2.2 + 8 ≤ 0x4000) →
          exec (.cmac p fs ta tb) s = .next (s.issuing c true ta tb (c.waits (.cmac f x.pay c.bv (c.t.cyc + 4)) (c.t.cyc + 4)))) ∧
        ((∃ e ∈ cmacBins f c.bv, 0x30000 < e.2.1 + binBytes f ∨ 0x4000 < e.2.2 + 8) →
          exec (.cmac p fs ta tb) s = .next (s.issuing c true ta tb (c.stop 0x3C c.slot c.bv.toNat)))) ∧
      (x.kind = 0 → x.domain = false →
        exec (.cmac p fs ta tb) s = .next (s.issuing c true ta tb (c.stop 0x38 c.slot x.side)) ∧
        exec (.cmul p fs ta tb) s = .next (s.issuing c true ta tb (c.stop 0x38 c.slot x.side)) ∧
        exec (.cconj p fs ta tb) s = .next (s.issuing c true ta tb (c.stop 0x38 c.slot x.side))) ∧
      (x.kind = 1 → exec (.cmac p fs ta tb) s =
        .next (s.issuing c true ta tb (c.send2 4 ta (Tok.stop false x.level) tb Tok.order))) ∧
      (x.kind ≠ 0 → x.kind ≠ 1 → exec (.cmac p fs ta tb) s = .next (s.issuing c true ta tb (c.send2 4 ta Tok.order tb Tok.order))) ∧
      (x.kind ≠ 0 → (∀ y : DTok, c.b = some (.data y) → y.kind = 0 → y.domain = true) →
        exec (.cmul p fs ta tb) s = .next (s.sendsData c 4 ta tb (.data x)) ∧
        exec (.cconj p fs ta tb) s = .next (s.sendsData c 1 ta tb (.data x))) ∧
      (∀ y : DTok, (x.kind = 0 → x.domain = true) → c.b = some (.data y) →
        (y.kind = 0 → y.domain = false → exec (.cmul p fs ta tb) s = .next (s.issuing c true ta tb (c.stop 0x38 (c.slot + 2 ^ 8) y.side))) ∧
        (x.kind = 0 → y.kind ≠ 0 → exec (.cmul p fs ta tb) s = .next (s.sendsData c 4 ta tb (.data y)))) ∧
      exec (.dtag p ta tb d) s = .next (s.sendsData c 1 ta tb (.data { x with domain := d == 1 }))) ∧
    (c.Records true [.a, .b] →
      exec (.cmul p fs ta tb) s = .next (s.issuing c true ta tb (c.lanesOut 4 ta tb true (map2 w c.ad.pay c.bd.pay (cmulLane f)))) ∧
      exec (.cconj p fs ta tb) s =
        .next (s.issuing c true ta tb (c.lanesOut 1 ta tb true (map1 w c.ad.pay fun a => (a ^^^ 2 ^ (w - 1), {})))))

/-- The requests to the engines (R333 to R336): XREQ with a packet that R165 admits, DRVK, GTATT, GTDET and GTFLD issue their
request; a packet that breaks R165 raises BTU_PACKET with the field at fault (R412). The order of the checks, the field named where a
span is too large, and the range asked of BMOFF and of the space of a bitmap are the model's readings (log entry 51, DEDUCED). -/
def Obligations.EngineRequests : Prop :=
  ∀ (s : State) (c : Ctx) (p : Pred) (ta tb : Target) (named : BitVec 1) (shelf : BitVec 6), s.Acts c p →
    let pkt : BitVec 256 := c.bd.pay ++ c.ad.pay
    let near := fun op : EngineOp => Host.Outcome.next (s.issuing c false ta tb (c.waits (.engine op c.deps none) (c.t.cyc + 1)))
    let far := fun op : EngineOp => Host.Outcome.next (s.issuedFrom s.begun.draw.2 c false ta tb
      (c.waits (.engine op c.deps none) (c.t.cyc + 1 + s.begun.draw.1)))
    (pktBad pkt = none → exec (.xreq p ta tb) s = .next (s.issuing c true ta tb (c.waits (.engine (.xreq pkt) c.deps none) (c.t.cyc + 1)))) ∧
    (∀ f : Nat, pktBad pkt = some f → exec (.xreq p ta tb) s = .next (s.issuing c true ta tb (c.stop 0x40 f (pktFld pkt 64 48)))) ∧
    exec (.drvk p ta tb named shelf) s = near (.drvk (if named = 1 then shelf.toNat else c.t.id / 128) c.av c.bv) ∧
    exec (.gtatt p ta tb) s = far (.gtatt c.av c.bv) ∧
    exec (.gtdet p ta tb) s = far (.gtdet c.av c.bv) ∧
    exec (.gtfld p ta tb) s = far (.gtfld c.av c.bv)

/-! Nullified instructions (R31, R196). -/

/-- An instruction that its predicate nullifies completes in the cycle in which it issues and has no other effect (R31). It
sends nothing, but that a memory instruction, which makes no access, sends its order token, unchanged, in the same cycle to
each target that carries order tokens: both of a store, the second of a load or an atomic. The fresh order token sent where C holds
none is the model's reading (log entry 28, DEDUCED). -/
def Obligations.NullifiedInstructions : Prop :=
  (∀ (s : State) (c : Ctx) (p : Pred) (ta tb : Target) (b10x : BitVec 10) (b12x b12y : BitVec 12) (b16x : BitVec 16)
        (b1x b1y : BitVec 1) (b20x : BitVec 20) (b24x : BitVec 24) (b2x b2y : BitVec 2) (b32x : BitVec 32) (b3x b3y : BitVec 3)
        (b4x : BitVec 4) (b5x : BitVec 5) (b6x b6y : BitVec 6) (b8x : BitVec 8),
      s.Nulls c p →
      exec (.nop p) s = .next (s.issuing c false .null .null c.nothing) ∧
      exec (.exit p b5x) s = .next (s.issuing c false .null .null c.nothing) ∧
      exec (.exitx p) s = .next (s.issuing c false .null .null c.nothing) ∧
      exec (.halt p) s = .next (s.issuing c false .null .null c.nothing) ∧
      exec (.yield p b5x b16x) s = .next (s.issuing c false .null .null c.nothing) ∧
      exec (.ctxend p) s = .next (s.issuing c false .null .null c.nothing) ∧
      exec (.pset p ta tb b1x) s = .next (s.issuing c false ta tb c.nothing) ∧
      exec (.pnot p ta tb) s = .next (s.issuing c false ta tb c.nothing) ∧
      exec (.pand p ta tb) s = .next (s.issuing c false ta tb c.nothing) ∧
      exec (.por p ta tb) s = .next (s.issuing c false ta tb c.nothing) ∧
      exec (.pxor p ta tb) s = .next (s.issuing c false ta tb c.nothing) ∧
      exec (.tstz p ta tb) s = .next (s.issuing c false ta tb c.nothing) ∧
      exec (.tstnz p ta tb) s = .next (s.issuing c false ta tb c.nothing) ∧
      exec (.tstneg p ta tb) s = .next (s.issuing c false ta tb c.nothing) ∧
      exec (.tstbit p ta tb b6x) s = .next (s.issuing c false ta tb c.nothing) ∧
      exec (.add p ta tb) s = .next (s.issuing c false ta tb c.nothing) ∧
      exec (.sub p ta tb) s = .next (s.issuing c false ta tb c.nothing) ∧
      exec (.mul p ta tb) s = .next (s.issuing c false ta tb c.nothing) ∧
      exec (.mulhs p ta tb) s = .next (s.issuing c false ta tb c.nothing) ∧
      exec (.mulhu p ta tb) s = .next (s.issuing c false ta tb c.nothing) ∧
      exec (.divs p ta tb) s = .next (s.issuing c false ta tb c.nothing) ∧
      exec (.divu p ta tb) s = .next (s.issuing c false ta tb c.nothing) ∧
      exec (.rems p ta tb) s = .next (s.issuing c false ta tb c.nothing) ∧
      exec (.remu p ta tb) s = .next (s.issuing c false ta tb c.nothing) ∧
      exec (.and p ta tb) s = .next (s.issuing c false ta tb c.nothing) ∧
      exec (.or p ta tb) s = .next (s.issuing c false ta tb c.nothing) ∧
      exec (.xor p ta tb) s = .next (s.issuing c false ta tb c.nothing) ∧
      exec (.shl p ta tb) s = .next (s.issuing c false ta tb c.nothing) ∧
      exec (.shr p ta tb) s = .next (s.issuing c false ta tb c.nothing) ∧
      exec (.sar p ta tb) s = .next (s.issuing c false ta tb c.nothing) ∧
      exec (.rol p ta tb) s = .next (s.issuing c false ta tb c.nothing) ∧
      exec (.ceq p ta tb) s = .next (s.issuing c false ta tb c.nothing) ∧
      exec (.cne p ta tb) s = .next (s.issuing c false ta tb c.nothing) ∧
      exec (.clt p ta tb) s = .next (s.issuing c false ta tb c.nothing) ∧
      exec (.cle p ta tb) s = .next (s.issuing c false ta tb c.nothing) ∧
      exec (.cltu p ta tb) s = .next (s.issuing c false ta tb c.nothing) ∧
      exec (.cleu p ta tb) s = .next (s.issuing c false ta tb c.nothing) ∧
      exec (.mins p ta tb) s = .next (s.issuing c false ta tb c.nothing) ∧
      exec (.maxs p ta tb) s = .next (s.issuing c false ta tb c.nothing) ∧
      exec (.minu p ta tb) s = .next (s.issuing c false ta tb c.nothing) ∧
      exec (.maxu p ta tb) s = .next (s.issuing c false ta tb c.nothing) ∧
      exec (.abs p ta tb) s = .next (s.issuing c false ta tb c.nothing) ∧
      exec (.neg p ta tb) s = .next (s.issuing c false ta tb c.nothing) ∧
      exec (.not p ta tb) s = .next (s.issuing c false ta tb c.nothing) ∧
      exec (.addi p ta tb b32x) s = .next (s.issuing c false ta tb c.nothing) ∧
      exec (.muli p ta tb b32x) s = .next (s.issuing c false ta tb c.nothing) ∧
      exec (.movi p ta tb b32x) s = .next (s.issuing c false ta tb c.nothing) ∧
      exec (.movhi p ta tb b32x) s = .next (s.issuing c false ta tb c.nothing) ∧
      exec (.copy p ta tb) s = .next (s.issuing c false ta tb c.nothing) ∧
      exec (.andi p ta tb b32x) s = .next (s.issuing c false ta tb c.nothing) ∧
      exec (.ori p ta tb b32x) s = .next (s.issuing c false ta tb c.nothing) ∧
      exec (.xori p ta tb b32x) s = .next (s.issuing c false ta tb c.nothing) ∧
      exec (.shli p ta tb b6x) s = .next (s.issuing c false ta tb c.nothing) ∧
      exec (.shri p ta tb b6x) s = .next (s.issuing c false ta tb c.nothing) ∧
      exec (.sari p ta tb b6x) s = .next (s.issuing c false ta tb c.nothing) ∧
      exec (.popc p ta tb) s = .next (s.issuing c false ta tb c.nothing) ∧
      exec (.clz p ta tb) s = .next (s.issuing c false ta tb c.nothing) ∧
      exec (.ctz p ta tb) s = .next (s.issuing c false ta tb c.nothing) ∧
      exec (.bfx p ta tb b6x b6y b1x) s = .next (s.issuing c false ta tb c.nothing) ∧
      exec (.bfi p ta tb b6x b6y) s = .next (s.issuing c false ta tb c.nothing) ∧
      exec (.lea p ta tb b3x b24x) s = .next (s.issuing c false ta tb c.nothing) ∧
      exec (.ceqi p ta tb b32x) s = .next (s.issuing c false ta tb c.nothing) ∧
      exec (.vadd p b2x ta tb) s = .next (s.issuing c true ta tb c.nothing) ∧
      exec (.vsub p b2x ta tb) s = .next (s.issuing c true ta tb c.nothing) ∧
      exec (.vmul p b2x ta tb) s = .next (s.issuing c true ta tb c.nothing) ∧
      exec (.vmad p b2x ta tb) s = .next (s.issuing c true ta tb c.nothing) ∧
      exec (.vmin p b2x ta tb) s = .next (s.issuing c true ta tb c.nothing) ∧
      exec (.vmax p b2x ta tb) s = .next (s.issuing c true ta tb c.nothing) ∧
      exec (.vabs p b2x ta tb) s = .next (s.issuing c true ta tb c.nothing) ∧
      exec (.vneg p b2x ta tb) s = .next (s.issuing c true ta tb c.nothing) ∧
      exec (.vand p b2x ta tb) s = .next (s.issuing c true ta tb c.nothing) ∧
      exec (.vor p b2x ta tb) s = .next (s.issuing c true ta tb c.nothing) ∧
      exec (.vxor p b2x ta tb) s = .next (s.issuing c true ta tb c.nothing) ∧
      exec (.vshl p b2x ta tb b6x) s = .next (s.issuing c true ta tb c.nothing) ∧
      exec (.vshr p b2x ta tb b6x) s = .next (s.issuing c true ta tb c.nothing) ∧
      exec (.vsar p b2x ta tb b6x) s = .next (s.issuing c true ta tb c.nothing) ∧
      exec (.vadds p b2x ta tb) s = .next (s.issuing c true ta tb c.nothing) ∧
      exec (.vsubs p b2x ta tb) s = .next (s.issuing c true ta tb c.nothing) ∧
      exec (.vfadd p b2x ta tb) s = .next (s.issuing c true ta tb c.nothing) ∧
      exec (.vfsub p b2x ta tb) s = .next (s.issuing c true ta tb c.nothing) ∧
      exec (.vfmul p b2x ta tb) s = .next (s.issuing c true ta tb c.nothing) ∧
      exec (.vfma p b2x ta tb) s = .next (s.issuing c true ta tb c.nothing) ∧
      exec (.vfms p b2x ta tb) s = .next (s.issuing c true ta tb c.nothing) ∧
      exec (.vfnma p b2x ta tb) s = .next (s.issuing c true ta tb c.nothing) ∧
      exec (.vfmin p b2x ta tb) s = .next (s.issuing c true ta tb c.nothing) ∧
      exec (.vfmax p b2x ta tb) s = .next (s.issuing c true ta tb c.nothing) ∧
      exec (.vfabs p b2x ta tb) s = .next (s.issuing c true ta tb c.nothing) ∧
      exec (.vfneg p b2x ta tb) s = .next (s.issuing c true ta tb c.nothing) ∧
      exec (.vfcmp p b2x ta tb b3x) s = .next (s.issuing c true ta tb c.nothing) ∧
      exec (.vsel p b2x ta tb) s = .next (s.issuing c true ta tb c.nothing) ∧
      exec (.vfrcp p b2x ta tb) s = .next (s.issuing c true ta tb c.nothing) ∧
      exec (.vfrsq p b2x ta tb) s = .next (s.issuing c true ta tb c.nothing) ∧
      exec (.vfcls p b2x ta tb b10x) s = .next (s.issuing c true ta tb c.nothing) ∧
      exec (.vfscl p b2x ta tb) s = .next (s.issuing c true ta tb c.nothing) ∧
      exec (.vcvt p b2x ta tb b2y b3x) s = .next (s.issuing c true ta tb c.nothing) ∧
      exec (.vrint p b2x ta tb b2y) s = .next (s.issuing c true ta tb c.nothing) ∧
      exec (.vfexp p b2x ta tb) s = .next (s.issuing c true ta tb c.nothing) ∧
      exec (.vflog p b2x ta tb) s = .next (s.issuing c true ta tb c.nothing) ∧
      exec (.vxexp p b2x ta tb) s = .next (s.issuing c true ta tb c.nothing) ∧
      exec (.vred p b2x ta tb b2y) s = .next (s.issuing c true ta tb c.nothing) ∧
      exec (.vscan p b2x ta tb b2y) s = .next (s.issuing c true ta tb c.nothing) ∧
      exec (.vshuf p b2x ta tb) s = .next (s.issuing c true ta tb c.nothing) ∧
      exec (.vsplat p b2x ta tb) s = .next (s.issuing c true ta tb c.nothing) ∧
      exec (.vextr p b2x ta tb b4x) s = .next (s.issuing c true ta tb c.nothing) ∧
      exec (.vinsl p b2x ta tb b4x) s = .next (s.issuing c true ta tb c.nothing) ∧
      exec (.vpack p b2x ta tb b1x b1y) s = .next (s.issuing c true ta tb c.nothing) ∧
      exec (.vunpk p b2x ta tb b1x) s = .next (s.issuing c true ta tb c.nothing) ∧
      exec (.vqnt p b2x ta tb b6x b6y b2y) s = .next (s.issuing c true ta tb c.nothing) ∧
      exec (.vdqnt p b2x ta tb b6x b6y b2y) s = .next (s.issuing c true ta tb c.nothing) ∧
      exec (.vprune p b2x ta tb) s = .next (s.issuing c true ta tb c.nothing) ∧
      exec (.krd p ta tb b6x) s = .next (s.issuing c true ta tb c.nothing) ∧
      exec (.kwr p ta tb b6x) s = .next (s.issuing c true ta tb c.nothing) ∧
      exec (.acrd p ta tb b6x b4x) s = .next (s.issuing c true ta tb c.nothing) ∧
      exec (.acwr p ta tb b6x b4x) s = .next (s.issuing c true ta tb c.nothing) ∧
      exec (.acclr p ta tb) s = .next (s.issuing c false ta tb c.nothing) ∧
      exec (.ordj p ta tb) s = .next (s.issuing c false ta tb c.nothing) ∧
      exec (.bell p ta tb b6x) s = .next (s.issuing c false ta tb c.nothing) ∧
      exec (.bella p ta tb b6x) s = .next (s.issuing c false ta tb c.nothing) ∧
      exec (.abstn p ta tb b6x) s = .next (s.issuing c false ta tb c.nothing) ∧
      exec (.qpush p ta tb b6x) s = .next (s.issuing c false ta tb c.nothing) ∧
      exec (.qpop p ta tb b6x) s = .next (s.issuing c false ta tb c.nothing) ∧
      exec (.qlen p ta tb) s = .next (s.issuing c false ta tb c.nothing) ∧
      exec (.lnch p ta tb b6x) s = .next (s.issuing c false ta tb c.nothing) ∧
      exec (.sigc p ta tb b16x) s = .next (s.issuing c false ta tb c.nothing) ∧
      exec (.waitc p ta tb) s = .next (s.issuing c false ta tb c.nothing) ∧
      exec (.lgen p ta tb b20x b3x b1x) s = .next (s.issuing c false ta tb c.nothing) ∧
      exec (.lgen2 p ta tb b12x b12y b3x b1x) s = .next (s.issuing c false ta tb c.nothing) ∧
      exec (.spscn p ta tb b1x b3x b1y) s = .next (s.issuing c false ta tb c.nothing) ∧
      exec (.rptc p ta tb b12x b12y) s = .next (s.issuing c true ta tb c.nothing) ∧
      exec (.rpte p ta tb b12x b12y) s = .next (s.issuing c true ta tb c.nothing) ∧
      exec (.emstp p ta tb b3x b1x) s = .next (s.issuing c false ta tb c.nothing) ∧
      exec (.tkind p ta tb b3x b1x) s = .next (s.issuing c false ta tb c.nothing) ∧
      exec (.itgate p ta tb b3x b4x b3y) s = .next (s.issuing c false ta tb c.nothing) ∧
      exec (.take p ta tb b3x) s = .next (s.issuing c ((s.ctx?.map fun c => s.takePlane c b3x).getD false) ta tb c.nothing) ∧
      exec (.cnttk p ta tb b3x b3y b1x) s = .next (s.issuing c false ta tb c.nothing) ∧
      exec (.seqrd p ta tb) s = .next (s.issuing c true ta tb c.nothing) ∧
      exec (.wgtrd p ta tb) s = .next (s.issuing c true ta tb c.nothing) ∧
      exec (.wgtwr p ta tb) s = .next (s.issuing c true ta tb c.nothing) ∧
      exec (.isgap p ta tb b2x) s = .next (s.issuing c true ta tb c.nothing) ∧
      exec (.gaprd p ta tb b2x b2y) s = .next (s.issuing c true ta tb c.nothing) ∧
      exec (.emgap p ta tb) s = .next (s.issuing c true ta tb c.nothing) ∧
      exec (.voidr p ta tb) s = .next (s.issuing c true ta tb c.nothing) ∧
      exec (.wacc p b2x ta tb b6x b6y b1x b1y) s = .next (s.issuing c true ta tb c.nothing) ∧
      exec (.wincl p b2x ta tb b5x b6x b1x) s = .next (s.issuing c true ta tb c.nothing) ∧
      exec (.joink p b2x ta tb b3x b3y b6x b1x) s = .next (s.issuing c true ta tb c.nothing) ∧
      exec (.wld p b2x ta tb b5x b3x) s = .next (s.issuing c true ta tb c.nothing) ∧
      exec (.wsel p ta tb b5x) s = .next (s.issuing c false ta tb c.nothing) ∧
      exec (.adrn p ta tb b6x b1x) s = .next (s.issuing c true ta tb c.nothing) ∧
      exec (.azero p ta tb b6x b6y) s = .next (s.issuing c false ta tb c.nothing) ∧
      exec (.cmac p b2x ta tb) s = .next (s.issuing c true ta tb c.nothing) ∧
      exec (.cmul p b2x ta tb) s = .next (s.issuing c true ta tb c.nothing) ∧
      exec (.cconj p b2x ta tb) s = .next (s.issuing c true ta tb c.nothing) ∧
      exec (.dtag p ta tb b1x) s = .next (s.issuing c true ta tb c.nothing) ∧
      exec (.xreq p ta tb) s = .next (s.issuing c true ta tb c.nothing) ∧
      exec (.drvk p ta tb b1x b6x) s = .next (s.issuing c false ta tb c.nothing) ∧
      exec (.gtatt p ta tb) s = .next (s.issuing c false ta tb c.nothing) ∧
      exec (.gtdet p ta tb) s = .next (s.issuing c false ta tb c.nothing) ∧
      exec (.gtfld p ta tb) s = .next (s.issuing c false ta tb c.nothing) ∧
      exec (.trap p b16x) s = .next (s.issuing c false .null .null c.nothing) ∧
      exec (.brk p b16x) s = .next (s.issuing c false .null .null c.nothing) ∧
      exec (.ctlrd p ta tb b12x) s = .next (s.issuing c false ta tb c.nothing) ∧
      exec (.ctlwr p ta tb b12x) s = .next (s.issuing c false ta tb c.nothing) ∧
      exec (.cntrd p ta tb b3x b3y b1x b1y) s = .next (s.issuing c false ta tb c.nothing) ∧
      exec (.rand p ta tb) s = .next (s.issuing c false ta tb c.nothing) ∧
      exec (.seed p ta tb) s = .next (s.issuing c false ta tb c.nothing) ∧
      exec (.timer p ta tb b32x) s = .next (s.issuing c false ta tb c.nothing) ∧
      exec (.fwsvc p ta tb b8x) s = .next (s.issuing c false ta tb c.nothing)) ∧
  (∀ (s : State) (c : Ctx) (p : Pred) (lq : LoadQual) (sq : StoreQual) (gq : GlobalQual) (ta tb : Target) (b16x : BitVec 16)
        (b1x : BitVec 1) (b21x : BitVec 21) (b2x b2y : BitVec 2) (b3x : BitVec 3) (b4x : BitVec 4) (b5x : BitVec 5)
        (b6x b6y : BitVec 6),
      s.Nulls c p →
      exec (.sts p sq ta tb b2x b21x) s = .next (s.issuing c false ta tb (c.emit 0 ta tb (c.c.getD Tok.order))) ∧
      exec (.stsv p sq ta tb b21x) s = .next (s.issuing c true ta tb (c.emit 0 ta tb (c.c.getD Tok.order))) ∧
      exec (.stsx p sq ta tb b2x b21x) s = .next (s.issuing c true ta tb (c.emit 0 ta tb (c.c.getD Tok.order))) ∧
      exec (.feset p ta tb b21x) s = .next (s.issuing c false ta tb (c.emit 0 ta tb (c.c.getD Tok.order))) ∧
      exec (.feclr p ta tb b21x) s = .next (s.issuing c false ta tb (c.emit 0 ta tb (c.c.getD Tok.order))) ∧
      exec (.wick p ta tb b4x b6x b6y) s = .next (s.issuing c false ta tb (c.emit 0 ta tb (c.c.getD Tok.order))) ∧
      exec (.wadv p ta tb b4x b6x) s = .next (s.issuing c false ta tb (c.emit 0 ta tb (c.c.getD Tok.order))) ∧
      exec (.gst p gq ta tb b3x b2x b21x) s = .next (s.issuing c false ta tb (c.emit 0 ta tb (c.c.getD Tok.order))) ∧
      exec (.gstv p gq ta tb b3x b21x) s = .next (s.issuing c true ta tb (c.emit 0 ta tb (c.c.getD Tok.order))) ∧
      exec (.fence p ta tb b3x) s = .next (s.issuing c false ta tb (c.emit 0 ta tb (c.c.getD Tok.order))) ∧
      exec (.bmwait p ta tb b21x) s = .next (s.issuing c false ta tb (c.emit 0 ta tb (c.c.getD Tok.order))) ∧
      exec (.wlds p b2x ta tb b5x) s = .next (s.issuing c true ta tb (c.emit 0 ta tb (c.c.getD Tok.order))) ∧
      exec (.arow p b2x ta tb b6x b16x) s = .next (s.issuing c true ta tb (c.emit 0 ta tb (c.c.getD Tok.order))) ∧
      exec (.xfwd p b2x ta tb b2y) s = .next (s.issuing c true ta tb (c.emit 0 ta tb (c.c.getD Tok.order))) ∧
      exec (.xinv p b2x ta tb b2y) s = .next (s.issuing c true ta tb (c.emit 0 ta tb (c.c.getD Tok.order))) ∧
      exec (.lds p lq ta tb b2x b1x b21x) s = .next (s.issuing c false ta tb { c.nothing with sends := [⟨tb, c.c.getD Tok.order, c.t.cyc⟩] }) ∧
      exec (.ldsv p lq ta tb b21x) s = .next (s.issuing c true ta tb { c.nothing with sends := [⟨tb, c.c.getD Tok.order, c.t.cyc⟩] }) ∧
      exec (.ldsx p lq ta tb b2x b1x b21x) s = .next (s.issuing c true ta tb { c.nothing with sends := [⟨tb, c.c.getD Tok.order, c.t.cyc⟩] }) ∧
      exec (.fetst p ta tb b21x) s = .next (s.issuing c false ta tb { c.nothing with sends := [⟨tb, c.c.getD Tok.order, c.t.cyc⟩] }) ∧
      exec (.gld p gq ta tb b3x b2x b21x) s = .next (s.issuing c false ta tb { c.nothing with sends := [⟨tb, c.c.getD Tok.order, c.t.cyc⟩] }) ∧
      exec (.gldv p gq ta tb b3x b21x) s = .next (s.issuing c true ta tb { c.nothing with sends := [⟨tb, c.c.getD Tok.order, c.t.cyc⟩] }) ∧
      exec (.aadd p gq ta tb b3x b2x b21x) s = .next (s.issuing c false ta tb { c.nothing with sends := [⟨tb, c.c.getD Tok.order, c.t.cyc⟩] }) ∧
      exec (.aand p gq ta tb b3x b2x b21x) s = .next (s.issuing c false ta tb { c.nothing with sends := [⟨tb, c.c.getD Tok.order, c.t.cyc⟩] }) ∧
      exec (.aor p gq ta tb b3x b2x b21x) s = .next (s.issuing c false ta tb { c.nothing with sends := [⟨tb, c.c.getD Tok.order, c.t.cyc⟩] }) ∧
      exec (.axor p gq ta tb b3x b2x b21x) s = .next (s.issuing c false ta tb { c.nothing with sends := [⟨tb, c.c.getD Tok.order, c.t.cyc⟩] }) ∧
      exec (.amin p gq ta tb b3x b2x b21x) s = .next (s.issuing c false ta tb { c.nothing with sends := [⟨tb, c.c.getD Tok.order, c.t.cyc⟩] }) ∧
      exec (.amax p gq ta tb b3x b2x b21x) s = .next (s.issuing c false ta tb { c.nothing with sends := [⟨tb, c.c.getD Tok.order, c.t.cyc⟩] }) ∧
      exec (.aminu p gq ta tb b3x b2x b21x) s = .next (s.issuing c false ta tb { c.nothing with sends := [⟨tb, c.c.getD Tok.order, c.t.cyc⟩] }) ∧
      exec (.amaxu p gq ta tb b3x b2x b21x) s = .next (s.issuing c false ta tb { c.nothing with sends := [⟨tb, c.c.getD Tok.order, c.t.cyc⟩] }) ∧
      exec (.axch p gq ta tb b3x b2x b21x) s = .next (s.issuing c false ta tb { c.nothing with sends := [⟨tb, c.c.getD Tok.order, c.t.cyc⟩] }) ∧
      exec (.acas p gq ta tb b3x b2x b6x b21x) s = .next (s.issuing c false ta tb { c.nothing with sends := [⟨tb, c.c.getD Tok.order, c.t.cyc⟩] }) ∧
      exec (.afadd p gq ta tb b3x b21x) s = .next (s.issuing c false ta tb { c.nothing with sends := [⟨tb, c.c.getD Tok.order, c.t.cyc⟩] }) ∧
      exec (.atas p gq ta tb b3x b21x) s = .next (s.issuing c false ta tb { c.nothing with sends := [⟨tb, c.c.getD Tok.order, c.t.cyc⟩] }))

/-! Drove lists (rows DNOP to DCONV). -/

/-- The drove-list commands that touch registers, order, patterns, binding and converter (R341 to R344, R349, R352, R353): the
running list goes on at the index that R342 gives, with the registers the command writes. Going on to an index changes that
drover alone, and of its list nothing but what the command wrote, the index, the state within a command, and the time of the
next step, which the model leaves free. A list waits (`listWaits`) where it waits for its wicket or its place, and at a DWAITC below its
threshold, which changes nothing. DFENCE and DSIG go on at once at every SCOPE, since each access of an earlier command was performed at
its owner in the step that made it (`Obligations.StoresLand` says so of a write): that a list's accesses are performed one after another,
each in the step that makes it, is the model's choice (log entry 3, DESIGN CHOICE, and 55, DEDUCED: R353 leaves the order of accesses to
different bytes open). -/
def Obligations.DroverCommands : Prop :=
  (∀ (s : State) (c : DCtx) (gd ga gb : BitVec 4) (imm : Word) (tgt inc : BitVec 16) (pr dim : BitVec 2) (circ bind sat on : BitVec 1)
      (count extent start : BitVec 16) (stride : BitVec 32) (tile : BitVec 13) (wicket src dst : BitVec 4) (mode scope : BitVec 3)
      (ctr : BitVec 12), s.curDrover = some c →
    let G := fun r : BitVec 4 => c.l.g.getD r.toNat 0
    let goes := fun (l : DList) (n : Nat) => Host.Outcome.next (s.commit (s.begun.listGo c l n))
    let following := fun l : DList => goes l (c.l.index + 1)
    let puts := fun v : Word => { c.l with g := c.l.g.set gd.toNat v }
    exec .dnop s = following c.l ∧
    exec .dhalt s = .next (s.commit (s.begun.putList c none)) ∧
    exec (.dset gd imm) s = following (puts imm) ∧
    exec (.dadd gd ga (.imm imm)) s = following (puts (G ga + imm)) ∧
    exec (.dadd gd ga (.reg gb)) s = following (puts (G ga + G gb)) ∧
    exec (.dmov gd ga) s = following (puts (G ga)) ∧
    exec (.dloop gd (.imm imm) tgt) s = goes (puts imm) (if imm = 0 then tgt.toNat else c.l.index + 1) ∧
    exec (.dloop gd (.reg ga) tgt) s = goes (puts (G ga)) (if G ga = 0 then tgt.toNat else c.l.index + 1) ∧
    exec (.dnext gd tgt) s = goes (puts (G gd - 1)) (if G gd = 1 then c.l.index + 1 else tgt.toNat) ∧
    exec (.djmp tgt) s = goes c.l tgt.toNat ∧
    exec (.djz ga tgt) s = goes c.l (if G ga = 0 then tgt.toNat else c.l.index + 1) ∧
    exec (.dpat pr dim circ count stride extent start) s = following { c.l with
      p := c.l.p.set pr.toNat ((c.l.pat pr).set dim.toNat
        ⟨start.toInt, count.toNat + 1, extent.toNat + 1, stride.toInt, circ == 1⟩) } ∧
    exec (.dwick tile wicket 1) s = following { c.l with binding := some (tile.toNat, wicket.toNat) } ∧
    (bind ≠ 1 → exec (.dwick tile wicket bind) s = following { c.l with binding := none }) ∧
    exec (.dconv src dst mode sat 1) s = following { c.l with conv := some (src.toNat, dst.toNat, mode.toNat, sat == 1) } ∧
    (on ≠ 1 → exec (.dconv src dst mode sat on) s = following { c.l with conv := none }) ∧
    exec (.dpref pr ga src) s = following c.l ∧
    exec (.dfence scope) s = following c.l ∧
    exec (.dsig ctr inc) s =
      .next (s.commit ((s.begun.addCounter c.k.paddock ctr.toNat inc.toNat).listGo c c.l (c.l.index + 1))) ∧
    (imm ≤ s.begun.counter c.k.paddock ctr.toNat → exec (.dwaitc ctr (.imm imm)) s = following c.l) ∧
    (G ga ≤ s.begun.counter c.k.paddock ctr.toNat → exec (.dwaitc ctr (.reg ga)) s = following c.l) ∧
    (s.begun.counter c.k.paddock ctr.toNat < imm → exec (.dwaitc ctr (.imm imm)) s = .next (s.commit s.begun)) ∧
    (s.begun.counter c.k.paddock ctr.toNat < G ga → exec (.dwaitc ctr (.reg ga)) s = .next (s.commit s.begun)) ∧
    s.listWaits c (.dfence scope) = c.l.waits ∧ s.listWaits c (.dsig ctr inc) = c.l.waits ∧
    s.listWaits c (.dwaitc ctr (.imm imm)) = (c.l.waits || decide (s.counter c.k.paddock ctr.toNat < imm)) ∧
    s.listWaits c (.dwaitc ctr (.reg ga)) = (c.l.waits || decide (s.counter c.k.paddock ctr.toNat < G ga))) ∧
  ∀ (s : State) (c : DCtx) (l : DList) (n : Nat),
    let t := s.listGo c l n
    t = { s with drovers := t.drovers, freeCount := s.freeCount + 1 } ∧
    (∀ die slice : Nat, die ≠ c.die ∨ slice ≠ c.slice → t.drover die slice = s.drover die slice) ∧
    (t.drover c.die c.slice).queue = (s.drover c.die c.slice).queue ∧
    ∃ at_ : Nat, s.now < at_ ∧ (t.drover c.die c.slice).run = some { l with
      index := n, word := none, pos := 0, buf := [], row := none, entry := none, waits := false, held := none, retry := false, at_ := at_ }

/-- The data commands of R346 to R348 and R350: each moves the next granule or element of its walk, DPUSH, DGTLD and DGATH to the destination
of R344 (IMM64, with DGEN plus G[GD]), DCOPY to G[GD] + IMM64; DGTLD first captures its entry, DFOLD ends with its capture. Which granule
or element that is, and what stays read for the next one, are the model's readings: one granule of the destination or one element a step,
in walk order (log entry 55, DEDUCED), and what has been read stays read until its bytes are written (log entry 58, DEDUCED). -/
def Obligations.DroverTransfers : Prop :=
  ∀ (s : State) (c : DCtx) (pr : BitVec 2) (ga gb gd fmt : BitVec 4) (srcoc dgen dom : BitVec 1) (imm : Word), s.curDrover = some c →
    let G := fun r : BitVec 4 => c.l.g.getD r.toNat 0
    let P := c.l.p.getD pr.toNat (List.replicate 4 PatDim.blank)
    let D := (if dgen = 1 then imm + G gd else imm).toNat
    let ends := fun t : State => Host.Outcome.next (s.commit t)
    exec (.dpush pr ga gd fmt srcoc dgen dom imm) s =
      ends (s.begun.pushPart c (c.agent 0x0A) P (.push (G ga) fmt.toNat (srcoc == 1)) D (dom == 1)) ∧
    exec (.dpull pr ga gd fmt dgen imm) s = ends (s.begun.pullPart c (c.agent 0x0B) P (G ga) fmt.toNat D) ∧
    exec (.dgath pr ga gb gd fmt dgen dom imm) s =
      ends (s.begun.pushPart c (c.agent 0x0D) P (.gath (G ga) (G gb) fmt.toNat) D (dom == 1)) ∧
    exec (.dcopy pr ga gd fmt imm) s =
      ends (s.begun.copyPart c (c.agent 0x13) P (.push (G ga) fmt.toNat false) (G gd + imm).toNat) ∧
    (∀ e : List Word, c.l.entry = some e →
      exec (.dgtld pr ga gd dgen dom imm) s = ends (s.begun.pushPart c (c.agent 0x0C) P .gtld D (dom == 1))) ∧
    (∀ (e : List Word) (t : State), c.l.entry = none → s.begun.captureEntry (c.agent 0x0C) (G ga) = .ok e t →
      exec (.dgtld pr ga gd dgen dom imm) s = ends (t.listStay c { c.l with entry := some e })) ∧
    (∀ t : State, s.begun.foldStart (c.agent 0x12) (G ga) (G gb) = .ok () t →
      exec (.dfold ga gb) s = ends (t.listGo c c.l (c.l.index + 1)))

/-- Walks (R164, R343): element `i0 + n0 (i1 + n1 (i2 + n2 i3))` of a walk has the iteration indices `i0` to `i3`; in each
dimension its coordinate is the start plus the index, wrapped by the extent where the dimension is circular; out of range of
an extent it has no address, and else its address is the base plus the sum of coordinate times stride, modulo 2^64. -/
def Obligations.WalkAddresses : Prop :=
  ∀ (d0 d1 d2 d3 : PatDim) (base : Word) (i0 i1 i2 i3 : Nat), i0 < d0.count → i1 < d1.count → i2 < d2.count →
    i3 < d3.count →
    let x := fun (d : PatDim) (i : Nat) => if d.circ then (d.start + i) % (d.extent : Int) else d.start + i
    let e := i0 + d0.count * (i1 + d1.count * (i2 + d2.count * i3))
    let inside := fun (d : PatDim) (i : Nat) => 0 ≤ x d i ∧ x d i < d.extent
    e < walkCount [d0, d1, d2, d3] ∧
    (¬ (inside d0 i0 ∧ inside d1 i1 ∧ inside d2 i2 ∧ inside d3 i3) → walkAt [d0, d1, d2, d3] base e = none) ∧
    (inside d0 i0 → inside d1 i1 → inside d2 i2 → inside d3 i3 →
      walkAt [d0, d1, d2, d3] base e = some (base + BitVec.ofInt 64
        (x d0 i0 * d0.stride + x d1 i1 * d1.stride + x d2 i2 * d2.stride + x d3 i3 * d3.stride)).toNat)

/-! Host commands (R369 to R375, R419, R429). -/

/-- The 29 commands and the bits of words 1 to 7 that each names: an entry that sets another bit completes BADPARAM, and so does one
that names no paddock where the command needs one (R371, R373). A completion where the ring has room writes its 16 bytes and
nothing else, moves the ring's tail and sends a message on vector 0 (R369). -/
def Obligations.CommandForms : Prop :=
  ∀ (s : State) (e : Rec8), s.cursor = .command e →
    let a : Nat := 2 ^ 64 - 1
    let n := fun k : Nat => 2 ^ k - 1
    let bad := Host.Outcome.next (s.commit (s.begun.complete (fld e.w0.toNat 16 16) (fld e.w0.toNat 0 8) 2 0))
    let anyone : List (Instr × List Nat) :=
      [(.paddockCreate, [n 48, n 48, n 21, 0x7F7F7F7F, a, n 27 + n 12 * 2 ^ 32, n 16]), (.resetPackage, [1]), (.powerConfig, [n 10, a, a, a, a])]
    let owned : List (Instr × List Nat) :=
      [(.paddockDestroy, []), (.chargeLoad, [a, n 32]), (.queueCreate, [n 14, n 48, n 17]), (.queueTeardownDrain, [n 9]),
       (.queueTeardownAbort, [n 9]), (.launch, [n 8, a, 0xF1F]), (.map, [n 6, a, a]), (.unmap, [n 6]), (.faultRead, [3, a, n 10]),
       (.faultResume, [3, n 12, 1]), (.faultRetire, [3, n 12, 1]), (.handleCreate, [n 24, n 48]), (.glazeAttach, [a, n 48]),
       (.glazeDetach, [a, n 3]), (.fold, [a, n 48]), (.snapshot, [n 32, n 24, n 48]), (.snapshotRestore, [n 8, n 48]),
       (.setTolerance, [n 40]), (.setTier, [3]), (.powerReport, [a]), (.linkHealth, [a]), (.attest, [a, n 16, a, n 16]),
       (.fwPatch, [a, n 32]), (.resetPaddock, [1]), (.counterSet, [n 12, a]), (.counterRead, [n 12])]
    (∀ x ∈ anyone ++ owned, formOk e x.2 = false → exec x.1 s = bad) ∧
    (∀ x ∈ owned, s.paddock? (fld e.w0.toNat 32 4) = none → exec x.1 s = bad) ∧
    ∀ (tag code status : Nat) (r : Word), StateInv s → (s.cplTail + 2 ^ 16 - s.cplHead) % 2 ^ 16 < 2 ^ s.cplSize →
      let t := s.commit (s.begun.complete tag code status r)
      let at_ := 8 * 2 ^ 48 + (s.cplBase.toNat + 16 * (s.cplTail % 2 ^ s.cplSize)) % 2 ^ 48
      let w0 := BitVec.ofNat 64 (tag % 2 ^ 16 + status * 2 ^ 16 + code * 2 ^ 24)
      t = { s with mem := t.mem, poison := t.poison, cplTail := (s.cplTail + 1) % 2 ^ 16, msix := s.msix ++ [0] } ∧
      (∀ x : Nat, x < at_ ∨ at_ + 16 ≤ x → t.byte x = s.byte x) ∧
      ∀ i : Nat, i < 8 → t.byte (at_ + i) = BitVec.extractLsb' (8 * i) 8 w0 ∧ t.byte (at_ + 8 + i) = BitVec.extractLsb' (8 * i) 8 r

/-- The commands of paddocks, queues, launches, range tables, counters and limits, each with its named bits in order and its
parameters in range (R158, R371 to R373, R378 to R380, R384, R391 to R394). The model's readings: PADDOCK_CREATE takes the lowest free
index (log entry 92, DEDUCED), NORESOURCE for what finds no place (log entry 94, DEDUCED), and when a teardown's end is seen (log entry
75, DEDUCED). -/
def Obligations.PaddockCommands : Prop :=
  ∀ (s : State) (e : Rec8), s.cursor = .command e →
    let b := s.begun
    let ends := fun t : State => Host.Outcome.next (s.commit t)
    (formOk e createMasks = true → createOk e = true →
      (∀ i : Nat, i < 16 → s.paddock? i = none → (∀ j : Nat, j < i → s.paddock? j ≠ none) →
        exec .paddockCreate s = ends ({ b with paddocks := s.paddocks ++ [b.paddockOf e i] }.done e (BitVec.ofNat 64 i))) ∧
      ((∀ i : Nat, i < 16 → s.paddock? i ≠ none) → exec .paddockCreate s = ends (b.fails e 3))) ∧
    (formOk e [1] = true → exec .resetPackage s = ends b.resets) ∧
    (formOk e [lowBits 10, m64, m64, m64, m64] = true → 300 ≤ e.w1.toNat → e.w1.toNat ≤ 800 →
      exec .powerConfig s = ends ({ b with
        frac := e.w1.toNat
        floors := [e.w2, e.w3, e.w4, e.w5].map fun (w : Word) => (List.range 4).map fun t => fld w.toNat (16 * t) 16 }.done e 0)) ∧
    ∀ p : Paddock, s.paddock? (cmdPaddock e) = some p →
      let q := fld e.w1.toNat 0 8
      let n := e.w2.toNat + e.w3.toNat * 2 ^ 64
      (formOk e [] = true → exec .paddockDestroy s = ends ((b.destroyPaddock p.index).done e 0)) ∧
      (formOk e [1] = true → exec .resetPaddock s =
        ends ({ b.destroyPaddock p.index with
          paddocks := (b.destroyPaddock p.index).paddocks ++ [(b.destroyPaddock p.index).paddockOf p.create p.index] }.done e 0)) ∧
      (∀ d : State, d = b.destroyPaddock p.index → d.paddock? p.index = none ∧ (∀ x ∈ d.queues, x.paddock ≠ p.index) ∧
        (∀ x ∈ d.charges, x.paddock ≠ p.index) ∧ ∀ x ∈ d.folds, x.paddock ≠ p.index) ∧
      (formOk e [lowBits 40] = true → exec .setTolerance s =
        ends ((b.modPaddock p.index fun p => { p with tolerance := e.w1.toNat }).done e 0)) ∧
      (formOk e [3] = true → exec .setTier s = ends ((b.modPaddock p.index fun p => { p with tier := e.w1.toNat }).done e 0)) ∧
      (formOk e [lowBits 12, m64] = true → exec .counterSet s = ends ((b.putCounter p.index e.w1.toNat e.w2).done e 0)) ∧
      (formOk e [lowBits 12] = true → exec .counterRead s = ends (b.done e (p.counter e.w1.toNat))) ∧
      (∀ (c c' : Nat) (v : Word), (p.setCounter c v).counter c' = if c' = c then v else p.counter c') ∧
      (formOk e [lowBits 14, lowBits 48, lowBits 17] = true → e.w2.toNat % 64 = 0 → 64 ≤ e.w3.toNat → e.w3.toNat ≤ 65536 →
        let x := QueueSt.fresh q (e.w1.getLsbD 8) p.index (fld e.w1.toNat 9 2) (fld e.w1.toNat 11 3) e.w2.toNat e.w3.toNat
        (s.queue? q = none → exec .queueCreate s = ends ({ b with queues := insertQueue x s.queues }.done e 0)) ∧
        (s.queue? q ≠ none → exec .queueCreate s = ends (b.badParam e))) ∧
      (∀ x : QueueSt, formOk e [lowBits 9] = true → s.queue? q = some x → x.paddock = p.index → x.closed = false →
        let late := fun t : State => { t with outstanding := t.outstanding ++ [Outstanding.teardown (cmdTag e) q (cmdCode e)] }.reap
        exec .queueTeardownDrain s = ends (late (b.closeQueue q)) ∧
        exec .queueTeardownAbort s = ends (late ((b.closeQueue q).abortQueue q))) ∧
      (formOk e [lowBits 8, m64, 0xF1F] = true → e.w2.toNat % 64 = 0 →
        let r := recOfBytes (b.hostBytes e.w2.toNat 64)
        (e.w3 = 0 → exec .launch s =
          ends ((b.acceptLaunch p.index e.w1.toNat r none).2.fails e (b.acceptLaunch p.index e.w1.toNat r none).1)) ∧
        (e.w3.getLsbD 4 = true → exec .launch s =
          ends (b.fresh.2.forward (cmdTag e) b.fresh.1 (fld e.w3.toNat 0 4) (fld e.w3.toNat 8 4) e.w1.toNat r))) ∧
      (formOk e [lowBits 6, m64, m64] = true →
        (e.w1.toNat < 48 → p.mapOk e.w1.toNat n = true → exec .map s =
          ends ((b.modPaddock p.index fun p => p.setRange e.w1.toNat (BitVec.ofNat 128 n)).done e 0)) ∧
        (48 ≤ e.w1.toNat ∨ p.mapOk e.w1.toNat n = false → exec .map s = ends (b.badParam e))) ∧
      (formOk e [lowBits 6] = true → e.w1.toNat < 48 → exec .unmap s =
        ends ((b.modPaddock p.index fun p => { p with ranges := p.ranges.map fun r =>
          if r.1 == e.w1.toNat then (e.w1.toNat, r.2 &&& ~~~(BitVec.ofNat 128 (2 ^ 54))) else r }).done e 0))

/-- The commands of charges, faults, handles, folds, snapshots, reports and trust (R58, R167, R170, R172, R221, R374, R375, R383,
R388, R416, R419). The model's choices and readings: charge ids from a counter (log entry 6, DESIGN CHOICE), the entry that HANDLE_CREATE
writes (log entry 94, DEDUCED), BADPARAM of an ATTEST whose response is too large (log entry 95, DEDUCED), and a kiln that resumes once
none of its records is left (log entry 76, DEDUCED). -/
def Obligations.ServiceCommands : Prop :=
  ∀ (s : State) (e : Rec8) (p : Paddock), s.cursor = .command e → s.paddock? (cmdPaddock e) = some p →
    let b := s.begun
    let ends := fun t : State => Host.Outcome.next (s.commit t)
    let g := cmdAgent p
    let img := Img.ofBytes (b.hostBytes e.w1.toNat e.w2.toNat)
    (formOk e [m64, lowBits 32] = true →
      (firstOffence (img.offences p.signedOnly p.key) = none → img.raceOffence = none →
        exec .chargeLoad s = ends ({ b with
          charges := s.charges ++ [Charge.mk s.nextCharge p.index false img.im]
          nextCharge := s.nextCharge + 1 }.done e (BitVec.ofNat 64 s.nextCharge))) ∧
      (∀ o : Offence, firstOffence (img.offences p.signedOnly p.key) = some o →
        exec .chargeLoad s = ends (b.complete (cmdTag e) (cmdCode e) (if o.cause = .signature then 4 else 1) o.result)) ∧
      exec .fwPatch s = ends (if Config.patchSigned (b.hostBytes e.w1.toNat e.w2.toNat) = true
        then { b with patch := some (b.hostBytes e.w1.toNat e.w2.toNat) }.done e 0 else b.fails e 4)) ∧
    (formOk e [lowBits 24, lowBits 48] = true → ∀ (bs : List Byte) (w : List Word) (t u : State),
      b.engRead g e.w2.toNat 40 = .ok bs t → newEntry (wordsOf 5 bs) = some w → t.putEntry g e.w1 w = .ok () u →
        exec .handleCreate s = ends (u.done e 0)) ∧
    (formOk e [m64, lowBits 48] = true →
      (∀ (v : Word) (t : State), b.glazeAttach g e.w1 e.w2 = .ok v t → exec .glazeAttach s = ends (t.done e v)) ∧
      (∀ (u : Unit) (t : State), b.foldStart g e.w1 e.w2 = .ok u t → exec .fold s = ends (t.done e 0))) ∧
    (formOk e [m64, lowBits 3] = true → ∀ (v : Word) (t : State), b.glazeDetach g e.w1 e.w2 = .ok v t →
      exec .glazeDetach s = ends (t.done e v)) ∧
    (formOk e [lowBits 32, lowBits 24, lowBits 48] = true → ∀ k : Kiln, s.kiln? e.w1.toNat = some k → k.paddock = p.index →
      e.w2.toNat ≤ 10000 → e.w3.toNat % 4096 = 0 → k.snap = none → (b.vaWrite p .outside e.w3.toNat (List.replicate 4096 0)).1 = .ok () →
        exec .snapshot s = ends (b.snapBegin k
          ⟨cmdTag e, e.w3.toNat, s.now + (if e.w2 = 0 then 50 else e.w2.toNat) * 504000, [], [], [], [], []⟩)) ∧
    (formOk e [lowBits 8, lowBits 48] = true → ∀ (bs : List Byte) (t : State) (r : Rec8) (kid time : Nat),
      b.vaRead p .outside e.w2.toNat 0x60 = (.ok bs, t) → snapRecord bs = some (r, kid, time) →
      ((s.charge? (recCharge r)).any fun c => c.paddock == p.index) = true →
        exec .snapshotRestore s = ends ((t.acceptLaunch p.index e.w1.toNat r (some (kid, time, e.w2.toNat))).2.fails e
          (t.acceptLaunch p.index e.w1.toNat r (some (kid, time, e.w2.toNat))).1)) ∧
    (formOk e [m64] = true → e.w1.toNat % 4096 = 0 →
      exec .powerReport s = ends ((b.putReport e.w1.toNat b.powerFields).done e 0) ∧
      exec .linkHealth s = ends ((b.putReport e.w1.toNat b.healthFields).done e 0)) ∧
    (formOk e [m64, lowBits 16, m64, lowBits 16] = true →
      let r := Config.spdmResponse (b.hostBytes e.w1.toNat e.w2.toNat) b.measure
      exec .attest s = ends (if r.length ≤ e.w4.toNat then (b.hostPut e.w3.toNat r).done e (BitVec.ofNat 64 r.length) else b.badParam e)) ∧
    (formOk e [3, m64, lowBits 10] = true → e.w2.toNat % 64 = 0 → 1 ≤ e.w3.toNat → e.w3.toNat ≤ 512 →
      let d := e.w1.toNat
      let n := e.w3.toNat
      let x := s.die d
      let t := ((b.hostPut e.w2.toNat ((x.faults.take n).flatMap recBytes)).modDie d fun x =>
        { x with faults := x.faults.drop n, outstanding := x.markRead n, overflowArmed := true }).postDeferred d 512
      exec .faultRead s = ends (t.done e
        (BitVec.ofNat 64 ((x.faults.take n).length + (t.die d).faults.length * 2 ^ 16 + x.overflow * 2 ^ 32)))) ∧
    (formOk e [3, lowBits 12, 1] = true →
      (b.namedRecord e = none → exec .faultResume s = ends (b.badParam e) ∧ exec .faultRetire s = ends (b.badParam e)) ∧
      (∀ (o : OutRec) (k : Kiln) (c : StopCause), b.namedRecord e = some o → b.holder o.uid = .stop k c → k.paddock = p.index →
        (resumable c.cause = true → exec .faultResume s = ends (((b.settleRecord e).resumeStop k c).done e 0)) ∧
        (resumable c.cause = false → exec .faultResume s = ends (b.badParam e)) ∧
        exec .faultRetire s = ends ((((b.settleRecord e).abortKiln k.id).unpause o.uid).reap.done e 0)))

/-! Events (R4, the event rows of the table). An event is due when its condition holds at the present instant; then its effect is
the next state. -/

/-- The inputs from outside: registers, apertures and peers (R367, R368, R371, R376), power and fluid (R378, R382, R422 to R424), ECC
findings (R421), links (R425 to R427). The model's choices and readings: what firmware does on a reading it does from READY on, and a
reading comes with an input (log entry 11, DESIGN CHOICE); the low bits of CMDBASE and CPLBASE that are dropped, and a read of BAR0 as
an input of the row REGISTER_WRITE (log entry 91, DEDUCED); waking from S3 (log entry 87, DEDUCED); all ones to an access that is
denied (log entry 89, DEDUCED); that ECC findings, and the stored form that a slice chooses, which changes no byte, come as inputs
(log entries 34 and 35, DESIGN CHOICE); and that nothing receives what comes in S3 from elsewhere than the host, where R380 keeps no
domain powered but the DRAM's self-refresh and the host link's wake logic (log entry 127, DESIGN CHOICE). -/
def Obligations.InputEvents : Prop :=
  ∀ (s : State) (off port q d sh v n id : Nat) (val : Word) (a : OutsideAccess) (r : Rec8) (find : ScrubFinding) (cap : CapReading)
      (h : HealthReading) (ok : Bool),
    let b := s.begun
    let gets := fun i : Input => s.cursor = .input i
    let ends := fun t : State => Host.Outcome.next (s.commit t)
    let woke := b.woken
    (s.power ≠ 3 → woke = b) ∧ (s.power = 3 → woke.power = 0 ∧ woke.now = s.now + 2000 * tUs) ∧
    (gets (.registerWrite off val) →
      exec .registerWrite s = ends (
        if off = 0x0000 then { woke with cmdBase := BitVec.ofNat 64 (val.toNat / 64 * 64) }
        else if off = 0x0008 then { woke with cmdSize := val.toNat % 16 }
        else if off = 0x0010 then { woke with cplBase := BitVec.ofNat 64 (val.toNat / 16 * 16) }
        else if off = 0x0018 then { woke with cplSize := val.toNat % 16 }
        else if off = 0x0020 then { woke with cmdTail := val.toNat % 2 ^ 16 }
        else if off = 0x0028 then State.flushCpl { woke with cplHead := val.toNat % 2 ^ 16 }
        else woke)) ∧
    (gets (.registerRead off) → exec .registerWrite s = ends (woke.replyWith (leBytes 8 (woke.register off).toNat))) ∧
    b.register 0x0030 = BitVec.ofNat 64 ((if s.boot = .ready then 1 else 0) + (if s.boot = .ready ∨ s.boot = .bootOk then 2 else 0) + 16 * s.power) ∧
    (gets (.hostApertureAccess a) →
      (s.paddock? (fld a.addr 38 4) = none → exec .hostApertureAccess s = ends (woke.allOnes a.op)) ∧
      (∀ p : Paddock, s.paddock? (fld a.addr 38 4) = some p →
        exec .hostApertureAccess s = ends (woke.outsideAccess p (fld a.addr 0 38) a.op))) ∧
    (s.power = 3 →
      ∀ x ∈ [(Input.peerAccess port a, Instr.peerAccess), (.peerLaunchArrival port d q r, .peerLaunchArrival),
          (.peerAcknowledges id v, .peerAcknowledges), (.fluidDataWrite d v n, .fluidDataWrite), (.scrub find, .scrub),
          (.tripClear d, .tripClear), (.clampRelease d, .clampRelease), (.flitReplay port n, .flitReplay),
          (.portRetrainAttempt port ok, .portRetrainAttempt), (.capCompute cap, .capCompute), (.healthWindow h, .healthWindow)],
        gets x.1 → exec x.2 s = ends b) ∧
    (gets (.peerAccess port a) → s.power ≠ 3 → ∀ p : Paddock, s.paddock? (fld a.addr 40 4) = some p →
      (p.admits port = true → exec .peerAccess s = ends (b.outsideAccess p (fld a.addr 0 40) a.op)) ∧
      (p.admits port = false → exec .peerAccess s = ends (b.allOnes a.op))) ∧
    (gets (.peerLaunchArrival port d q r) → s.power ≠ 3 → ∀ p : Paddock, s.paddock? d = some p →
      (p.admits port = true → exec .peerLaunchArrival s =
        ends ((b.acceptLaunch d q r none).2.replyWith [BitVec.ofNat 8 (b.acceptLaunch d q r none).1])) ∧
      (p.admits port = false → exec .peerLaunchArrival s = ends (b.replyWith [4]))) ∧
    (gets (.peerAcknowledges id v) → s.power ≠ 3 → ∀ (tag po pd qu : Nat) (rc : Rec8),
      s.outstanding = [.peerLaunch tag id po pd qu rc none] → exec .peerAcknowledges s =
        ends (State.complete { b with outstanding := [] } tag 0x06 (v % 256) 0)) ∧
    (gets .powerOn → s.modulePower = false → exec .powerOn s = ends b.boots) ∧
    (gets .converterShutdown → exec .converterShutdown s = ends (b.powerOnState .off)) ∧
    (gets (.fluidDataWrite d v n) → s.power ≠ 3 → exec .fluidDataWrite s = ends { b with fluid := some (d, v, n) }) ∧
    (gets (.scrub find) → s.power ≠ 3 → exec .scrub s = ends (match find with
      | .corrected d slice tile n => b.corrected d slice tile n
      | .poison pa x => b.poisonGranule pa x
      | .linkPayload k l pos => b.spoilSlot k l pos false
      | .linkSideband k l pos => b.spoilSlot k l pos true
      | .linkGap k l => b.modLink k l fun x => { x with gapBad := x.gap.isSome }
      | .storedForm pa zero => b.storedForm pa zero)) ∧
    (gets (.tripClear d) → s.power ≠ 3 → exec .tripClear s = ends (b.modDie d fun x => { x with tripped := false })) ∧
    (gets (.clampRelease d) → s.power ≠ 3 → exec .clampRelease s = ends (b.modDie d fun x => { x with clamped := false, clampConds := [] })) ∧
    (gets (.flitReplay port n) → s.power ≠ 3 → exec .flitReplay s = ends (b.setHealth { b.healthOf 1 port n with replays := (b.healthOf 1 port n).replays + 1 })) ∧
    (gets (.portRetrainAttempt port ok) → s.power ≠ 3 → (s.peer port).down = true → (s.peer port).retrainAt + 10 * tS ≤ s.now →
      exec .portRetrainAttempt s = ends (b.setPeer (if ok then { s.peer port with lanes := 8, removed := [], down := false }
        else { s.peer port with retrainAt := s.now }))) ∧
    (gets (.inputRange v) → v < 700000 ∨ 880000 < v → exec .inputRange s = ends (b.powerOnState .off)) ∧
    (s.boot = .ready → s.power ≠ 3 →
      (gets (.capCompute cap) →
        let rails := cap.rails.foldl (fun (t : State) (x : Nat × Nat × Nat × Nat × Nat) =>
          t.modDie x.1 fun d => d.setShelf { d.shelf x.2.1 with rail := (x.2.2.1, x.2.2.2.1, x.2.2.2.2) }) { b with reading := cap }
        exec .capCompute s = ends ((List.range 4).foldl (fun (t : State) d => t.capDie cap d) rails)) ∧
      (gets (.capClamp d v) → (s.die d).capMw < v →
        exec .capClamp s = ends ((b.clamp d 0x50).postEvent (powerReq 0x50 2 d d v))) ∧
      (gets (.fluxLimit d n v) → s.fluxAbove v s.frac = true →
        exec .fluxLimit s = ends ((b.clamp d 0x51).postEvent (powerReq 0x51 2 d (n % 64) v))) ∧
      (gets (.thermalTrip d sh v) → sh ≠ 0x7F → 125000 < v →
        exec .thermalTrip s = ends ((b.trip d).postEvent (powerReq 0x52 2 d (d + sh % 128 * 4) v))) ∧
      (gets (.thermalTrip d 0x7F v) → s.fluxAbove v 900 = true →
        exec .thermalTrip s = ends ((b.trip d).postEvent (powerReq 0x52 2 d (d + 0x7F * 4) v))) ∧
      (gets (.railFault d sh v) → ∀ (k : Kiln) (ks : List Kiln), (s.kilns.filter fun k => k.holds d sh) = k :: ks →
        exec .railFault s = ends ((k :: ks).foldl (fun (t : State) k => t.railStop d sh v k) b)) ∧
      (gets (.inputRange v) → (700000 ≤ v ∧ v < 760000) ∨ (840000 < v ∧ v ≤ 880000) → exec .inputRange s =
        ends (((List.range 4).foldl (fun (t : State) d => t.clamp d 0x54) b).postEvent (powerReq 0x54 2 0 0 v))) ∧
      (gets (.converterTemp v) → 105000 < v → exec .converterTemp s = ends ((b.halve 0).postEvent (powerReq 0x55 2 0 0 v))) ∧
      (gets (.healthWindow h) → h.quantity ≤ 5 → exec .healthWindow s = ends (b.healthDo h)))

/-- The events of tiles, links, ticks, RSU channels, memory tiles and the STU (R28 to R33, R40, R70 to R89, R122 to R136, R146,
R177, R248, R249, R281, R298, R389). The model's readings and choices: services 2 and 3 of FWSVC answer the measured power and the cap in
mW (log entry 19, DEDUCED); a bell is released as `State.releaseDue` says (log entries 16 and 42, DEDUCED); the deadline form of TIMER
sends the value of the cycle in which its condition is met (log entry 136, DESIGN CHOICE); service 1 samples the time in the cycle in
which its result is sent (log entry 141, DESIGN CHOICE); and the queue operations of one queue cycle act as the next one begins, in the
order of R300 (`State.actsNow`, log entry 44, DEDUCED). -/
def Obligations.TileEvents : Prop :=
  ∀ s : State,
    let b := s.begun
    let ends := fun t : State => Host.Outcome.next (s.commit t)
    (∀ (k : Kiln) (t : TileSt) (n : Nat), s.curTask = some (k, t, n) →
      (s.tileLive k t = true → s.mayFire k t n = true → exec .blockFire s = ends (b.fire k.id t.id n)) ∧
      (∀ x : Exec, s.tileLive k t = true → t.exec? n = some x → s.ends k t x = true → exec .blockEnd s = ends (b.endBlock k.id t.id n)) ∧
      (k.clocked s.now = true → t.cycAt = s.now → (t.tick.any fun x => x.due t.cyc) = true →
        exec .tick s = ends (b.modTile k.id t.id fun u => { u with tick := u.tick.map fun x => { x with
          fromCyc := u.cyc + 1
          queue := if x.queue.length < x.slots then x.queue ++ [((u.cyc - x.phase) / max 1 x.period, s.now)] else x.queue } })) ∧
      (∀ (l : Nat) (d : DTok) (u : State), n = 0 → s.tileLive k t = true → s.portTakes k t = true → k.portIn t.id = some l →
        (b.modTile k.id t.id fun tl => { tl with dataIssued := true }).vcPop k.id t.id (.link l) = (some (.data d), u) → d.isRaddle = false →
        ∀ k' : Kiln, u.kiln? k.id = some k' → exec .memoryTilePort s = ends (u.portTake k' t.id d)) ∧
      (∀ (v : Option Nat) (l : Nat) (d : DTok), n ≠ 0 → s.tileLive k t = true → s.portSends k t = some (v, l, d) → b.portSends k t = some (v, l, d) →
        exec .memoryTilePort s = ends (b.unitSend k l (.port v) d false))) ∧
    (∀ w : Where, s.curWhere = some w → s.actsNow w = true → s.workReady w = true → exec .waitSatisfied s = ends (b.workDo w)) ∧
    (∀ w : Where, s.curWhere = some w → s.tileLive w.k w.t = true →
      (State.lateReady w = false → w.k.settles w.t w.p = true →
        exec .instructionComplete s = ends (b.settle w.k.id w.t.id w.x.task w.p.slot)) ∧
      (State.lateReady w = true →
        exec .instructionComplete s = ends ((b.lateDo w).settle w.k.id w.t.id w.x.task w.p.slot)) ∧
      (∀ d : Word, w.p.work = .timer d → d.toNat ≤ w.t.cyc →
        exec .timerDeadline s = ends (b.putPend w (w.p.last [⟨w.p.ta, Tok.val (BitVec.ofNat 64 w.t.cyc), w.t.cyc + 1⟩,
          ⟨w.p.tb, Tok.val (BitVec.ofNat 64 w.t.cyc), w.t.cyc + 1⟩] (b.inFlight w.p.deps)))) ∧
      (∀ (svc at_ : Nat) (x : Word), w.p.work = .fwsvc svc x at_ → at_ ≤ s.now →
        let r := Tok.val (if svc = 0 then x else if svc = 1 then BitVec.ofNat 64 s.timeNs
          else if svc = 2 then BitVec.ofNat 64 (s.die w.k.die).powerMw else BitVec.ofNat 64 (s.die w.k.die).capMw)
        exec .fwsvcResult s =
          ends (b.putPend w (w.p.last [⟨w.p.ta, r, w.t.cyc⟩, ⟨w.p.tb, r, w.t.cyc⟩] (b.inFlight w.p.deps)))) ∧
      (∀ (row ea f wf bank : Nat) (got : List Payload) (c : Nat) (o : Option (List (List Nat))), w.p.work = .arow row ea f wf bank got c o →
        arowAddReady w row f got c o = true → exec .arowConsumed s = ends (b.arowAddDo w row ea f wf bank got c o))) ∧
    (∀ (k n : Nat) (a : Acc), s.cursor = .kiln k n → (s.accs.find? fun a => a.is k n) = some a → s.accReady a = true →
      exec .accessResponse s = ends (b.accDo a)) ∧
    (∀ (k : Kiln) (n : Nat) (l : LinkSt), s.curLink = some (k, n, l) → k.clocked s.now = true →
      (k.arrives s.now l = true → exec .linkArrival s = ends (b.arriveAt k n l)) ∧
      (∀ (x : Tok) (after : Option Gap) (rest : List (Tok × Option Gap)), l.waiting = (x, after) :: rest → l.occupancy < l.cfg.slots →
        let e := { l with waiting := rest }.enterStop s.now x after
        exec .waitingStopEnters s = ends ((b.modLink k.id n fun _ => k.sendBack e.1).postLink k.id l.cfg.dst e.2)) ∧
      (let here := fun (y : LinkSt) x => k.begun s.now y.cfg.src x
       (l.returning.any (here l)) = true → exec .creditReturn s = ends (b.modLink k.id n fun y => { y with
        credits := y.credits + y.returning.countP (here y), returning := y.returning.filter fun x => !here y x })) ∧
      (let past := fun (y : LinkSt) (x : Delay) => k.begun s.now y.cfg.dst x.due
       (l.delays.any (past l)) = true → exec .slotReturnDelayExpiry s = ends (b.modLink k.id n fun y =>
        k.sendCredits { y with delays := y.delays.filter fun x => !past y x } (y.delays.countP (past y)))) ∧
      (k.snap.isSome = true → l.sealed = false → l.raddled s.now = true →
        exec .raddleSeal s = ends (b.modLink k.id n fun y => { y with sealed := true }))) ∧
    (∀ (k : Kiln) (n : Nat), s.curKiln = some (k, n) →
      (k.runs s.now = true → k.stuReads (k.stu n) s.now = true → exec .stuTransformServe s = ends (b.stuRead k.id n)) ∧
      (k.runs s.now = true → s.stuWrites k (k.stu n) = true → exec .stuResultWrite s = ends (b.stuWrite k.id n)) ∧
      (let due := fun x : Nat × Nat × Nat × Bool => k.begun s.now x.1 x.2.1
       k.clocked s.now = true → k.sigWrites.any due = true → exec .signalPropagate s = ends (b.modKiln k.id fun y => { y with
        signals := applySignals ((y.sigWrites.filter due).map fun x => x.2.2) y.signals
        sigWrites := y.sigWrites.filter fun x => !due x })) ∧
      (∀ (x : BellSt) (i : Nat), k.bells[n]? = some x → s.releaseDue k x = some i → k.runs s.now = true →
        exec .bellRelease s = ends (b.release k.id n i)) ∧
      (∀ (x : BellSt) (t task since : Nat), k.bells[n]? = some x → x.opened = some (t, task, since) → k.awake s.now = true →
        x.timedOut = false → since + 280 * x.timeout ≤ s.now →
        exec .bellTimeout s = ends ((b.modKiln k.id fun y => { y with bells := y.bells.set n { x with timedOut := true } }).stopBy k.id
          (k.faultReq t task ((k.tileD t).task task).block 0 0x06 0 (n + x.count * 2 ^ 16)
            (x.tally % 2 ^ 32 + (x.gen + 1) % 2 ^ 32 * 2 ^ 32)) t task 0 n)) ∧
      (∀ r : RsuSt, k.rsus[n]? = some r → k.clocked s.now = true →
        (k.rsuFires r s.now = true → exec .rsuFire s = ends (b.rsuFire k n r)) ∧
        (∀ (c l : Nat) (x : DTok) (rest : List (Nat × DTok)), k.rsuLeaves r s.now = true → r.out = (c, x) :: rest → k.rsuOut r = some l →
          exec .rsuResult s = ends (b.unitSend k l (.rsu n) x true))))

/-- The events of launches, contexts, quanta, snapshots, engines, frames, power states and boot (R38 to R59, R144, R160, R166, R172,
R187, R300, R344, R380, R382). The model's readings and choices: the 64 cycles of a context switch are cycles of the reference clock (log
entry 16, DEDUCED); a sink that has received its level-7 stop is kept over a switch (log entry 63, DEDUCED); the granules of a copy move
in a free order (log entry 126, DESIGN CHOICE). -/
def Obligations.MachineEvents : Prop :=
  ∀ s : State,
    let b := s.begun
    let ends := fun t : State => Host.Outcome.next (s.commit t)
    (∀ (k : Kiln) (n : Nat), s.curKiln = some (k, n) →
      (∀ u : Nat × Nat × Nat, (s.unitsDue k)[n]? = some u → exec .unitInstall s = ends (b.install k.id u.1 u.2.1 u.2.2)) ∧
      (∀ at_ : Nat, k.stat = .starting at_ → at_ ≤ s.now → s.unitsDue k = [] → k.paused = none → s.savesHeldOn k = false →
        exec .launchStart s = ends (b.startKiln k.id)) ∧
      (s.completes k = true → exec .kilnComplete s = ends ((b.lastReports k.id).retire k.id 0).reap) ∧
      (∀ im : Image, s.phaseEnds k = true → s.image? k.charge = some im → exec .phaseEnd s = ends (b.modKiln k.id fun y => { y with
        sinks := y.sinks.map fun x => (x.1, x.2.1, x.2.2.1, y.sinkDone x)
        stat := .switching (s.now + 64 * 280) (im.next.getD (16 * k.ctx + k.signals.toNat % 16) 0) })) ∧
      (∀ at_ next : Nat, k.stat = .switching at_ next → at_ ≤ s.now → s.copiesOf k.id = false → (∀ a ∈ s.accs, a.kiln ≠ k.id) →
        exec .contextSwitchComplete s = ends (b.switchTo k.id next)) ∧
      (s.quantumEnds k = true → exec .quantumExpiry s = ends (b.modKiln k.id fun y => { y with stat := .freezing s.now .quantum })) ∧
      (∀ r : SnapRun, k.stat = .running → k.snap = some r → r.deadline ≤ s.now →
        exec .snapshotDeadline s = ends (b.modKiln k.id fun y => { y.unraddled with stat := .freezing s.now .snapshot }))) ∧
    (∀ (k : Kiln) (t : TileSt) (n : Nat), s.curTask = some (k, t, n) → t.id % 128 < 64 → s.tileLive k t = true →
      (t.task n).stat ≠ .absent → s.taskSaves k t n = true →
      exec .snapshotTaskSave s = ends ((b.taskSave k.id t.id n).snapFinish k.id)) ∧
    (∀ (d n i : Nat), s.cursor = .die d n i →
      (∀ t : State, s.pick d = some t → b.pick d = some t → exec .launchPick s = ends t) ∧
      (∀ (h : Head) (r : Rect), ((s.heads d).find? fun h => h.queue == n) = some h → s.reservable d h = some r →
        exec .launchReservation s = ends (b.modDie d fun x => { x with
          reservations := (x.reservations.filter fun y => !(y.queue == n && y.kiln == h.kiln)) ++
            [⟨n, h.kiln, r.col, r.row, r.cols, r.rows, h.prio⟩] })) ∧
      (s.boot = .ready → s.power ≠ 3 → (s.die d).epochAt + tMs ≤ s.now → exec .migrationEpoch s = ends (b.epochDo d)) ∧
      (s.shelfChanges d n = true → exec .powerStateChange s = ends (b.modDie d fun x =>
        x.setShelf { x.shelf n with
          power := s.shelfWants d n
          wakeAt := if s.shelfWants d n < (x.shelf n).power then s.now + exitTime (x.shelf n).power else (x.shelf n).wakeAt })) ∧
      (∀ (l : DList) (rest : List DList) (k : Kiln), s.drover d n = ⟨d, n, none, l :: rest⟩ → s.kiln? l.kiln = some k → k.enginesRun = true →
        s.performed l.kiln l.deps 3 = true → exec .droveListStart s =
          ends (b.draw.2.setDrover ⟨d, n, some { l with at_ := s.now + 1 + b.draw.1 }, rest⟩)) ∧
      (∀ c : DCtx, s.curDrover = some c → s.pushResumes c = true →
        exec .pushResume s = ends (b.putList c (some { c.l with waits := false }))) ∧
      (∀ a : BtuAt, s.curCopy = some a →
        (∀ (c : BtuCopy) (t u : State), s.copyBegins a = true →
          b.pktBegin (a.c.agent a.b.die a.b.shelf a.k) a.c.packet = .ok () t → t.copyNext a.c = (c, u) →
          exec .btuCopy s = ends (u.draw.2.putCopy a (some { c with started := true, at_ := u.draw.2.now + 1 + u.draw.1 }))) ∧
        (∀ (c : BtuCopy) (done : Bool) (t : State), s.copyLands a = true →
          (b.pktPart (a.c.agent a.b.die a.b.shelf a.k) a.c).2 = (c, .ok done t) →
          exec .btuCopyComplete s = ends (if done then t.putCopy a none
            else t.draw.2.putCopy a (some { c with held := none, retry := false, at_ := t.draw.2.now + 1 + t.draw.1 }))))) ∧
    (s.cursor = .item 0 → s.boot = .ready → s.power ≠ 3 → s.power ≠ s.packageWants →
      exec .powerStateChange s = ends { b with power := s.packageWants }) ∧
    (∀ n : Nat, s.cursor = .item n →
      (∀ t : State, s.refill n = some t → b.refill n = some t → exec .queueRefill s = ends t) ∧
      (∀ m : Migration, (s.migrations.find? fun m => m.id == n) = some m → m.doneAt ≤ s.now →
        exec .migrationComplete s = ends (b.migrateDone m)) ∧
      (∀ (j x : FoldJob) (t : State), (s.folds.find? fun j => j.id == n) = some j → s.foldReady j = true → b.foldPart j = .ok (x, true) t →
        exec .foldComplete s = ends ((t.draw.2.putFold n none).addCounter j.paddock j.counter 1))) ∧
    (∀ at_ : Nat, s.boot = .booting at_ → at_ ≤ s.now → exec .bootComplete s = ends { b with boot := .bootOk }) ∧
    (s.boot = .bootOk → exec .bootComplete s = ends { b with
      boot := .ready, bootEnd := s.now, measure := Config.measurement s.freeCount, freeCount := s.freeCount + 1
      dies := s.dies.map fun d => { d with epochAt := s.now } })

/-- A store lands where it goes and nowhere else. A scratchpad store that performs writes its bytes at the PA of its effective address
in the kiln's own tile (R139, R282), in a unit that the kiln owns; a global store that reaches its owner writes byte i at the
i-th byte's PA (R174 to R176), but behind a peer port that is down, where the spec leaves open whether it lands (R426;
log entry 90, DESIGN CHOICE); and a write of a drover, a BTU or a fold engine has its bytes at the PAs of its VAs once the engine has made
it. A scratchpad load without a full/empty qualifier sends the bytes it finds (R282). -/
def Obligations.StoresLand : Prop :=
  (∀ (s : State) (w : Where) (ea : Nat) (bs : List Byte) (fs : BitVec 2) (deps : List Nat) (at_ : Nat), StateInv s →
    s.curWhere = some w → s.tileLive w.k w.t = true → w.p.work = .scratch [ea] (.store bs) fs deps at_ → s.workReady w = true →
    s.owns w.k w.t.id 0 ea = true →
    ∃ t : State, exec .waitSatisfied s = .next t ∧
      ∀ x : Nat, t.byte x = if w.k.pa w.t.id 0 ea ≤ x ∧ x < w.k.pa w.t.id 0 ea + bs.length then bs.getD (x - w.k.pa w.t.id 0 ea) 0 else s.byte x) ∧
  (∀ (s : State) (w : Where) (ea n : Nat) (sx : Bool) (deps : List Nat) (at_ : Nat), StateInv s → n ∈ [1, 2, 4, 8] → ea % n = 0 →
    s.curWhere = some w → s.tileLive w.k w.t = true → w.p.work = .scratch [ea] (.load n sx) 0 deps at_ → s.workReady w = true →
    s.owns w.k w.t.id 0 ea = true → s.poison = [] →
    let v := s.num (w.k.pa w.t.id 0 ea) n
    exec .waitSatisfied s = .next (s.commit (s.begun.putPend w (w.p.last
      [⟨w.p.ta, Tok.val (BitVec.ofNat 64 (extend n sx v 64)), w.t.cyc + 1⟩, ⟨w.p.tb, Tok.order, w.t.cyc⟩] (s.begun.inFlight deps))))) ∧
  (∀ (s : State) (a : Acc) (ls : List Loc) (bs : List Byte), StateInv s →
    s.cursor = .kiln a.kiln a.id → (s.accs.find? fun x => x.is a.kiln a.id) = some a → s.accReady a = true → a.stage = .flight ls →
    a.req.op = .write bs → ls.length = bs.length → (ls.map Loc.pa).Nodup → s.downPort ls = none →
    ∃ t : State, exec .accessResponse s = .next t ∧
      (∀ (i : Nat) (l : Loc), ls[i]? = some l → t.byte l.pa = bs.getD i 0) ∧
      (∀ x : Nat, (∀ l ∈ ls, l.pa ≠ x) → t.byte x = s.byte x)) ∧
  (∀ (s u : State) (g : Agent) (va : Nat) (ls : List Loc) (bs : List Byte),
    s.engXlate g .write va bs.length = .ok ls u → ls.length = bs.length → (ls.map Loc.pa).Nodup →
    ∃ t : State, s.engWrite g va bs = .ok () t ∧
      (∀ (i : Nat) (l : Loc), ls[i]? = some l → t.byte l.pa = bs.getD i 0) ∧
      (∀ x : Nat, (∀ l ∈ ls, l.pa ≠ x) → t.byte x = u.byte x))
end

