-- ==== Sys2Proof/Laws/State.lean ====
section
/-! SUPPORT. What each update of the state leaves alone, field by field, and what a lookup finds after an update. -/

namespace Sys2Proof.Machine

/-! `modKiln`. -/

@[simp] theorem State.modKiln_mem (s : State) (k : Nat) (f : Kiln → Kiln) : (s.modKiln k f).mem = s.mem := rfl
@[simp] theorem State.modKiln_wlog (s : State) (k : Nat) (f : Kiln → Kiln) : (s.modKiln k f).wlog = s.wlog := rfl
@[simp] theorem State.modKiln_poison (s : State) (k : Nat) (f : Kiln → Kiln) : (s.modKiln k f).poison = s.poison := rfl
@[simp] theorem State.modKiln_now (s : State) (k : Nat) (f : Kiln → Kiln) : (s.modKiln k f).now = s.now := rfl
@[simp] theorem State.modKiln_inbox (s : State) (k : Nat) (f : Kiln → Kiln) : (s.modKiln k f).inbox = s.inbox := rfl
@[simp] theorem State.modKiln_cursor (s : State) (k : Nat) (f : Kiln → Kiln) : (s.modKiln k f).cursor = s.cursor := rfl
@[simp] theorem State.modKiln_freeCount (s : State) (k : Nat) (f : Kiln → Kiln) : (s.modKiln k f).freeCount = s.freeCount := rfl
@[simp] theorem State.modKiln_boot (s : State) (k : Nat) (f : Kiln → Kiln) : (s.modKiln k f).boot = s.boot := rfl
@[simp] theorem State.modKiln_bootEnd (s : State) (k : Nat) (f : Kiln → Kiln) : (s.modKiln k f).bootEnd = s.bootEnd := rfl
@[simp] theorem State.modKiln_measure (s : State) (k : Nat) (f : Kiln → Kiln) : (s.modKiln k f).measure = s.measure := rfl
@[simp] theorem State.modKiln_patch (s : State) (k : Nat) (f : Kiln → Kiln) : (s.modKiln k f).patch = s.patch := rfl
@[simp] theorem State.modKiln_applied (s : State) (k : Nat) (f : Kiln → Kiln) : (s.modKiln k f).applied = s.applied := rfl
@[simp] theorem State.modKiln_cmdBase (s : State) (k : Nat) (f : Kiln → Kiln) : (s.modKiln k f).cmdBase = s.cmdBase := rfl
@[simp] theorem State.modKiln_cmdSize (s : State) (k : Nat) (f : Kiln → Kiln) : (s.modKiln k f).cmdSize = s.cmdSize := rfl
@[simp] theorem State.modKiln_cplBase (s : State) (k : Nat) (f : Kiln → Kiln) : (s.modKiln k f).cplBase = s.cplBase := rfl
@[simp] theorem State.modKiln_cplSize (s : State) (k : Nat) (f : Kiln → Kiln) : (s.modKiln k f).cplSize = s.cplSize := rfl
@[simp] theorem State.modKiln_cmdTail (s : State) (k : Nat) (f : Kiln → Kiln) : (s.modKiln k f).cmdTail = s.cmdTail := rfl
@[simp] theorem State.modKiln_cplHead (s : State) (k : Nat) (f : Kiln → Kiln) : (s.modKiln k f).cplHead = s.cplHead := rfl
@[simp] theorem State.modKiln_cmdHead (s : State) (k : Nat) (f : Kiln → Kiln) : (s.modKiln k f).cmdHead = s.cmdHead := rfl
@[simp] theorem State.modKiln_cplTail (s : State) (k : Nat) (f : Kiln → Kiln) : (s.modKiln k f).cplTail = s.cplTail := rfl
@[simp] theorem State.modKiln_cplWait (s : State) (k : Nat) (f : Kiln → Kiln) : (s.modKiln k f).cplWait = s.cplWait := rfl
@[simp] theorem State.modKiln_msix (s : State) (k : Nat) (f : Kiln → Kiln) : (s.modKiln k f).msix = s.msix := rfl
@[simp] theorem State.modKiln_outstanding (s : State) (k : Nat) (f : Kiln → Kiln) : (s.modKiln k f).outstanding = s.outstanding := rfl
@[simp] theorem State.modKiln_replies (s : State) (k : Nat) (f : Kiln → Kiln) : (s.modKiln k f).replies = s.replies := rfl
@[simp] theorem State.modKiln_paddocks (s : State) (k : Nat) (f : Kiln → Kiln) : (s.modKiln k f).paddocks = s.paddocks := rfl
@[simp] theorem State.modKiln_queues (s : State) (k : Nat) (f : Kiln → Kiln) : (s.modKiln k f).queues = s.queues := rfl
@[simp] theorem State.modKiln_charges (s : State) (k : Nat) (f : Kiln → Kiln) : (s.modKiln k f).charges = s.charges := rfl
@[simp] theorem State.modKiln_nextKiln (s : State) (k : Nat) (f : Kiln → Kiln) : (s.modKiln k f).nextKiln = s.nextKiln := rfl
@[simp] theorem State.modKiln_nextCharge (s : State) (k : Nat) (f : Kiln → Kiln) : (s.modKiln k f).nextCharge = s.nextCharge := rfl
@[simp] theorem State.modKiln_nextId (s : State) (k : Nat) (f : Kiln → Kiln) : (s.modKiln k f).nextId = s.nextId := rfl
@[simp] theorem State.modKiln_accs (s : State) (k : Nat) (f : Kiln → Kiln) : (s.modKiln k f).accs = s.accs := rfl
@[simp] theorem State.modKiln_drovers (s : State) (k : Nat) (f : Kiln → Kiln) : (s.modKiln k f).drovers = s.drovers := rfl
@[simp] theorem State.modKiln_btus (s : State) (k : Nat) (f : Kiln → Kiln) : (s.modKiln k f).btus = s.btus := rfl
@[simp] theorem State.modKiln_folds (s : State) (k : Nat) (f : Kiln → Kiln) : (s.modKiln k f).folds = s.folds := rfl
@[simp] theorem State.modKiln_units (s : State) (k : Nat) (f : Kiln → Kiln) : (s.modKiln k f).units = s.units := rfl
@[simp] theorem State.modKiln_heldSaves (s : State) (k : Nat) (f : Kiln → Kiln) : (s.modKiln k f).heldSaves = s.heldSaves := rfl
@[simp] theorem State.modKiln_heldWords (s : State) (k : Nat) (f : Kiln → Kiln) : (s.modKiln k f).heldWords = s.heldWords := rfl
@[simp] theorem State.modKiln_snaps (s : State) (k : Nat) (f : Kiln → Kiln) : (s.modKiln k f).snaps = s.snaps := rfl
@[simp] theorem State.modKiln_frames (s : State) (k : Nat) (f : Kiln → Kiln) : (s.modKiln k f).frames = s.frames := rfl
@[simp] theorem State.modKiln_zeroFrames (s : State) (k : Nat) (f : Kiln → Kiln) : (s.modKiln k f).zeroFrames = s.zeroFrames := rfl
@[simp] theorem State.modKiln_healthDue (s : State) (k : Nat) (f : Kiln → Kiln) : (s.modKiln k f).healthDue = s.healthDue := rfl
@[simp] theorem State.modKiln_unitMiss (s : State) (k : Nat) (f : Kiln → Kiln) : (s.modKiln k f).unitMiss = s.unitMiss := rfl
@[simp] theorem State.modKiln_migrations (s : State) (k : Nat) (f : Kiln → Kiln) : (s.modKiln k f).migrations = s.migrations := rfl
@[simp] theorem State.modKiln_dies (s : State) (k : Nat) (f : Kiln → Kiln) : (s.modKiln k f).dies = s.dies := rfl
@[simp] theorem State.modKiln_peers (s : State) (k : Nat) (f : Kiln → Kiln) : (s.modKiln k f).peers = s.peers := rfl
@[simp] theorem State.modKiln_health (s : State) (k : Nat) (f : Kiln → Kiln) : (s.modKiln k f).health = s.health := rfl
@[simp] theorem State.modKiln_frac (s : State) (k : Nat) (f : Kiln → Kiln) : (s.modKiln k f).frac = s.frac := rfl
@[simp] theorem State.modKiln_fluid (s : State) (k : Nat) (f : Kiln → Kiln) : (s.modKiln k f).fluid = s.fluid := rfl
@[simp] theorem State.modKiln_floors (s : State) (k : Nat) (f : Kiln → Kiln) : (s.modKiln k f).floors = s.floors := rfl
@[simp] theorem State.modKiln_reading (s : State) (k : Nat) (f : Kiln → Kiln) : (s.modKiln k f).reading = s.reading := rfl
@[simp] theorem State.modKiln_power (s : State) (k : Nat) (f : Kiln → Kiln) : (s.modKiln k f).power = s.power := rfl
@[simp] theorem State.modKiln_modulePower (s : State) (k : Nat) (f : Kiln → Kiln) : (s.modKiln k f).modulePower = s.modulePower := rfl

/-! `modPaddock`. -/

@[simp] theorem State.modPaddock_mem (s : State) (p : Nat) (f : Paddock → Paddock) : (s.modPaddock p f).mem = s.mem := rfl
@[simp] theorem State.modPaddock_wlog (s : State) (p : Nat) (f : Paddock → Paddock) : (s.modPaddock p f).wlog = s.wlog := rfl
@[simp] theorem State.modPaddock_poison (s : State) (p : Nat) (f : Paddock → Paddock) : (s.modPaddock p f).poison = s.poison := rfl
@[simp] theorem State.modPaddock_now (s : State) (p : Nat) (f : Paddock → Paddock) : (s.modPaddock p f).now = s.now := rfl
@[simp] theorem State.modPaddock_inbox (s : State) (p : Nat) (f : Paddock → Paddock) : (s.modPaddock p f).inbox = s.inbox := rfl
@[simp] theorem State.modPaddock_cursor (s : State) (p : Nat) (f : Paddock → Paddock) : (s.modPaddock p f).cursor = s.cursor := rfl
@[simp] theorem State.modPaddock_freeCount (s : State) (p : Nat) (f : Paddock → Paddock) : (s.modPaddock p f).freeCount = s.freeCount := rfl
@[simp] theorem State.modPaddock_boot (s : State) (p : Nat) (f : Paddock → Paddock) : (s.modPaddock p f).boot = s.boot := rfl
@[simp] theorem State.modPaddock_bootEnd (s : State) (p : Nat) (f : Paddock → Paddock) : (s.modPaddock p f).bootEnd = s.bootEnd := rfl
@[simp] theorem State.modPaddock_measure (s : State) (p : Nat) (f : Paddock → Paddock) : (s.modPaddock p f).measure = s.measure := rfl
@[simp] theorem State.modPaddock_patch (s : State) (p : Nat) (f : Paddock → Paddock) : (s.modPaddock p f).patch = s.patch := rfl
@[simp] theorem State.modPaddock_applied (s : State) (p : Nat) (f : Paddock → Paddock) : (s.modPaddock p f).applied = s.applied := rfl
@[simp] theorem State.modPaddock_cmdBase (s : State) (p : Nat) (f : Paddock → Paddock) : (s.modPaddock p f).cmdBase = s.cmdBase := rfl
@[simp] theorem State.modPaddock_cmdSize (s : State) (p : Nat) (f : Paddock → Paddock) : (s.modPaddock p f).cmdSize = s.cmdSize := rfl
@[simp] theorem State.modPaddock_cplBase (s : State) (p : Nat) (f : Paddock → Paddock) : (s.modPaddock p f).cplBase = s.cplBase := rfl
@[simp] theorem State.modPaddock_cplSize (s : State) (p : Nat) (f : Paddock → Paddock) : (s.modPaddock p f).cplSize = s.cplSize := rfl
@[simp] theorem State.modPaddock_cmdTail (s : State) (p : Nat) (f : Paddock → Paddock) : (s.modPaddock p f).cmdTail = s.cmdTail := rfl
@[simp] theorem State.modPaddock_cplHead (s : State) (p : Nat) (f : Paddock → Paddock) : (s.modPaddock p f).cplHead = s.cplHead := rfl
@[simp] theorem State.modPaddock_cmdHead (s : State) (p : Nat) (f : Paddock → Paddock) : (s.modPaddock p f).cmdHead = s.cmdHead := rfl
@[simp] theorem State.modPaddock_cplTail (s : State) (p : Nat) (f : Paddock → Paddock) : (s.modPaddock p f).cplTail = s.cplTail := rfl
@[simp] theorem State.modPaddock_cplWait (s : State) (p : Nat) (f : Paddock → Paddock) : (s.modPaddock p f).cplWait = s.cplWait := rfl
@[simp] theorem State.modPaddock_msix (s : State) (p : Nat) (f : Paddock → Paddock) : (s.modPaddock p f).msix = s.msix := rfl
@[simp] theorem State.modPaddock_outstanding (s : State) (p : Nat) (f : Paddock → Paddock) : (s.modPaddock p f).outstanding = s.outstanding := rfl
@[simp] theorem State.modPaddock_replies (s : State) (p : Nat) (f : Paddock → Paddock) : (s.modPaddock p f).replies = s.replies := rfl
@[simp] theorem State.modPaddock_queues (s : State) (p : Nat) (f : Paddock → Paddock) : (s.modPaddock p f).queues = s.queues := rfl
@[simp] theorem State.modPaddock_charges (s : State) (p : Nat) (f : Paddock → Paddock) : (s.modPaddock p f).charges = s.charges := rfl
@[simp] theorem State.modPaddock_kilns (s : State) (p : Nat) (f : Paddock → Paddock) : (s.modPaddock p f).kilns = s.kilns := rfl
@[simp] theorem State.modPaddock_nextKiln (s : State) (p : Nat) (f : Paddock → Paddock) : (s.modPaddock p f).nextKiln = s.nextKiln := rfl
@[simp] theorem State.modPaddock_nextCharge (s : State) (p : Nat) (f : Paddock → Paddock) : (s.modPaddock p f).nextCharge = s.nextCharge := rfl
@[simp] theorem State.modPaddock_nextId (s : State) (p : Nat) (f : Paddock → Paddock) : (s.modPaddock p f).nextId = s.nextId := rfl
@[simp] theorem State.modPaddock_accs (s : State) (p : Nat) (f : Paddock → Paddock) : (s.modPaddock p f).accs = s.accs := rfl
@[simp] theorem State.modPaddock_drovers (s : State) (p : Nat) (f : Paddock → Paddock) : (s.modPaddock p f).drovers = s.drovers := rfl
@[simp] theorem State.modPaddock_btus (s : State) (p : Nat) (f : Paddock → Paddock) : (s.modPaddock p f).btus = s.btus := rfl
@[simp] theorem State.modPaddock_folds (s : State) (p : Nat) (f : Paddock → Paddock) : (s.modPaddock p f).folds = s.folds := rfl
@[simp] theorem State.modPaddock_units (s : State) (p : Nat) (f : Paddock → Paddock) : (s.modPaddock p f).units = s.units := rfl
@[simp] theorem State.modPaddock_heldSaves (s : State) (p : Nat) (f : Paddock → Paddock) : (s.modPaddock p f).heldSaves = s.heldSaves := rfl
@[simp] theorem State.modPaddock_heldWords (s : State) (p : Nat) (f : Paddock → Paddock) : (s.modPaddock p f).heldWords = s.heldWords := rfl
@[simp] theorem State.modPaddock_snaps (s : State) (p : Nat) (f : Paddock → Paddock) : (s.modPaddock p f).snaps = s.snaps := rfl
@[simp] theorem State.modPaddock_frames (s : State) (p : Nat) (f : Paddock → Paddock) : (s.modPaddock p f).frames = s.frames := rfl
@[simp] theorem State.modPaddock_zeroFrames (s : State) (p : Nat) (f : Paddock → Paddock) : (s.modPaddock p f).zeroFrames = s.zeroFrames := rfl
@[simp] theorem State.modPaddock_healthDue (s : State) (p : Nat) (f : Paddock → Paddock) : (s.modPaddock p f).healthDue = s.healthDue := rfl
@[simp] theorem State.modPaddock_unitMiss (s : State) (p : Nat) (f : Paddock → Paddock) : (s.modPaddock p f).unitMiss = s.unitMiss := rfl
@[simp] theorem State.modPaddock_migrations (s : State) (p : Nat) (f : Paddock → Paddock) : (s.modPaddock p f).migrations = s.migrations := rfl
@[simp] theorem State.modPaddock_dies (s : State) (p : Nat) (f : Paddock → Paddock) : (s.modPaddock p f).dies = s.dies := rfl
@[simp] theorem State.modPaddock_peers (s : State) (p : Nat) (f : Paddock → Paddock) : (s.modPaddock p f).peers = s.peers := rfl
@[simp] theorem State.modPaddock_health (s : State) (p : Nat) (f : Paddock → Paddock) : (s.modPaddock p f).health = s.health := rfl
@[simp] theorem State.modPaddock_frac (s : State) (p : Nat) (f : Paddock → Paddock) : (s.modPaddock p f).frac = s.frac := rfl
@[simp] theorem State.modPaddock_fluid (s : State) (p : Nat) (f : Paddock → Paddock) : (s.modPaddock p f).fluid = s.fluid := rfl
@[simp] theorem State.modPaddock_floors (s : State) (p : Nat) (f : Paddock → Paddock) : (s.modPaddock p f).floors = s.floors := rfl
@[simp] theorem State.modPaddock_reading (s : State) (p : Nat) (f : Paddock → Paddock) : (s.modPaddock p f).reading = s.reading := rfl
@[simp] theorem State.modPaddock_power (s : State) (p : Nat) (f : Paddock → Paddock) : (s.modPaddock p f).power = s.power := rfl
@[simp] theorem State.modPaddock_modulePower (s : State) (p : Nat) (f : Paddock → Paddock) : (s.modPaddock p f).modulePower = s.modulePower := rfl

/-! `modQueue`. -/

@[simp] theorem State.modQueue_mem (s : State) (q : Nat) (f : QueueSt → QueueSt) : (s.modQueue q f).mem = s.mem := rfl
@[simp] theorem State.modQueue_wlog (s : State) (q : Nat) (f : QueueSt → QueueSt) : (s.modQueue q f).wlog = s.wlog := rfl
@[simp] theorem State.modQueue_poison (s : State) (q : Nat) (f : QueueSt → QueueSt) : (s.modQueue q f).poison = s.poison := rfl
@[simp] theorem State.modQueue_now (s : State) (q : Nat) (f : QueueSt → QueueSt) : (s.modQueue q f).now = s.now := rfl
@[simp] theorem State.modQueue_inbox (s : State) (q : Nat) (f : QueueSt → QueueSt) : (s.modQueue q f).inbox = s.inbox := rfl
@[simp] theorem State.modQueue_cursor (s : State) (q : Nat) (f : QueueSt → QueueSt) : (s.modQueue q f).cursor = s.cursor := rfl
@[simp] theorem State.modQueue_freeCount (s : State) (q : Nat) (f : QueueSt → QueueSt) : (s.modQueue q f).freeCount = s.freeCount := rfl
@[simp] theorem State.modQueue_boot (s : State) (q : Nat) (f : QueueSt → QueueSt) : (s.modQueue q f).boot = s.boot := rfl
@[simp] theorem State.modQueue_bootEnd (s : State) (q : Nat) (f : QueueSt → QueueSt) : (s.modQueue q f).bootEnd = s.bootEnd := rfl
@[simp] theorem State.modQueue_measure (s : State) (q : Nat) (f : QueueSt → QueueSt) : (s.modQueue q f).measure = s.measure := rfl
@[simp] theorem State.modQueue_patch (s : State) (q : Nat) (f : QueueSt → QueueSt) : (s.modQueue q f).patch = s.patch := rfl
@[simp] theorem State.modQueue_applied (s : State) (q : Nat) (f : QueueSt → QueueSt) : (s.modQueue q f).applied = s.applied := rfl
@[simp] theorem State.modQueue_cmdBase (s : State) (q : Nat) (f : QueueSt → QueueSt) : (s.modQueue q f).cmdBase = s.cmdBase := rfl
@[simp] theorem State.modQueue_cmdSize (s : State) (q : Nat) (f : QueueSt → QueueSt) : (s.modQueue q f).cmdSize = s.cmdSize := rfl
@[simp] theorem State.modQueue_cplBase (s : State) (q : Nat) (f : QueueSt → QueueSt) : (s.modQueue q f).cplBase = s.cplBase := rfl
@[simp] theorem State.modQueue_cplSize (s : State) (q : Nat) (f : QueueSt → QueueSt) : (s.modQueue q f).cplSize = s.cplSize := rfl
@[simp] theorem State.modQueue_cmdTail (s : State) (q : Nat) (f : QueueSt → QueueSt) : (s.modQueue q f).cmdTail = s.cmdTail := rfl
@[simp] theorem State.modQueue_cplHead (s : State) (q : Nat) (f : QueueSt → QueueSt) : (s.modQueue q f).cplHead = s.cplHead := rfl
@[simp] theorem State.modQueue_cmdHead (s : State) (q : Nat) (f : QueueSt → QueueSt) : (s.modQueue q f).cmdHead = s.cmdHead := rfl
@[simp] theorem State.modQueue_cplTail (s : State) (q : Nat) (f : QueueSt → QueueSt) : (s.modQueue q f).cplTail = s.cplTail := rfl
@[simp] theorem State.modQueue_cplWait (s : State) (q : Nat) (f : QueueSt → QueueSt) : (s.modQueue q f).cplWait = s.cplWait := rfl
@[simp] theorem State.modQueue_msix (s : State) (q : Nat) (f : QueueSt → QueueSt) : (s.modQueue q f).msix = s.msix := rfl
@[simp] theorem State.modQueue_outstanding (s : State) (q : Nat) (f : QueueSt → QueueSt) : (s.modQueue q f).outstanding = s.outstanding := rfl
@[simp] theorem State.modQueue_replies (s : State) (q : Nat) (f : QueueSt → QueueSt) : (s.modQueue q f).replies = s.replies := rfl
@[simp] theorem State.modQueue_paddocks (s : State) (q : Nat) (f : QueueSt → QueueSt) : (s.modQueue q f).paddocks = s.paddocks := rfl
@[simp] theorem State.modQueue_charges (s : State) (q : Nat) (f : QueueSt → QueueSt) : (s.modQueue q f).charges = s.charges := rfl
@[simp] theorem State.modQueue_kilns (s : State) (q : Nat) (f : QueueSt → QueueSt) : (s.modQueue q f).kilns = s.kilns := rfl
@[simp] theorem State.modQueue_nextKiln (s : State) (q : Nat) (f : QueueSt → QueueSt) : (s.modQueue q f).nextKiln = s.nextKiln := rfl
@[simp] theorem State.modQueue_nextCharge (s : State) (q : Nat) (f : QueueSt → QueueSt) : (s.modQueue q f).nextCharge = s.nextCharge := rfl
@[simp] theorem State.modQueue_nextId (s : State) (q : Nat) (f : QueueSt → QueueSt) : (s.modQueue q f).nextId = s.nextId := rfl
@[simp] theorem State.modQueue_accs (s : State) (q : Nat) (f : QueueSt → QueueSt) : (s.modQueue q f).accs = s.accs := rfl
@[simp] theorem State.modQueue_drovers (s : State) (q : Nat) (f : QueueSt → QueueSt) : (s.modQueue q f).drovers = s.drovers := rfl
@[simp] theorem State.modQueue_btus (s : State) (q : Nat) (f : QueueSt → QueueSt) : (s.modQueue q f).btus = s.btus := rfl
@[simp] theorem State.modQueue_folds (s : State) (q : Nat) (f : QueueSt → QueueSt) : (s.modQueue q f).folds = s.folds := rfl
@[simp] theorem State.modQueue_units (s : State) (q : Nat) (f : QueueSt → QueueSt) : (s.modQueue q f).units = s.units := rfl
@[simp] theorem State.modQueue_heldSaves (s : State) (q : Nat) (f : QueueSt → QueueSt) : (s.modQueue q f).heldSaves = s.heldSaves := rfl
@[simp] theorem State.modQueue_heldWords (s : State) (q : Nat) (f : QueueSt → QueueSt) : (s.modQueue q f).heldWords = s.heldWords := rfl
@[simp] theorem State.modQueue_snaps (s : State) (q : Nat) (f : QueueSt → QueueSt) : (s.modQueue q f).snaps = s.snaps := rfl
@[simp] theorem State.modQueue_frames (s : State) (q : Nat) (f : QueueSt → QueueSt) : (s.modQueue q f).frames = s.frames := rfl
@[simp] theorem State.modQueue_zeroFrames (s : State) (q : Nat) (f : QueueSt → QueueSt) : (s.modQueue q f).zeroFrames = s.zeroFrames := rfl
@[simp] theorem State.modQueue_healthDue (s : State) (q : Nat) (f : QueueSt → QueueSt) : (s.modQueue q f).healthDue = s.healthDue := rfl
@[simp] theorem State.modQueue_unitMiss (s : State) (q : Nat) (f : QueueSt → QueueSt) : (s.modQueue q f).unitMiss = s.unitMiss := rfl
@[simp] theorem State.modQueue_migrations (s : State) (q : Nat) (f : QueueSt → QueueSt) : (s.modQueue q f).migrations = s.migrations := rfl
@[simp] theorem State.modQueue_dies (s : State) (q : Nat) (f : QueueSt → QueueSt) : (s.modQueue q f).dies = s.dies := rfl
@[simp] theorem State.modQueue_peers (s : State) (q : Nat) (f : QueueSt → QueueSt) : (s.modQueue q f).peers = s.peers := rfl
@[simp] theorem State.modQueue_health (s : State) (q : Nat) (f : QueueSt → QueueSt) : (s.modQueue q f).health = s.health := rfl
@[simp] theorem State.modQueue_frac (s : State) (q : Nat) (f : QueueSt → QueueSt) : (s.modQueue q f).frac = s.frac := rfl
@[simp] theorem State.modQueue_fluid (s : State) (q : Nat) (f : QueueSt → QueueSt) : (s.modQueue q f).fluid = s.fluid := rfl
@[simp] theorem State.modQueue_floors (s : State) (q : Nat) (f : QueueSt → QueueSt) : (s.modQueue q f).floors = s.floors := rfl
@[simp] theorem State.modQueue_reading (s : State) (q : Nat) (f : QueueSt → QueueSt) : (s.modQueue q f).reading = s.reading := rfl
@[simp] theorem State.modQueue_power (s : State) (q : Nat) (f : QueueSt → QueueSt) : (s.modQueue q f).power = s.power := rfl
@[simp] theorem State.modQueue_modulePower (s : State) (q : Nat) (f : QueueSt → QueueSt) : (s.modQueue q f).modulePower = s.modulePower := rfl

/-! `modDie`. -/

@[simp] theorem State.modDie_mem (s : State) (d : Nat) (f : DieSt → DieSt) : (s.modDie d f).mem = s.mem := rfl
@[simp] theorem State.modDie_wlog (s : State) (d : Nat) (f : DieSt → DieSt) : (s.modDie d f).wlog = s.wlog := rfl
@[simp] theorem State.modDie_poison (s : State) (d : Nat) (f : DieSt → DieSt) : (s.modDie d f).poison = s.poison := rfl
@[simp] theorem State.modDie_now (s : State) (d : Nat) (f : DieSt → DieSt) : (s.modDie d f).now = s.now := rfl
@[simp] theorem State.modDie_inbox (s : State) (d : Nat) (f : DieSt → DieSt) : (s.modDie d f).inbox = s.inbox := rfl
@[simp] theorem State.modDie_cursor (s : State) (d : Nat) (f : DieSt → DieSt) : (s.modDie d f).cursor = s.cursor := rfl
@[simp] theorem State.modDie_freeCount (s : State) (d : Nat) (f : DieSt → DieSt) : (s.modDie d f).freeCount = s.freeCount := rfl
@[simp] theorem State.modDie_boot (s : State) (d : Nat) (f : DieSt → DieSt) : (s.modDie d f).boot = s.boot := rfl
@[simp] theorem State.modDie_bootEnd (s : State) (d : Nat) (f : DieSt → DieSt) : (s.modDie d f).bootEnd = s.bootEnd := rfl
@[simp] theorem State.modDie_measure (s : State) (d : Nat) (f : DieSt → DieSt) : (s.modDie d f).measure = s.measure := rfl
@[simp] theorem State.modDie_patch (s : State) (d : Nat) (f : DieSt → DieSt) : (s.modDie d f).patch = s.patch := rfl
@[simp] theorem State.modDie_applied (s : State) (d : Nat) (f : DieSt → DieSt) : (s.modDie d f).applied = s.applied := rfl
@[simp] theorem State.modDie_cmdBase (s : State) (d : Nat) (f : DieSt → DieSt) : (s.modDie d f).cmdBase = s.cmdBase := rfl
@[simp] theorem State.modDie_cmdSize (s : State) (d : Nat) (f : DieSt → DieSt) : (s.modDie d f).cmdSize = s.cmdSize := rfl
@[simp] theorem State.modDie_cplBase (s : State) (d : Nat) (f : DieSt → DieSt) : (s.modDie d f).cplBase = s.cplBase := rfl
@[simp] theorem State.modDie_cplSize (s : State) (d : Nat) (f : DieSt → DieSt) : (s.modDie d f).cplSize = s.cplSize := rfl
@[simp] theorem State.modDie_cmdTail (s : State) (d : Nat) (f : DieSt → DieSt) : (s.modDie d f).cmdTail = s.cmdTail := rfl
@[simp] theorem State.modDie_cplHead (s : State) (d : Nat) (f : DieSt → DieSt) : (s.modDie d f).cplHead = s.cplHead := rfl
@[simp] theorem State.modDie_cmdHead (s : State) (d : Nat) (f : DieSt → DieSt) : (s.modDie d f).cmdHead = s.cmdHead := rfl
@[simp] theorem State.modDie_cplTail (s : State) (d : Nat) (f : DieSt → DieSt) : (s.modDie d f).cplTail = s.cplTail := rfl
@[simp] theorem State.modDie_cplWait (s : State) (d : Nat) (f : DieSt → DieSt) : (s.modDie d f).cplWait = s.cplWait := rfl
@[simp] theorem State.modDie_msix (s : State) (d : Nat) (f : DieSt → DieSt) : (s.modDie d f).msix = s.msix := rfl
@[simp] theorem State.modDie_outstanding (s : State) (d : Nat) (f : DieSt → DieSt) : (s.modDie d f).outstanding = s.outstanding := rfl
@[simp] theorem State.modDie_replies (s : State) (d : Nat) (f : DieSt → DieSt) : (s.modDie d f).replies = s.replies := rfl
@[simp] theorem State.modDie_paddocks (s : State) (d : Nat) (f : DieSt → DieSt) : (s.modDie d f).paddocks = s.paddocks := rfl
@[simp] theorem State.modDie_queues (s : State) (d : Nat) (f : DieSt → DieSt) : (s.modDie d f).queues = s.queues := rfl
@[simp] theorem State.modDie_charges (s : State) (d : Nat) (f : DieSt → DieSt) : (s.modDie d f).charges = s.charges := rfl
@[simp] theorem State.modDie_kilns (s : State) (d : Nat) (f : DieSt → DieSt) : (s.modDie d f).kilns = s.kilns := rfl
@[simp] theorem State.modDie_nextKiln (s : State) (d : Nat) (f : DieSt → DieSt) : (s.modDie d f).nextKiln = s.nextKiln := rfl
@[simp] theorem State.modDie_nextCharge (s : State) (d : Nat) (f : DieSt → DieSt) : (s.modDie d f).nextCharge = s.nextCharge := rfl
@[simp] theorem State.modDie_nextId (s : State) (d : Nat) (f : DieSt → DieSt) : (s.modDie d f).nextId = s.nextId := rfl
@[simp] theorem State.modDie_accs (s : State) (d : Nat) (f : DieSt → DieSt) : (s.modDie d f).accs = s.accs := rfl
@[simp] theorem State.modDie_drovers (s : State) (d : Nat) (f : DieSt → DieSt) : (s.modDie d f).drovers = s.drovers := rfl
@[simp] theorem State.modDie_btus (s : State) (d : Nat) (f : DieSt → DieSt) : (s.modDie d f).btus = s.btus := rfl
@[simp] theorem State.modDie_folds (s : State) (d : Nat) (f : DieSt → DieSt) : (s.modDie d f).folds = s.folds := rfl
@[simp] theorem State.modDie_units (s : State) (d : Nat) (f : DieSt → DieSt) : (s.modDie d f).units = s.units := rfl
@[simp] theorem State.modDie_heldSaves (s : State) (d : Nat) (f : DieSt → DieSt) : (s.modDie d f).heldSaves = s.heldSaves := rfl
@[simp] theorem State.modDie_heldWords (s : State) (d : Nat) (f : DieSt → DieSt) : (s.modDie d f).heldWords = s.heldWords := rfl
@[simp] theorem State.modDie_snaps (s : State) (d : Nat) (f : DieSt → DieSt) : (s.modDie d f).snaps = s.snaps := rfl
@[simp] theorem State.modDie_frames (s : State) (d : Nat) (f : DieSt → DieSt) : (s.modDie d f).frames = s.frames := rfl
@[simp] theorem State.modDie_zeroFrames (s : State) (d : Nat) (f : DieSt → DieSt) : (s.modDie d f).zeroFrames = s.zeroFrames := rfl
@[simp] theorem State.modDie_healthDue (s : State) (d : Nat) (f : DieSt → DieSt) : (s.modDie d f).healthDue = s.healthDue := rfl
@[simp] theorem State.modDie_unitMiss (s : State) (d : Nat) (f : DieSt → DieSt) : (s.modDie d f).unitMiss = s.unitMiss := rfl
@[simp] theorem State.modDie_migrations (s : State) (d : Nat) (f : DieSt → DieSt) : (s.modDie d f).migrations = s.migrations := rfl
@[simp] theorem State.modDie_peers (s : State) (d : Nat) (f : DieSt → DieSt) : (s.modDie d f).peers = s.peers := rfl
@[simp] theorem State.modDie_health (s : State) (d : Nat) (f : DieSt → DieSt) : (s.modDie d f).health = s.health := rfl
@[simp] theorem State.modDie_frac (s : State) (d : Nat) (f : DieSt → DieSt) : (s.modDie d f).frac = s.frac := rfl
@[simp] theorem State.modDie_fluid (s : State) (d : Nat) (f : DieSt → DieSt) : (s.modDie d f).fluid = s.fluid := rfl
@[simp] theorem State.modDie_floors (s : State) (d : Nat) (f : DieSt → DieSt) : (s.modDie d f).floors = s.floors := rfl
@[simp] theorem State.modDie_reading (s : State) (d : Nat) (f : DieSt → DieSt) : (s.modDie d f).reading = s.reading := rfl
@[simp] theorem State.modDie_power (s : State) (d : Nat) (f : DieSt → DieSt) : (s.modDie d f).power = s.power := rfl
@[simp] theorem State.modDie_modulePower (s : State) (d : Nat) (f : DieSt → DieSt) : (s.modDie d f).modulePower = s.modulePower := rfl

/-! `setDrover`. -/

@[simp] theorem State.setDrover_mem (s : State) (x : DroverSt) : (s.setDrover x).mem = s.mem := rfl
@[simp] theorem State.setDrover_wlog (s : State) (x : DroverSt) : (s.setDrover x).wlog = s.wlog := rfl
@[simp] theorem State.setDrover_poison (s : State) (x : DroverSt) : (s.setDrover x).poison = s.poison := rfl
@[simp] theorem State.setDrover_now (s : State) (x : DroverSt) : (s.setDrover x).now = s.now := rfl
@[simp] theorem State.setDrover_inbox (s : State) (x : DroverSt) : (s.setDrover x).inbox = s.inbox := rfl
@[simp] theorem State.setDrover_cursor (s : State) (x : DroverSt) : (s.setDrover x).cursor = s.cursor := rfl
@[simp] theorem State.setDrover_freeCount (s : State) (x : DroverSt) : (s.setDrover x).freeCount = s.freeCount := rfl
@[simp] theorem State.setDrover_boot (s : State) (x : DroverSt) : (s.setDrover x).boot = s.boot := rfl
@[simp] theorem State.setDrover_bootEnd (s : State) (x : DroverSt) : (s.setDrover x).bootEnd = s.bootEnd := rfl
@[simp] theorem State.setDrover_measure (s : State) (x : DroverSt) : (s.setDrover x).measure = s.measure := rfl
@[simp] theorem State.setDrover_patch (s : State) (x : DroverSt) : (s.setDrover x).patch = s.patch := rfl
@[simp] theorem State.setDrover_applied (s : State) (x : DroverSt) : (s.setDrover x).applied = s.applied := rfl
@[simp] theorem State.setDrover_cmdBase (s : State) (x : DroverSt) : (s.setDrover x).cmdBase = s.cmdBase := rfl
@[simp] theorem State.setDrover_cmdSize (s : State) (x : DroverSt) : (s.setDrover x).cmdSize = s.cmdSize := rfl
@[simp] theorem State.setDrover_cplBase (s : State) (x : DroverSt) : (s.setDrover x).cplBase = s.cplBase := rfl
@[simp] theorem State.setDrover_cplSize (s : State) (x : DroverSt) : (s.setDrover x).cplSize = s.cplSize := rfl
@[simp] theorem State.setDrover_cmdTail (s : State) (x : DroverSt) : (s.setDrover x).cmdTail = s.cmdTail := rfl
@[simp] theorem State.setDrover_cplHead (s : State) (x : DroverSt) : (s.setDrover x).cplHead = s.cplHead := rfl
@[simp] theorem State.setDrover_cmdHead (s : State) (x : DroverSt) : (s.setDrover x).cmdHead = s.cmdHead := rfl
@[simp] theorem State.setDrover_cplTail (s : State) (x : DroverSt) : (s.setDrover x).cplTail = s.cplTail := rfl
@[simp] theorem State.setDrover_cplWait (s : State) (x : DroverSt) : (s.setDrover x).cplWait = s.cplWait := rfl
@[simp] theorem State.setDrover_msix (s : State) (x : DroverSt) : (s.setDrover x).msix = s.msix := rfl
@[simp] theorem State.setDrover_outstanding (s : State) (x : DroverSt) : (s.setDrover x).outstanding = s.outstanding := rfl
@[simp] theorem State.setDrover_replies (s : State) (x : DroverSt) : (s.setDrover x).replies = s.replies := rfl
@[simp] theorem State.setDrover_paddocks (s : State) (x : DroverSt) : (s.setDrover x).paddocks = s.paddocks := rfl
@[simp] theorem State.setDrover_queues (s : State) (x : DroverSt) : (s.setDrover x).queues = s.queues := rfl
@[simp] theorem State.setDrover_charges (s : State) (x : DroverSt) : (s.setDrover x).charges = s.charges := rfl
@[simp] theorem State.setDrover_kilns (s : State) (x : DroverSt) : (s.setDrover x).kilns = s.kilns := rfl
@[simp] theorem State.setDrover_nextKiln (s : State) (x : DroverSt) : (s.setDrover x).nextKiln = s.nextKiln := rfl
@[simp] theorem State.setDrover_nextCharge (s : State) (x : DroverSt) : (s.setDrover x).nextCharge = s.nextCharge := rfl
@[simp] theorem State.setDrover_nextId (s : State) (x : DroverSt) : (s.setDrover x).nextId = s.nextId := rfl
@[simp] theorem State.setDrover_accs (s : State) (x : DroverSt) : (s.setDrover x).accs = s.accs := rfl
@[simp] theorem State.setDrover_btus (s : State) (x : DroverSt) : (s.setDrover x).btus = s.btus := rfl
@[simp] theorem State.setDrover_folds (s : State) (x : DroverSt) : (s.setDrover x).folds = s.folds := rfl
@[simp] theorem State.setDrover_units (s : State) (x : DroverSt) : (s.setDrover x).units = s.units := rfl
@[simp] theorem State.setDrover_heldSaves (s : State) (x : DroverSt) : (s.setDrover x).heldSaves = s.heldSaves := rfl
@[simp] theorem State.setDrover_heldWords (s : State) (x : DroverSt) : (s.setDrover x).heldWords = s.heldWords := rfl
@[simp] theorem State.setDrover_snaps (s : State) (x : DroverSt) : (s.setDrover x).snaps = s.snaps := rfl
@[simp] theorem State.setDrover_frames (s : State) (x : DroverSt) : (s.setDrover x).frames = s.frames := rfl
@[simp] theorem State.setDrover_zeroFrames (s : State) (x : DroverSt) : (s.setDrover x).zeroFrames = s.zeroFrames := rfl
@[simp] theorem State.setDrover_healthDue (s : State) (x : DroverSt) : (s.setDrover x).healthDue = s.healthDue := rfl
@[simp] theorem State.setDrover_unitMiss (s : State) (x : DroverSt) : (s.setDrover x).unitMiss = s.unitMiss := rfl
@[simp] theorem State.setDrover_migrations (s : State) (x : DroverSt) : (s.setDrover x).migrations = s.migrations := rfl
@[simp] theorem State.setDrover_dies (s : State) (x : DroverSt) : (s.setDrover x).dies = s.dies := rfl
@[simp] theorem State.setDrover_peers (s : State) (x : DroverSt) : (s.setDrover x).peers = s.peers := rfl
@[simp] theorem State.setDrover_health (s : State) (x : DroverSt) : (s.setDrover x).health = s.health := rfl
@[simp] theorem State.setDrover_frac (s : State) (x : DroverSt) : (s.setDrover x).frac = s.frac := rfl
@[simp] theorem State.setDrover_fluid (s : State) (x : DroverSt) : (s.setDrover x).fluid = s.fluid := rfl
@[simp] theorem State.setDrover_floors (s : State) (x : DroverSt) : (s.setDrover x).floors = s.floors := rfl
@[simp] theorem State.setDrover_reading (s : State) (x : DroverSt) : (s.setDrover x).reading = s.reading := rfl
@[simp] theorem State.setDrover_power (s : State) (x : DroverSt) : (s.setDrover x).power = s.power := rfl
@[simp] theorem State.setDrover_modulePower (s : State) (x : DroverSt) : (s.setDrover x).modulePower = s.modulePower := rfl

/-! `setBtu`. -/

@[simp] theorem State.setBtu_mem (s : State) (x : BtuSt) : (s.setBtu x).mem = s.mem := rfl
@[simp] theorem State.setBtu_wlog (s : State) (x : BtuSt) : (s.setBtu x).wlog = s.wlog := rfl
@[simp] theorem State.setBtu_poison (s : State) (x : BtuSt) : (s.setBtu x).poison = s.poison := rfl
@[simp] theorem State.setBtu_now (s : State) (x : BtuSt) : (s.setBtu x).now = s.now := rfl
@[simp] theorem State.setBtu_inbox (s : State) (x : BtuSt) : (s.setBtu x).inbox = s.inbox := rfl
@[simp] theorem State.setBtu_cursor (s : State) (x : BtuSt) : (s.setBtu x).cursor = s.cursor := rfl
@[simp] theorem State.setBtu_freeCount (s : State) (x : BtuSt) : (s.setBtu x).freeCount = s.freeCount := rfl
@[simp] theorem State.setBtu_boot (s : State) (x : BtuSt) : (s.setBtu x).boot = s.boot := rfl
@[simp] theorem State.setBtu_bootEnd (s : State) (x : BtuSt) : (s.setBtu x).bootEnd = s.bootEnd := rfl
@[simp] theorem State.setBtu_measure (s : State) (x : BtuSt) : (s.setBtu x).measure = s.measure := rfl
@[simp] theorem State.setBtu_patch (s : State) (x : BtuSt) : (s.setBtu x).patch = s.patch := rfl
@[simp] theorem State.setBtu_applied (s : State) (x : BtuSt) : (s.setBtu x).applied = s.applied := rfl
@[simp] theorem State.setBtu_cmdBase (s : State) (x : BtuSt) : (s.setBtu x).cmdBase = s.cmdBase := rfl
@[simp] theorem State.setBtu_cmdSize (s : State) (x : BtuSt) : (s.setBtu x).cmdSize = s.cmdSize := rfl
@[simp] theorem State.setBtu_cplBase (s : State) (x : BtuSt) : (s.setBtu x).cplBase = s.cplBase := rfl
@[simp] theorem State.setBtu_cplSize (s : State) (x : BtuSt) : (s.setBtu x).cplSize = s.cplSize := rfl
@[simp] theorem State.setBtu_cmdTail (s : State) (x : BtuSt) : (s.setBtu x).cmdTail = s.cmdTail := rfl
@[simp] theorem State.setBtu_cplHead (s : State) (x : BtuSt) : (s.setBtu x).cplHead = s.cplHead := rfl
@[simp] theorem State.setBtu_cmdHead (s : State) (x : BtuSt) : (s.setBtu x).cmdHead = s.cmdHead := rfl
@[simp] theorem State.setBtu_cplTail (s : State) (x : BtuSt) : (s.setBtu x).cplTail = s.cplTail := rfl
@[simp] theorem State.setBtu_cplWait (s : State) (x : BtuSt) : (s.setBtu x).cplWait = s.cplWait := rfl
@[simp] theorem State.setBtu_msix (s : State) (x : BtuSt) : (s.setBtu x).msix = s.msix := rfl
@[simp] theorem State.setBtu_outstanding (s : State) (x : BtuSt) : (s.setBtu x).outstanding = s.outstanding := rfl
@[simp] theorem State.setBtu_replies (s : State) (x : BtuSt) : (s.setBtu x).replies = s.replies := rfl
@[simp] theorem State.setBtu_paddocks (s : State) (x : BtuSt) : (s.setBtu x).paddocks = s.paddocks := rfl
@[simp] theorem State.setBtu_queues (s : State) (x : BtuSt) : (s.setBtu x).queues = s.queues := rfl
@[simp] theorem State.setBtu_charges (s : State) (x : BtuSt) : (s.setBtu x).charges = s.charges := rfl
@[simp] theorem State.setBtu_kilns (s : State) (x : BtuSt) : (s.setBtu x).kilns = s.kilns := rfl
@[simp] theorem State.setBtu_nextKiln (s : State) (x : BtuSt) : (s.setBtu x).nextKiln = s.nextKiln := rfl
@[simp] theorem State.setBtu_nextCharge (s : State) (x : BtuSt) : (s.setBtu x).nextCharge = s.nextCharge := rfl
@[simp] theorem State.setBtu_nextId (s : State) (x : BtuSt) : (s.setBtu x).nextId = s.nextId := rfl
@[simp] theorem State.setBtu_accs (s : State) (x : BtuSt) : (s.setBtu x).accs = s.accs := rfl
@[simp] theorem State.setBtu_drovers (s : State) (x : BtuSt) : (s.setBtu x).drovers = s.drovers := rfl
@[simp] theorem State.setBtu_folds (s : State) (x : BtuSt) : (s.setBtu x).folds = s.folds := rfl
@[simp] theorem State.setBtu_units (s : State) (x : BtuSt) : (s.setBtu x).units = s.units := rfl
@[simp] theorem State.setBtu_heldSaves (s : State) (x : BtuSt) : (s.setBtu x).heldSaves = s.heldSaves := rfl
@[simp] theorem State.setBtu_heldWords (s : State) (x : BtuSt) : (s.setBtu x).heldWords = s.heldWords := rfl
@[simp] theorem State.setBtu_snaps (s : State) (x : BtuSt) : (s.setBtu x).snaps = s.snaps := rfl
@[simp] theorem State.setBtu_frames (s : State) (x : BtuSt) : (s.setBtu x).frames = s.frames := rfl
@[simp] theorem State.setBtu_zeroFrames (s : State) (x : BtuSt) : (s.setBtu x).zeroFrames = s.zeroFrames := rfl
@[simp] theorem State.setBtu_healthDue (s : State) (x : BtuSt) : (s.setBtu x).healthDue = s.healthDue := rfl
@[simp] theorem State.setBtu_unitMiss (s : State) (x : BtuSt) : (s.setBtu x).unitMiss = s.unitMiss := rfl
@[simp] theorem State.setBtu_migrations (s : State) (x : BtuSt) : (s.setBtu x).migrations = s.migrations := rfl
@[simp] theorem State.setBtu_dies (s : State) (x : BtuSt) : (s.setBtu x).dies = s.dies := rfl
@[simp] theorem State.setBtu_peers (s : State) (x : BtuSt) : (s.setBtu x).peers = s.peers := rfl
@[simp] theorem State.setBtu_health (s : State) (x : BtuSt) : (s.setBtu x).health = s.health := rfl
@[simp] theorem State.setBtu_frac (s : State) (x : BtuSt) : (s.setBtu x).frac = s.frac := rfl
@[simp] theorem State.setBtu_fluid (s : State) (x : BtuSt) : (s.setBtu x).fluid = s.fluid := rfl
@[simp] theorem State.setBtu_floors (s : State) (x : BtuSt) : (s.setBtu x).floors = s.floors := rfl
@[simp] theorem State.setBtu_reading (s : State) (x : BtuSt) : (s.setBtu x).reading = s.reading := rfl
@[simp] theorem State.setBtu_power (s : State) (x : BtuSt) : (s.setBtu x).power = s.power := rfl
@[simp] theorem State.setBtu_modulePower (s : State) (x : BtuSt) : (s.setBtu x).modulePower = s.modulePower := rfl

/-! `poke`. -/

@[simp] theorem State.poke_mem (s : State) (a : Nat) (b : Byte) : (s.poke a b).mem = s.mem := rfl
@[simp] theorem State.poke_poison (s : State) (a : Nat) (b : Byte) : (s.poke a b).poison = s.poison := rfl
@[simp] theorem State.poke_now (s : State) (a : Nat) (b : Byte) : (s.poke a b).now = s.now := rfl
@[simp] theorem State.poke_inbox (s : State) (a : Nat) (b : Byte) : (s.poke a b).inbox = s.inbox := rfl
@[simp] theorem State.poke_cursor (s : State) (a : Nat) (b : Byte) : (s.poke a b).cursor = s.cursor := rfl
@[simp] theorem State.poke_freeCount (s : State) (a : Nat) (b : Byte) : (s.poke a b).freeCount = s.freeCount := rfl
@[simp] theorem State.poke_boot (s : State) (a : Nat) (b : Byte) : (s.poke a b).boot = s.boot := rfl
@[simp] theorem State.poke_bootEnd (s : State) (a : Nat) (b : Byte) : (s.poke a b).bootEnd = s.bootEnd := rfl
@[simp] theorem State.poke_measure (s : State) (a : Nat) (b : Byte) : (s.poke a b).measure = s.measure := rfl
@[simp] theorem State.poke_patch (s : State) (a : Nat) (b : Byte) : (s.poke a b).patch = s.patch := rfl
@[simp] theorem State.poke_applied (s : State) (a : Nat) (b : Byte) : (s.poke a b).applied = s.applied := rfl
@[simp] theorem State.poke_cmdBase (s : State) (a : Nat) (b : Byte) : (s.poke a b).cmdBase = s.cmdBase := rfl
@[simp] theorem State.poke_cmdSize (s : State) (a : Nat) (b : Byte) : (s.poke a b).cmdSize = s.cmdSize := rfl
@[simp] theorem State.poke_cplBase (s : State) (a : Nat) (b : Byte) : (s.poke a b).cplBase = s.cplBase := rfl
@[simp] theorem State.poke_cplSize (s : State) (a : Nat) (b : Byte) : (s.poke a b).cplSize = s.cplSize := rfl
@[simp] theorem State.poke_cmdTail (s : State) (a : Nat) (b : Byte) : (s.poke a b).cmdTail = s.cmdTail := rfl
@[simp] theorem State.poke_cplHead (s : State) (a : Nat) (b : Byte) : (s.poke a b).cplHead = s.cplHead := rfl
@[simp] theorem State.poke_cmdHead (s : State) (a : Nat) (b : Byte) : (s.poke a b).cmdHead = s.cmdHead := rfl
@[simp] theorem State.poke_cplTail (s : State) (a : Nat) (b : Byte) : (s.poke a b).cplTail = s.cplTail := rfl
@[simp] theorem State.poke_cplWait (s : State) (a : Nat) (b : Byte) : (s.poke a b).cplWait = s.cplWait := rfl
@[simp] theorem State.poke_msix (s : State) (a : Nat) (b : Byte) : (s.poke a b).msix = s.msix := rfl
@[simp] theorem State.poke_outstanding (s : State) (a : Nat) (b : Byte) : (s.poke a b).outstanding = s.outstanding := rfl
@[simp] theorem State.poke_replies (s : State) (a : Nat) (b : Byte) : (s.poke a b).replies = s.replies := rfl
@[simp] theorem State.poke_paddocks (s : State) (a : Nat) (b : Byte) : (s.poke a b).paddocks = s.paddocks := rfl
@[simp] theorem State.poke_queues (s : State) (a : Nat) (b : Byte) : (s.poke a b).queues = s.queues := rfl
@[simp] theorem State.poke_charges (s : State) (a : Nat) (b : Byte) : (s.poke a b).charges = s.charges := rfl
@[simp] theorem State.poke_kilns (s : State) (a : Nat) (b : Byte) : (s.poke a b).kilns = s.kilns := rfl
@[simp] theorem State.poke_nextKiln (s : State) (a : Nat) (b : Byte) : (s.poke a b).nextKiln = s.nextKiln := rfl
@[simp] theorem State.poke_nextCharge (s : State) (a : Nat) (b : Byte) : (s.poke a b).nextCharge = s.nextCharge := rfl
@[simp] theorem State.poke_nextId (s : State) (a : Nat) (b : Byte) : (s.poke a b).nextId = s.nextId := rfl
@[simp] theorem State.poke_accs (s : State) (a : Nat) (b : Byte) : (s.poke a b).accs = s.accs := rfl
@[simp] theorem State.poke_drovers (s : State) (a : Nat) (b : Byte) : (s.poke a b).drovers = s.drovers := rfl
@[simp] theorem State.poke_btus (s : State) (a : Nat) (b : Byte) : (s.poke a b).btus = s.btus := rfl
@[simp] theorem State.poke_folds (s : State) (a : Nat) (b : Byte) : (s.poke a b).folds = s.folds := rfl
@[simp] theorem State.poke_units (s : State) (a : Nat) (b : Byte) : (s.poke a b).units = s.units := rfl
@[simp] theorem State.poke_heldSaves (s : State) (a : Nat) (b : Byte) : (s.poke a b).heldSaves = s.heldSaves := rfl
@[simp] theorem State.poke_heldWords (s : State) (a : Nat) (b : Byte) : (s.poke a b).heldWords = s.heldWords := rfl
@[simp] theorem State.poke_snaps (s : State) (a : Nat) (b : Byte) : (s.poke a b).snaps = s.snaps := rfl
@[simp] theorem State.poke_frames (s : State) (a : Nat) (b : Byte) : (s.poke a b).frames = s.frames := rfl
@[simp] theorem State.poke_zeroFrames (s : State) (a : Nat) (b : Byte) : (s.poke a b).zeroFrames = s.zeroFrames := rfl
@[simp] theorem State.poke_healthDue (s : State) (a : Nat) (b : Byte) : (s.poke a b).healthDue = s.healthDue := rfl
@[simp] theorem State.poke_unitMiss (s : State) (a : Nat) (b : Byte) : (s.poke a b).unitMiss = s.unitMiss := rfl
@[simp] theorem State.poke_migrations (s : State) (a : Nat) (b : Byte) : (s.poke a b).migrations = s.migrations := rfl
@[simp] theorem State.poke_dies (s : State) (a : Nat) (b : Byte) : (s.poke a b).dies = s.dies := rfl
@[simp] theorem State.poke_peers (s : State) (a : Nat) (b : Byte) : (s.poke a b).peers = s.peers := rfl
@[simp] theorem State.poke_health (s : State) (a : Nat) (b : Byte) : (s.poke a b).health = s.health := rfl
@[simp] theorem State.poke_frac (s : State) (a : Nat) (b : Byte) : (s.poke a b).frac = s.frac := rfl
@[simp] theorem State.poke_fluid (s : State) (a : Nat) (b : Byte) : (s.poke a b).fluid = s.fluid := rfl
@[simp] theorem State.poke_floors (s : State) (a : Nat) (b : Byte) : (s.poke a b).floors = s.floors := rfl
@[simp] theorem State.poke_reading (s : State) (a : Nat) (b : Byte) : (s.poke a b).reading = s.reading := rfl
@[simp] theorem State.poke_power (s : State) (a : Nat) (b : Byte) : (s.poke a b).power = s.power := rfl
@[simp] theorem State.poke_modulePower (s : State) (a : Nat) (b : Byte) : (s.poke a b).modulePower = s.modulePower := rfl

/-! `commit`. -/

@[simp] theorem State.commit_poison (s t : State) : (s.commit t).poison = t.poison := rfl
@[simp] theorem State.commit_now (s t : State) : (s.commit t).now = t.now := rfl
@[simp] theorem State.commit_inbox (s t : State) : (s.commit t).inbox = t.inbox := rfl
@[simp] theorem State.commit_cursor (s t : State) : (s.commit t).cursor = t.cursor := rfl
@[simp] theorem State.commit_freeCount (s t : State) : (s.commit t).freeCount = t.freeCount := rfl
@[simp] theorem State.commit_boot (s t : State) : (s.commit t).boot = t.boot := rfl
@[simp] theorem State.commit_bootEnd (s t : State) : (s.commit t).bootEnd = t.bootEnd := rfl
@[simp] theorem State.commit_measure (s t : State) : (s.commit t).measure = t.measure := rfl
@[simp] theorem State.commit_patch (s t : State) : (s.commit t).patch = t.patch := rfl
@[simp] theorem State.commit_applied (s t : State) : (s.commit t).applied = t.applied := rfl
@[simp] theorem State.commit_cmdBase (s t : State) : (s.commit t).cmdBase = t.cmdBase := rfl
@[simp] theorem State.commit_cmdSize (s t : State) : (s.commit t).cmdSize = t.cmdSize := rfl
@[simp] theorem State.commit_cplBase (s t : State) : (s.commit t).cplBase = t.cplBase := rfl
@[simp] theorem State.commit_cplSize (s t : State) : (s.commit t).cplSize = t.cplSize := rfl
@[simp] theorem State.commit_cmdTail (s t : State) : (s.commit t).cmdTail = t.cmdTail := rfl
@[simp] theorem State.commit_cplHead (s t : State) : (s.commit t).cplHead = t.cplHead := rfl
@[simp] theorem State.commit_cmdHead (s t : State) : (s.commit t).cmdHead = t.cmdHead := rfl
@[simp] theorem State.commit_cplTail (s t : State) : (s.commit t).cplTail = t.cplTail := rfl
@[simp] theorem State.commit_cplWait (s t : State) : (s.commit t).cplWait = t.cplWait := rfl
@[simp] theorem State.commit_msix (s t : State) : (s.commit t).msix = t.msix := rfl
@[simp] theorem State.commit_outstanding (s t : State) : (s.commit t).outstanding = t.outstanding := rfl
@[simp] theorem State.commit_replies (s t : State) : (s.commit t).replies = t.replies := rfl
@[simp] theorem State.commit_paddocks (s t : State) : (s.commit t).paddocks = t.paddocks := rfl
@[simp] theorem State.commit_queues (s t : State) : (s.commit t).queues = t.queues := rfl
@[simp] theorem State.commit_charges (s t : State) : (s.commit t).charges = t.charges := rfl
@[simp] theorem State.commit_kilns (s t : State) : (s.commit t).kilns = t.kilns := rfl
@[simp] theorem State.commit_nextKiln (s t : State) : (s.commit t).nextKiln = t.nextKiln := rfl
@[simp] theorem State.commit_nextCharge (s t : State) : (s.commit t).nextCharge = t.nextCharge := rfl
@[simp] theorem State.commit_nextId (s t : State) : (s.commit t).nextId = t.nextId := rfl
@[simp] theorem State.commit_accs (s t : State) : (s.commit t).accs = t.accs := rfl
@[simp] theorem State.commit_drovers (s t : State) : (s.commit t).drovers = t.drovers := rfl
@[simp] theorem State.commit_btus (s t : State) : (s.commit t).btus = t.btus := rfl
@[simp] theorem State.commit_folds (s t : State) : (s.commit t).folds = t.folds := rfl
@[simp] theorem State.commit_units (s t : State) : (s.commit t).units = t.units := rfl
@[simp] theorem State.commit_heldSaves (s t : State) : (s.commit t).heldSaves = t.heldSaves := rfl
@[simp] theorem State.commit_heldWords (s t : State) : (s.commit t).heldWords = t.heldWords := rfl
@[simp] theorem State.commit_snaps (s t : State) : (s.commit t).snaps = t.snaps := rfl
@[simp] theorem State.commit_frames (s t : State) : (s.commit t).frames = t.frames := rfl
@[simp] theorem State.commit_zeroFrames (s t : State) : (s.commit t).zeroFrames = t.zeroFrames := rfl
@[simp] theorem State.commit_healthDue (s t : State) : (s.commit t).healthDue = t.healthDue := rfl
@[simp] theorem State.commit_unitMiss (s t : State) : (s.commit t).unitMiss = t.unitMiss := rfl
@[simp] theorem State.commit_migrations (s t : State) : (s.commit t).migrations = t.migrations := rfl
@[simp] theorem State.commit_dies (s t : State) : (s.commit t).dies = t.dies := rfl
@[simp] theorem State.commit_peers (s t : State) : (s.commit t).peers = t.peers := rfl
@[simp] theorem State.commit_health (s t : State) : (s.commit t).health = t.health := rfl
@[simp] theorem State.commit_frac (s t : State) : (s.commit t).frac = t.frac := rfl
@[simp] theorem State.commit_fluid (s t : State) : (s.commit t).fluid = t.fluid := rfl
@[simp] theorem State.commit_floors (s t : State) : (s.commit t).floors = t.floors := rfl
@[simp] theorem State.commit_reading (s t : State) : (s.commit t).reading = t.reading := rfl
@[simp] theorem State.commit_power (s t : State) : (s.commit t).power = t.power := rfl
@[simp] theorem State.commit_modulePower (s t : State) : (s.commit t).modulePower = t.modulePower := rfl
@[simp] theorem State.commit_mem (s t : State) : (s.commit t).mem = Mem.apply s.mem t.wlog := rfl
@[simp] theorem State.commit_wlog (s t : State) : (s.commit t).wlog = [] := rfl

/-! Lookups. -/

/-- Updating elements where a key matches leaves what a lookup of another key finds. -/
theorem find?_updateWhere_ne {α : Type} (p q : α → Bool) (f : α → α) (l : List α)
    (hp : ∀ x, q x = true → p x = false) (hf : ∀ x, p x = true → q (f x) = false) :
    (updateWhere p f l).find? q = l.find? q := by
  induction l with
  | nil => rfl
  | cons x r ih =>
    simp only [updateWhere, List.map_cons] at ih ⊢
    by_cases h : p x = true
    · have hq : q x = false := by
        cases hqx : q x
        · rfl
        · exact absurd h (by simp [hp x hqx])
      simp [List.find?_cons, h, hf x h, hq, ih]
    · simp only [Bool.not_eq_true] at h
      simp [List.find?_cons, h, ih]

/-- A lookup by the key that was updated finds the updated element. -/
theorem find?_updateWhere_eq {α : Type} (p : α → Bool) (f : α → α) (l : List α) (hf : ∀ x, p x = true → p (f x) = true) :
    (updateWhere p f l).find? p = (l.find? p).map f := by
  induction l with
  | nil => rfl
  | cons x r ih =>
    simp only [updateWhere, List.map_cons] at ih ⊢
    by_cases h : p x = true
    · simp [List.find?_cons, h, hf x h]
    · simp only [Bool.not_eq_true] at h
      simp [List.find?_cons, h, ih]

/-- A kiln that was updated, found by its id. -/
theorem State.kiln?_modKiln (s : State) (k : Nat) (f : Kiln → Kiln) (hf : ∀ x, (f x).id = x.id) :
    (s.modKiln k f).kiln? k = (s.kiln? k).map f :=
  find?_updateWhere_eq _ f s.kilns fun x h => by simpa [hf x] using h

/-- The other kilns are as before. -/
theorem State.kiln?_modKiln_ne (s : State) (k n : Nat) (f : Kiln → Kiln) (hf : ∀ x, (f x).id = x.id) (h : n ≠ k) :
    (s.modKiln k f).kiln? n = s.kiln? n :=
  find?_updateWhere_ne _ _ f s.kilns (fun x hx => by simp_all) (fun x hx => by simp_all [hf x]; exact fun e => h e.symm)

/-- A tile that was put in a kiln, found by its id. -/
theorem Kiln.tile?_setTile (k : Kiln) (t : TileSt) : (k.setTile t).tile? t.id = some t := by
  unfold Kiln.setTile
  split
  · next h =>
    simp only [Kiln.tile?]
    rw [find?_updateWhere_eq _ _ _ (fun x _ => by simp)]
    obtain ⟨x, hx, hid⟩ := List.any_eq_true.1 h
    cases hf : k.tiles.find? fun x => x.id == t.id with
    | none => exact absurd hid (by simpa using List.find?_eq_none.1 hf x hx)
    | some y => rfl
  · next h =>
    simp only [Kiln.tile?, List.find?_append]
    have : (k.tiles.find? fun x => x.id == t.id) = none := by
      rw [List.find?_eq_none]
      intro x hx hid
      exact h (List.any_eq_true.2 ⟨x, hx, hid⟩)
    simp [this]

/-- The other tiles of the kiln are as before. -/
theorem Kiln.tile?_setTile_ne (k : Kiln) (t : TileSt) (n : Nat) (h : n ≠ t.id) : (k.setTile t).tile? n = k.tile? n := by
  unfold Kiln.setTile
  split
  · exact find?_updateWhere_ne _ _ _ k.tiles (fun x hx => by simp_all) (fun x _ => by simpa using fun e => h e.symm)
  · simp only [Kiln.tile?, List.find?_append]
    have : ([t].find? fun x => x.id == n) = none := by simpa using fun e => h e.symm
    rw [this]
    cases k.tiles.find? fun x => x.id == n <;> rfl

/-- Putting a tile in a kiln changes its tiles alone. -/
theorem Kiln.setTile_eq (k : Kiln) (t : TileSt) : k.setTile t = { k with tiles := (k.setTile t).tiles } := by
  unfold Kiln.setTile
  split <;> rfl

@[simp] theorem Kiln.setTile_id (k : Kiln) (t : TileSt) : (k.setTile t).id = k.id := by
  rw [Kiln.setTile_eq]

end Sys2Proof.Machine
end

