-- ==== Sys2Proof/Laws/Ops.lean ====
section
/-! SUPPORT. One lemma for each shared operation: what it can change, so that no proof unfolds it again. -/

namespace Sys2Proof.Machine

/-! Stores of a step. -/

theorem State.pokeAt_frame (l : List (Nat × Byte)) : ∀ s : State, s.pokeAt l = { s with wlog := (s.pokeAt l).wlog } := by
  induction l with
  | nil => intro s; rfl
  | cons x r ih => intro s; exact ih (s.poke x.1 x.2)

theorem State.pokes_frame (s : State) (a : Nat) (bs : List Byte) :
    s.pokes a bs = { s with wlog := (s.pokes a bs).wlog, poison := (s.pokes a bs).poison } := by
  simp only [State.pokes]; rw [State.pokeAt_frame]

theorem State.wipe_frame (s : State) (lo hi : Nat) :
    s.wipe lo hi = { s with wlog := (s.wipe lo hi).wlog, poison := (s.wipe lo hi).poison } := by
  simp only [State.wipe]; rw [State.pokeAt_frame]

/-! Stores. -/

theorem State.byte_poke (s : State) (a : Nat) (b : Byte) (x : Nat) : (s.poke a b).byte x = if x = a then b else s.byte x := by
  simp only [State.byte, State.poke, List.find?]
  by_cases h : a = x
  · simp [h]
  · rw [if_neg (Ne.symm h), beq_false_of_ne h]

/-- Bytes stored from an address on are read back, and every other byte is untouched. -/
theorem State.byte_pokeAt (bs : List Byte) : ∀ (s : State) (a n x : Nat),
    (s.pokeAt (((List.range' n bs.length).zip bs).map fun p => (a + p.1, p.2))).byte x =
      if a + n ≤ x ∧ x < a + n + bs.length then bs.getD (x - a - n) 0 else s.byte x := by
  induction bs with
  | nil => intro s a n x; rw [if_neg (by simp only [List.length_nil]; omega)]; rfl
  | cons b r ih =>
    intro s a n x
    simp only [List.length_cons, List.range'_succ, List.zip_cons_cons, List.map_cons, State.pokeAt]
    rw [ih, State.byte_poke]
    by_cases h1 : x = a + n
    · subst h1
      rw [if_neg (by omega), if_pos rfl, if_pos (by omega)]
      simp
    · by_cases h2 : a + (n + 1) ≤ x ∧ x < a + (n + 1) + r.length
      · rw [if_pos h2, if_pos (by omega)]
        rw [show x - a - n = (x - a - (n + 1)) + 1 by omega]
        rfl
      · rw [if_neg h2, if_neg h1, if_neg (by omega)]

/-- The bytes that `pokes` stores are read back, and every other byte is untouched. -/
theorem State.byte_pokes (s : State) (a : Nat) (bs : List Byte) (x : Nat) :
    (s.pokes a bs).byte x = if a ≤ x ∧ x < a + bs.length then bs.getD (x - a) 0 else s.byte x := by
  have h := State.byte_pokeAt bs s a 0 x
  rw [← List.range_eq_range'] at h
  exact h

/-! Completion entries and fault records. -/

theorem State.pushCpl_frame (s : State) (w0 w1 : Word) (vec : Nat) :
    s.pushCpl w0 w1 vec = { s with
      wlog := (s.pushCpl w0 w1 vec).wlog, poison := (s.pushCpl w0 w1 vec).poison, cplTail := (s.pushCpl w0 w1 vec).cplTail
      msix := (s.pushCpl w0 w1 vec).msix, cplWait := (s.pushCpl w0 w1 vec).cplWait } := by
  unfold State.pushCpl
  split
  · dsimp only; rw [State.pokes_frame]
  · rfl

/-- A completion entry where the ring has room: two words at the tail's place, the tail and a message. -/
theorem State.pushCpl_room {s : State} (h : (s.cplTail + 2 ^ 16 - s.cplHead) % 2 ^ 16 < 2 ^ s.cplSize) (w0 w1 : Word) (vec : Nat) :
    s.pushCpl w0 w1 vec =
      { s.pokes (hostPa (s.cplBase.toNat + 16 * (s.cplTail % 2 ^ s.cplSize))) (leBytes 8 w0.toNat ++ leBytes 8 w1.toNat) with
        cplTail := (s.cplTail + 1) % 2 ^ 16, msix := s.msix ++ [vec] } := by
  unfold State.pushCpl
  rw [if_pos h]
  dsimp only
  rw [State.pokes_frame]

/-- Posting a fault changes its die, the numbers given out, the messages sent, and what an overflow event writes. -/
theorem State.postFault_frame (s : State) (f : FaultReq) :
    (s.postFault f).2 = { s with
      wlog := (s.postFault f).2.wlog, poison := (s.postFault f).2.poison, cplTail := (s.postFault f).2.cplTail
      msix := (s.postFault f).2.msix, cplWait := (s.postFault f).2.cplWait, dies := (s.postFault f).2.dies, nextId := s.nextId + 1 } := by
  unfold State.postFault State.fresh
  dsimp only
  split
  · rfl
  · dsimp only
    split
    · unfold State.event
      rw [State.pushCpl_frame]
      rfl
    · rfl

theorem State.postFault_uid (s : State) (f : FaultReq) : (s.postFault f).1 = s.nextId := by
  unfold State.postFault State.fresh
  dsimp only
  split <;> rfl

/-! Steps. -/

/-- A tile instruction that acts runs its effect and records its issue. -/
theorem onTileS_acts {s : State} {c : Ctx} {p : Pred} (h : s.Acts c p) (plane : Bool) (o : OrderTo) (ta tb : Target)
    (f : State → Ctx → State × Issue) :
    onTileS s plane p o ta tb f = .next (s.issuedFrom (f s.begun c).1 c plane ta tb (f s.begun c).2) := by
  simp only [onTileS, h.1, State.run, h.2, Bool.false_eq_true, ↓reduceIte, State.issuedFrom, State.begun]

/-- A tile instruction whose meaning is an issue of its context. -/
theorem onTile_acts {s : State} {c : Ctx} {p : Pred} (h : s.Acts c p) (plane : Bool) (ta tb : Target) (f : Ctx → Issue) :
    onTile s plane p ta tb f = .next (s.issuing c plane ta tb (f c)) := by
  simp only [onTile, onTileS_acts h, State.issuing]

/-- A nullified tile instruction sends at most its order token (R31). -/
theorem onTileS_nulls {s : State} {c : Ctx} {p : Pred} (h : s.Nulls c p) (plane : Bool) (o : OrderTo) (ta tb : Target)
    (f : State → Ctx → State × Issue) :
    onTileS s plane p o ta tb f = .next (s.issuing c plane ta tb (c.nullIssue o ta tb)) := by
  simp only [onTileS, h.1, State.run, h.2, ↓reduceIte, State.issuing, State.issuedFrom, State.begun]

theorem onTile_nulls {s : State} {c : Ctx} {p : Pred} (h : s.Nulls c p) (plane : Bool) (ta tb : Target) (f : Ctx → Issue) :
    onTile s plane p ta tb f = .next (s.issuing c plane ta tb c.nothing) := by
  simp only [onTile, onTileS_nulls h]; rfl

end Sys2Proof.Machine
end

