-- ==== Sys2Proof/Laws/Exec.lean ====
section
/-! SUPPORT. What the meaning of an instruction can answer: a next state that commits the step's stores to the memory it began
with, and nothing else. -/

namespace Sys2Proof.Machine

/-- Every next state that an outcome of `s` holds commits the step's stores to `s`'s memory. -/
def Commits (s : State) (o : Host.Outcome State Fault Refusal) : Prop := ∀ t : State, o = .next t → ∃ v : State, t = s.commit v

theorem Commits.stops {s : State} {f : Fault} : Commits s (.fault f) := by intro t h; cases h

theorem Commits.runs {s : State} {f : State → State} : Commits s (s.run f) := by
  intro t h; cases h; exact ⟨_, rfl⟩

theorem Commits.tileS {s : State} {b : Bool} {p : Pred} {o : OrderTo} {ta tb : Target} {f : State → Ctx → State × Issue} :
    Commits s (onTileS s b p o ta tb f) := by
  unfold onTileS; split
  · exact .stops
  · exact .runs

theorem Commits.tile {s : State} {b : Bool} {p : Pred} {ta tb : Target} {f : Ctx → Issue} : Commits s (onTile s b p ta tb f) := .tileS

theorem Commits.drover {s : State} {f : State → DCtx → State} : Commits s (onDrover s f) := by
  unfold onDrover; split
  · exact .stops
  · exact .runs

theorem Commits.command {s : State} {m : List Nat} {f : State → Rec8 → State} : Commits s (onCommand s m f) := by
  unfold onCommand; split
  · exact .runs
  · exact .stops

theorem Commits.paddock {s : State} {m : List Nat} {f : State → Rec8 → Paddock → State} : Commits s (onPaddock s m f) := .command

theorem Commits.happens {s : State} {b : Bool} {f : State → State} : Commits s (s.happen b f) := by
  unfold State.happen; split
  · exact .runs
  · exact .stops

theorem Commits.input {s : State} {f : Input → Option (State → State)} : Commits s (onInput s f) := by
  unfold onInput; split
  · split
    · exact .runs
    · exact .stops
  · exact .stops

theorem Commits.place {s : State} {d : Where → Bool} {f : State → Where → State} : Commits s (s.onWhere d f) := by
  unfold State.onWhere; split
  · exact .stops
  · exact .happens

theorem Commits.link {s : State} {d : Kiln → LinkSt → Bool} {f : State → Kiln → Nat → LinkSt → State} : Commits s (s.onLink d f) := by
  unfold State.onLink; split
  · exact .stops
  · exact .happens

theorem execNop_commits (s : State) a0 : Commits s (execNop a0 s) := .tile
theorem execExit_commits (s : State) a0 a1 : Commits s (execExit a0 a1 s) := .tile
theorem execExitx_commits (s : State) a0 : Commits s (execExitx a0 s) := .tileS
theorem execHalt_commits (s : State) a0 : Commits s (execHalt a0 s) := .tile
theorem execYield_commits (s : State) a0 a1 a2 : Commits s (execYield a0 a1 a2 s) := .tile
theorem execCtxend_commits (s : State) a0 : Commits s (execCtxend a0 s) := .tile
theorem execPset_commits (s : State) a0 a1 a2 a3 : Commits s (execPset a0 a1 a2 a3 s) := .tile
theorem execPnot_commits (s : State) a0 a1 a2 : Commits s (execPnot a0 a1 a2 s) := .tile
theorem execPand_commits (s : State) a0 a1 a2 : Commits s (execPand a0 a1 a2 s) := .tile
theorem execPor_commits (s : State) a0 a1 a2 : Commits s (execPor a0 a1 a2 s) := .tile
theorem execPxor_commits (s : State) a0 a1 a2 : Commits s (execPxor a0 a1 a2 s) := .tile
theorem execTstz_commits (s : State) a0 a1 a2 : Commits s (execTstz a0 a1 a2 s) := .tile
theorem execTstnz_commits (s : State) a0 a1 a2 : Commits s (execTstnz a0 a1 a2 s) := .tile
theorem execTstneg_commits (s : State) a0 a1 a2 : Commits s (execTstneg a0 a1 a2 s) := .tile
theorem execTstbit_commits (s : State) a0 a1 a2 a3 : Commits s (execTstbit a0 a1 a2 a3 s) := .tile
theorem execAdd_commits (s : State) a0 a1 a2 : Commits s (execAdd a0 a1 a2 s) := .tile
theorem execSub_commits (s : State) a0 a1 a2 : Commits s (execSub a0 a1 a2 s) := .tile
theorem execMul_commits (s : State) a0 a1 a2 : Commits s (execMul a0 a1 a2 s) := .tile
theorem execMulhs_commits (s : State) a0 a1 a2 : Commits s (execMulhs a0 a1 a2 s) := .tile
theorem execMulhu_commits (s : State) a0 a1 a2 : Commits s (execMulhu a0 a1 a2 s) := .tile
theorem execDivs_commits (s : State) a0 a1 a2 : Commits s (execDivs a0 a1 a2 s) := .tile
theorem execDivu_commits (s : State) a0 a1 a2 : Commits s (execDivu a0 a1 a2 s) := .tile
theorem execRems_commits (s : State) a0 a1 a2 : Commits s (execRems a0 a1 a2 s) := .tile
theorem execRemu_commits (s : State) a0 a1 a2 : Commits s (execRemu a0 a1 a2 s) := .tile
theorem execAnd_commits (s : State) a0 a1 a2 : Commits s (execAnd a0 a1 a2 s) := .tile
theorem execOr_commits (s : State) a0 a1 a2 : Commits s (execOr a0 a1 a2 s) := .tile
theorem execXor_commits (s : State) a0 a1 a2 : Commits s (execXor a0 a1 a2 s) := .tile
theorem execShl_commits (s : State) a0 a1 a2 : Commits s (execShl a0 a1 a2 s) := .tile
theorem execShr_commits (s : State) a0 a1 a2 : Commits s (execShr a0 a1 a2 s) := .tile
theorem execSar_commits (s : State) a0 a1 a2 : Commits s (execSar a0 a1 a2 s) := .tile
theorem execRol_commits (s : State) a0 a1 a2 : Commits s (execRol a0 a1 a2 s) := .tile
theorem execCeq_commits (s : State) a0 a1 a2 : Commits s (execCeq a0 a1 a2 s) := .tile
theorem execCne_commits (s : State) a0 a1 a2 : Commits s (execCne a0 a1 a2 s) := .tile
theorem execClt_commits (s : State) a0 a1 a2 : Commits s (execClt a0 a1 a2 s) := .tile
theorem execCle_commits (s : State) a0 a1 a2 : Commits s (execCle a0 a1 a2 s) := .tile
theorem execCltu_commits (s : State) a0 a1 a2 : Commits s (execCltu a0 a1 a2 s) := .tile
theorem execCleu_commits (s : State) a0 a1 a2 : Commits s (execCleu a0 a1 a2 s) := .tile
theorem execMins_commits (s : State) a0 a1 a2 : Commits s (execMins a0 a1 a2 s) := .tile
theorem execMaxs_commits (s : State) a0 a1 a2 : Commits s (execMaxs a0 a1 a2 s) := .tile
theorem execMinu_commits (s : State) a0 a1 a2 : Commits s (execMinu a0 a1 a2 s) := .tile
theorem execMaxu_commits (s : State) a0 a1 a2 : Commits s (execMaxu a0 a1 a2 s) := .tile
theorem execSel_commits (s : State) a0 a1 : Commits s (execSel a0 a1 s) := .tile
theorem execAbs_commits (s : State) a0 a1 a2 : Commits s (execAbs a0 a1 a2 s) := .tile
theorem execNeg_commits (s : State) a0 a1 a2 : Commits s (execNeg a0 a1 a2 s) := .tile
theorem execNot_commits (s : State) a0 a1 a2 : Commits s (execNot a0 a1 a2 s) := .tile
theorem execAddi_commits (s : State) a0 a1 a2 a3 : Commits s (execAddi a0 a1 a2 a3 s) := .tile
theorem execMuli_commits (s : State) a0 a1 a2 a3 : Commits s (execMuli a0 a1 a2 a3 s) := .tile
theorem execMovi_commits (s : State) a0 a1 a2 a3 : Commits s (execMovi a0 a1 a2 a3 s) := .tile
theorem execMovhi_commits (s : State) a0 a1 a2 a3 : Commits s (execMovhi a0 a1 a2 a3 s) := .tile
theorem execCopy_commits (s : State) a0 a1 a2 : Commits s (execCopy a0 a1 a2 s) := .tile
theorem execAndi_commits (s : State) a0 a1 a2 a3 : Commits s (execAndi a0 a1 a2 a3 s) := .tile
theorem execOri_commits (s : State) a0 a1 a2 a3 : Commits s (execOri a0 a1 a2 a3 s) := .tile
theorem execXori_commits (s : State) a0 a1 a2 a3 : Commits s (execXori a0 a1 a2 a3 s) := .tile
theorem execShli_commits (s : State) a0 a1 a2 a3 : Commits s (execShli a0 a1 a2 a3 s) := .tile
theorem execShri_commits (s : State) a0 a1 a2 a3 : Commits s (execShri a0 a1 a2 a3 s) := .tile
theorem execSari_commits (s : State) a0 a1 a2 a3 : Commits s (execSari a0 a1 a2 a3 s) := .tile
theorem execPopc_commits (s : State) a0 a1 a2 : Commits s (execPopc a0 a1 a2 s) := .tile
theorem execClz_commits (s : State) a0 a1 a2 : Commits s (execClz a0 a1 a2 s) := .tile
theorem execCtz_commits (s : State) a0 a1 a2 : Commits s (execCtz a0 a1 a2 s) := .tile
theorem execBfx_commits (s : State) a0 a1 a2 a3 a4 a5 : Commits s (execBfx a0 a1 a2 a3 a4 a5 s) := .tile
theorem execBfi_commits (s : State) a0 a1 a2 a3 a4 : Commits s (execBfi a0 a1 a2 a3 a4 s) := .tile
theorem execLea_commits (s : State) a0 a1 a2 a3 a4 : Commits s (execLea a0 a1 a2 a3 a4 s) := .tile
theorem execCeqi_commits (s : State) a0 a1 a2 a3 : Commits s (execCeqi a0 a1 a2 a3 s) := .tile
theorem execVadd_commits (s : State) a0 a1 a2 a3 : Commits s (execVadd a0 a1 a2 a3 s) := .tile
theorem execVsub_commits (s : State) a0 a1 a2 a3 : Commits s (execVsub a0 a1 a2 a3 s) := .tile
theorem execVmul_commits (s : State) a0 a1 a2 a3 : Commits s (execVmul a0 a1 a2 a3 s) := .tile
theorem execVmad_commits (s : State) a0 a1 a2 a3 : Commits s (execVmad a0 a1 a2 a3 s) := .tile
theorem execVmin_commits (s : State) a0 a1 a2 a3 : Commits s (execVmin a0 a1 a2 a3 s) := .tile
theorem execVmax_commits (s : State) a0 a1 a2 a3 : Commits s (execVmax a0 a1 a2 a3 s) := .tile
theorem execVabs_commits (s : State) a0 a1 a2 a3 : Commits s (execVabs a0 a1 a2 a3 s) := .tile
theorem execVneg_commits (s : State) a0 a1 a2 a3 : Commits s (execVneg a0 a1 a2 a3 s) := .tile
theorem execVand_commits (s : State) a0 a1 a2 a3 : Commits s (execVand a0 a1 a2 a3 s) := .tile
theorem execVor_commits (s : State) a0 a1 a2 a3 : Commits s (execVor a0 a1 a2 a3 s) := .tile
theorem execVxor_commits (s : State) a0 a1 a2 a3 : Commits s (execVxor a0 a1 a2 a3 s) := .tile
theorem execVshl_commits (s : State) a0 a1 a2 a3 a4 : Commits s (execVshl a0 a1 a2 a3 a4 s) := .tile
theorem execVshr_commits (s : State) a0 a1 a2 a3 a4 : Commits s (execVshr a0 a1 a2 a3 a4 s) := .tile
theorem execVsar_commits (s : State) a0 a1 a2 a3 a4 : Commits s (execVsar a0 a1 a2 a3 a4 s) := .tile
theorem execVadds_commits (s : State) a0 a1 a2 a3 : Commits s (execVadds a0 a1 a2 a3 s) := .tile
theorem execVsubs_commits (s : State) a0 a1 a2 a3 : Commits s (execVsubs a0 a1 a2 a3 s) := .tile
theorem execVfadd_commits (s : State) a0 a1 a2 a3 : Commits s (execVfadd a0 a1 a2 a3 s) := .tile
theorem execVfsub_commits (s : State) a0 a1 a2 a3 : Commits s (execVfsub a0 a1 a2 a3 s) := .tile
theorem execVfmul_commits (s : State) a0 a1 a2 a3 : Commits s (execVfmul a0 a1 a2 a3 s) := .tile
theorem execVfma_commits (s : State) a0 a1 a2 a3 : Commits s (execVfma a0 a1 a2 a3 s) := .tile
theorem execVfms_commits (s : State) a0 a1 a2 a3 : Commits s (execVfms a0 a1 a2 a3 s) := .tile
theorem execVfnma_commits (s : State) a0 a1 a2 a3 : Commits s (execVfnma a0 a1 a2 a3 s) := .tile
theorem execVfmin_commits (s : State) a0 a1 a2 a3 : Commits s (execVfmin a0 a1 a2 a3 s) := .tile
theorem execVfmax_commits (s : State) a0 a1 a2 a3 : Commits s (execVfmax a0 a1 a2 a3 s) := .tile
theorem execVfabs_commits (s : State) a0 a1 a2 a3 : Commits s (execVfabs a0 a1 a2 a3 s) := .tile
theorem execVfneg_commits (s : State) a0 a1 a2 a3 : Commits s (execVfneg a0 a1 a2 a3 s) := .tile
theorem execVfcmp_commits (s : State) a0 a1 a2 a3 a4 : Commits s (execVfcmp a0 a1 a2 a3 a4 s) := .tile
theorem execVsel_commits (s : State) a0 a1 a2 a3 : Commits s (execVsel a0 a1 a2 a3 s) := .tile
theorem execVfrcp_commits (s : State) a0 a1 a2 a3 : Commits s (execVfrcp a0 a1 a2 a3 s) := .tile
theorem execVfrsq_commits (s : State) a0 a1 a2 a3 : Commits s (execVfrsq a0 a1 a2 a3 s) := .tile
theorem execVfcls_commits (s : State) a0 a1 a2 a3 a4 : Commits s (execVfcls a0 a1 a2 a3 a4 s) := .tile
theorem execVfscl_commits (s : State) a0 a1 a2 a3 : Commits s (execVfscl a0 a1 a2 a3 s) := .tile
theorem execVcvt_commits (s : State) a0 a1 a2 a3 a4 a5 : Commits s (execVcvt a0 a1 a2 a3 a4 a5 s) := .tile
theorem execVrint_commits (s : State) a0 a1 a2 a3 a4 : Commits s (execVrint a0 a1 a2 a3 a4 s) := .tile
theorem execVfexp_commits (s : State) a0 a1 a2 a3 : Commits s (execVfexp a0 a1 a2 a3 s) := .tile
theorem execVflog_commits (s : State) a0 a1 a2 a3 : Commits s (execVflog a0 a1 a2 a3 s) := .tile
theorem execVxexp_commits (s : State) a0 a1 a2 a3 : Commits s (execVxexp a0 a1 a2 a3 s) := .tile
theorem execVred_commits (s : State) a0 a1 a2 a3 a4 : Commits s (execVred a0 a1 a2 a3 a4 s) := .tile
theorem execVscan_commits (s : State) a0 a1 a2 a3 a4 : Commits s (execVscan a0 a1 a2 a3 a4 s) := .tile
theorem execVshuf_commits (s : State) a0 a1 a2 a3 : Commits s (execVshuf a0 a1 a2 a3 s) := .tile
theorem execVsplat_commits (s : State) a0 a1 a2 a3 : Commits s (execVsplat a0 a1 a2 a3 s) := .tile
theorem execVextr_commits (s : State) a0 a1 a2 a3 a4 : Commits s (execVextr a0 a1 a2 a3 a4 s) := .tile
theorem execVinsl_commits (s : State) a0 a1 a2 a3 a4 : Commits s (execVinsl a0 a1 a2 a3 a4 s) := .tile
theorem execVpack_commits (s : State) a0 a1 a2 a3 a4 a5 : Commits s (execVpack a0 a1 a2 a3 a4 a5 s) := .tile
theorem execVunpk_commits (s : State) a0 a1 a2 a3 a4 : Commits s (execVunpk a0 a1 a2 a3 a4 s) := .tile
theorem execVqnt_commits (s : State) a0 a1 a2 a3 a4 a5 a6 : Commits s (execVqnt a0 a1 a2 a3 a4 a5 a6 s) := .tileS
theorem execVdqnt_commits (s : State) a0 a1 a2 a3 a4 a5 a6 : Commits s (execVdqnt a0 a1 a2 a3 a4 a5 a6 s) := .tileS
theorem execVprune_commits (s : State) a0 a1 a2 a3 : Commits s (execVprune a0 a1 a2 a3 s) := .tile
theorem execLds_commits (s : State) a0 a1 a2 a3 a4 a5 a6 : Commits s (execLds a0 a1 a2 a3 a4 a5 a6 s) := .tileS
theorem execLdsv_commits (s : State) a0 a1 a2 a3 a4 : Commits s (execLdsv a0 a1 a2 a3 a4 s) := .tileS
theorem execSts_commits (s : State) a0 a1 a2 a3 a4 a5 : Commits s (execSts a0 a1 a2 a3 a4 a5 s) := .tileS
theorem execStsv_commits (s : State) a0 a1 a2 a3 a4 : Commits s (execStsv a0 a1 a2 a3 a4 s) := .tileS
theorem execLdsx_commits (s : State) a0 a1 a2 a3 a4 a5 a6 : Commits s (execLdsx a0 a1 a2 a3 a4 a5 a6 s) := .tileS
theorem execStsx_commits (s : State) a0 a1 a2 a3 a4 a5 : Commits s (execStsx a0 a1 a2 a3 a4 a5 s) := .tileS
theorem execFeset_commits (s : State) a0 a1 a2 a3 : Commits s (execFeset a0 a1 a2 a3 s) := .tileS
theorem execFeclr_commits (s : State) a0 a1 a2 a3 : Commits s (execFeclr a0 a1 a2 a3 s) := .tileS
theorem execFetst_commits (s : State) a0 a1 a2 a3 : Commits s (execFetst a0 a1 a2 a3 s) := .tileS
theorem execKrd_commits (s : State) a0 a1 a2 a3 : Commits s (execKrd a0 a1 a2 a3 s) := .tileS
theorem execKwr_commits (s : State) a0 a1 a2 a3 : Commits s (execKwr a0 a1 a2 a3 s) := .tileS
theorem execAcrd_commits (s : State) a0 a1 a2 a3 a4 : Commits s (execAcrd a0 a1 a2 a3 a4 s) := .tileS
theorem execAcwr_commits (s : State) a0 a1 a2 a3 a4 : Commits s (execAcwr a0 a1 a2 a3 a4 s) := .tileS
theorem execAcclr_commits (s : State) a0 a1 a2 : Commits s (execAcclr a0 a1 a2 s) := .tileS
theorem execWick_commits (s : State) a0 a1 a2 a3 a4 a5 : Commits s (execWick a0 a1 a2 a3 a4 a5 s) := .tileS
theorem execWadv_commits (s : State) a0 a1 a2 a3 a4 : Commits s (execWadv a0 a1 a2 a3 a4 s) := .tileS
theorem execGld_commits (s : State) a0 a1 a2 a3 a4 a5 a6 : Commits s (execGld a0 a1 a2 a3 a4 a5 a6 s) := .tileS
theorem execGldv_commits (s : State) a0 a1 a2 a3 a4 a5 : Commits s (execGldv a0 a1 a2 a3 a4 a5 s) := .tileS
theorem execGst_commits (s : State) a0 a1 a2 a3 a4 a5 a6 : Commits s (execGst a0 a1 a2 a3 a4 a5 a6 s) := .tileS
theorem execGstv_commits (s : State) a0 a1 a2 a3 a4 a5 : Commits s (execGstv a0 a1 a2 a3 a4 a5 s) := .tileS
theorem execAadd_commits (s : State) a0 a1 a2 a3 a4 a5 a6 : Commits s (execAadd a0 a1 a2 a3 a4 a5 a6 s) := .tileS
theorem execAand_commits (s : State) a0 a1 a2 a3 a4 a5 a6 : Commits s (execAand a0 a1 a2 a3 a4 a5 a6 s) := .tileS
theorem execAor_commits (s : State) a0 a1 a2 a3 a4 a5 a6 : Commits s (execAor a0 a1 a2 a3 a4 a5 a6 s) := .tileS
theorem execAxor_commits (s : State) a0 a1 a2 a3 a4 a5 a6 : Commits s (execAxor a0 a1 a2 a3 a4 a5 a6 s) := .tileS
theorem execAmin_commits (s : State) a0 a1 a2 a3 a4 a5 a6 : Commits s (execAmin a0 a1 a2 a3 a4 a5 a6 s) := .tileS
theorem execAmax_commits (s : State) a0 a1 a2 a3 a4 a5 a6 : Commits s (execAmax a0 a1 a2 a3 a4 a5 a6 s) := .tileS
theorem execAminu_commits (s : State) a0 a1 a2 a3 a4 a5 a6 : Commits s (execAminu a0 a1 a2 a3 a4 a5 a6 s) := .tileS
theorem execAmaxu_commits (s : State) a0 a1 a2 a3 a4 a5 a6 : Commits s (execAmaxu a0 a1 a2 a3 a4 a5 a6 s) := .tileS
theorem execAxch_commits (s : State) a0 a1 a2 a3 a4 a5 a6 : Commits s (execAxch a0 a1 a2 a3 a4 a5 a6 s) := .tileS
theorem execAcas_commits (s : State) a0 a1 a2 a3 a4 a5 a6 a7 : Commits s (execAcas a0 a1 a2 a3 a4 a5 a6 a7 s) := .tileS
theorem execAfadd_commits (s : State) a0 a1 a2 a3 a4 a5 : Commits s (execAfadd a0 a1 a2 a3 a4 a5 s) := .tileS
theorem execAtas_commits (s : State) a0 a1 a2 a3 a4 a5 : Commits s (execAtas a0 a1 a2 a3 a4 a5 s) := .tileS
theorem execFence_commits (s : State) a0 a1 a2 a3 : Commits s (execFence a0 a1 a2 a3 s) := .tileS
theorem execOrdj_commits (s : State) a0 a1 a2 : Commits s (execOrdj a0 a1 a2 s) := .tileS
theorem execBell_commits (s : State) a0 a1 a2 a3 : Commits s (execBell a0 a1 a2 a3 s) := .tileS
theorem execBella_commits (s : State) a0 a1 a2 a3 : Commits s (execBella a0 a1 a2 a3 s) := .tileS
theorem execAbstn_commits (s : State) a0 a1 a2 a3 : Commits s (execAbstn a0 a1 a2 a3 s) := .tileS
theorem execQpush_commits (s : State) a0 a1 a2 a3 : Commits s (execQpush a0 a1 a2 a3 s) := .tileS
theorem execQpop_commits (s : State) a0 a1 a2 a3 : Commits s (execQpop a0 a1 a2 a3 s) := .tileS
theorem execQlen_commits (s : State) a0 a1 a2 : Commits s (execQlen a0 a1 a2 s) := .tileS
theorem execLnch_commits (s : State) a0 a1 a2 a3 : Commits s (execLnch a0 a1 a2 a3 s) := .tileS
theorem execSigc_commits (s : State) a0 a1 a2 a3 : Commits s (execSigc a0 a1 a2 a3 s) := .tileS
theorem execWaitc_commits (s : State) a0 a1 a2 : Commits s (execWaitc a0 a1 a2 s) := .tileS
theorem execBmwait_commits (s : State) a0 a1 a2 a3 : Commits s (execBmwait a0 a1 a2 a3 s) := .tileS
theorem execLgen_commits (s : State) a0 a1 a2 a3 a4 a5 : Commits s (execLgen a0 a1 a2 a3 a4 a5 s) := .tile
theorem execLgen2_commits (s : State) a0 a1 a2 a3 a4 a5 a6 : Commits s (execLgen2 a0 a1 a2 a3 a4 a5 a6 s) := .tile
theorem execSpscn_commits (s : State) a0 a1 a2 a3 a4 a5 : Commits s (execSpscn a0 a1 a2 a3 a4 a5 s) := .tile
theorem execRptc_commits (s : State) a0 a1 a2 a3 a4 : Commits s (execRptc a0 a1 a2 a3 a4 s) := .tile
theorem execRpte_commits (s : State) a0 a1 a2 a3 a4 : Commits s (execRpte a0 a1 a2 a3 a4 s) := .tile
theorem execEmstp_commits (s : State) a0 a1 a2 a3 a4 : Commits s (execEmstp a0 a1 a2 a3 a4 s) := .tile
theorem execTkind_commits (s : State) a0 a1 a2 a3 a4 : Commits s (execTkind a0 a1 a2 a3 a4 s) := .tile
theorem execItgate_commits (s : State) a0 a1 a2 a3 a4 a5 : Commits s (execItgate a0 a1 a2 a3 a4 a5 s) := .tile
theorem execTake_commits (s : State) a0 a1 a2 a3 : Commits s (execTake a0 a1 a2 a3 s) := .tileS
theorem execCnttk_commits (s : State) a0 a1 a2 a3 a4 a5 : Commits s (execCnttk a0 a1 a2 a3 a4 a5 s) := .tile
theorem execSeqrd_commits (s : State) a0 a1 a2 : Commits s (execSeqrd a0 a1 a2 s) := .tile
theorem execWgtrd_commits (s : State) a0 a1 a2 : Commits s (execWgtrd a0 a1 a2 s) := .tile
theorem execWgtwr_commits (s : State) a0 a1 a2 : Commits s (execWgtwr a0 a1 a2 s) := .tile
theorem execIsgap_commits (s : State) a0 a1 a2 a3 : Commits s (execIsgap a0 a1 a2 a3 s) := .tile
theorem execGaprd_commits (s : State) a0 a1 a2 a3 a4 : Commits s (execGaprd a0 a1 a2 a3 a4 s) := .tile
theorem execEmgap_commits (s : State) a0 a1 a2 : Commits s (execEmgap a0 a1 a2 s) := .tile
theorem execVoidr_commits (s : State) a0 a1 a2 : Commits s (execVoidr a0 a1 a2 s) := .tile
theorem execWacc_commits (s : State) a0 a1 a2 a3 a4 a5 a6 a7 : Commits s (execWacc a0 a1 a2 a3 a4 a5 a6 a7 s) := .tile
theorem execWincl_commits (s : State) a0 a1 a2 a3 a4 a5 a6 : Commits s (execWincl a0 a1 a2 a3 a4 a5 a6 s) := .tile
theorem execJoink_commits (s : State) a0 a1 a2 a3 a4 a5 a6 a7 : Commits s (execJoink a0 a1 a2 a3 a4 a5 a6 a7 s) := .tile
theorem execWld_commits (s : State) a0 a1 a2 a3 a4 a5 : Commits s (execWld a0 a1 a2 a3 a4 a5 s) := .tile
theorem execWlds_commits (s : State) a0 a1 a2 a3 a4 : Commits s (execWlds a0 a1 a2 a3 a4 s) := .tileS
theorem execWsel_commits (s : State) a0 a1 a2 a3 : Commits s (execWsel a0 a1 a2 a3 s) := .tile
theorem execArow_commits (s : State) a0 a1 a2 a3 a4 a5 : Commits s (execArow a0 a1 a2 a3 a4 a5 s) := .tileS
theorem execAdrn_commits (s : State) a0 a1 a2 a3 a4 : Commits s (execAdrn a0 a1 a2 a3 a4 s) := .tile
theorem execAzero_commits (s : State) a0 a1 a2 a3 a4 : Commits s (execAzero a0 a1 a2 a3 a4 s) := .tile
theorem execXfwd_commits (s : State) a0 a1 a2 a3 a4 : Commits s (execXfwd a0 a1 a2 a3 a4 s) := .tileS
theorem execXinv_commits (s : State) a0 a1 a2 a3 a4 : Commits s (execXinv a0 a1 a2 a3 a4 s) := .tileS
theorem execCmac_commits (s : State) a0 a1 a2 a3 : Commits s (execCmac a0 a1 a2 a3 s) := .tile
theorem execCmul_commits (s : State) a0 a1 a2 a3 : Commits s (execCmul a0 a1 a2 a3 s) := .tile
theorem execCconj_commits (s : State) a0 a1 a2 a3 : Commits s (execCconj a0 a1 a2 a3 s) := .tile
theorem execDtag_commits (s : State) a0 a1 a2 a3 : Commits s (execDtag a0 a1 a2 a3 s) := .tile
theorem execXreq_commits (s : State) a0 a1 a2 : Commits s (execXreq a0 a1 a2 s) := .tileS
theorem execDrvk_commits (s : State) a0 a1 a2 a3 a4 : Commits s (execDrvk a0 a1 a2 a3 a4 s) := .tileS
theorem execGtatt_commits (s : State) a0 a1 a2 : Commits s (execGtatt a0 a1 a2 s) := .tileS
theorem execGtdet_commits (s : State) a0 a1 a2 : Commits s (execGtdet a0 a1 a2 s) := .tileS
theorem execGtfld_commits (s : State) a0 a1 a2 : Commits s (execGtfld a0 a1 a2 s) := .tileS
theorem execTrap_commits (s : State) a0 a1 : Commits s (execTrap a0 a1 s) := .tile
theorem execBrk_commits (s : State) a0 a1 : Commits s (execBrk a0 a1 s) := .tileS
theorem execCtlrd_commits (s : State) a0 a1 a2 a3 : Commits s (execCtlrd a0 a1 a2 a3 s) := .tile
theorem execCtlwr_commits (s : State) a0 a1 a2 a3 : Commits s (execCtlwr a0 a1 a2 a3 s) := .tile
theorem execCntrd_commits (s : State) a0 a1 a2 a3 a4 a5 a6 : Commits s (execCntrd a0 a1 a2 a3 a4 a5 a6 s) := .tileS
theorem execRand_commits (s : State) a0 a1 a2 : Commits s (execRand a0 a1 a2 s) := .tile
theorem execSeed_commits (s : State) a0 a1 a2 : Commits s (execSeed a0 a1 a2 s) := .tile
theorem execTimer_commits (s : State) a0 a1 a2 a3 : Commits s (execTimer a0 a1 a2 a3 s) := .tile
theorem execFwsvc_commits (s : State) a0 a1 a2 a3 : Commits s (execFwsvc a0 a1 a2 a3 s) := .tileS
theorem execDnop_commits (s : State) : Commits s (execDnop s) := .drover
theorem execDhalt_commits (s : State) : Commits s (execDhalt s) := .drover
theorem execDset_commits (s : State) a0 a1 : Commits s (execDset a0 a1 s) := .drover
theorem execDadd_commits (s : State) a0 a1 a2 : Commits s (execDadd a0 a1 a2 s) := .drover
theorem execDmov_commits (s : State) a0 a1 : Commits s (execDmov a0 a1 s) := .drover
theorem execDloop_commits (s : State) a0 a1 a2 : Commits s (execDloop a0 a1 a2 s) := .drover
theorem execDnext_commits (s : State) a0 a1 : Commits s (execDnext a0 a1 s) := .drover
theorem execDjmp_commits (s : State) a0 : Commits s (execDjmp a0 s) := .drover
theorem execDjz_commits (s : State) a0 a1 : Commits s (execDjz a0 a1 s) := .drover
theorem execDpat_commits (s : State) a0 a1 a2 a3 a4 a5 a6 : Commits s (execDpat a0 a1 a2 a3 a4 a5 a6 s) := .drover
theorem execDpush_commits (s : State) a0 a1 a2 a3 a4 a5 a6 a7 : Commits s (execDpush a0 a1 a2 a3 a4 a5 a6 a7 s) := .drover
theorem execDpull_commits (s : State) a0 a1 a2 a3 a4 a5 : Commits s (execDpull a0 a1 a2 a3 a4 a5 s) := .drover
theorem execDgtld_commits (s : State) a0 a1 a2 a3 a4 a5 : Commits s (execDgtld a0 a1 a2 a3 a4 a5 s) := .drover
theorem execDgath_commits (s : State) a0 a1 a2 a3 a4 a5 a6 a7 : Commits s (execDgath a0 a1 a2 a3 a4 a5 a6 a7 s) := .drover
theorem execDwick_commits (s : State) a0 a1 a2 : Commits s (execDwick a0 a1 a2 s) := .drover
theorem execDsig_commits (s : State) a0 a1 : Commits s (execDsig a0 a1 s) := .drover
theorem execDwaitc_commits (s : State) a0 a1 : Commits s (execDwaitc a0 a1 s) := .drover
theorem execDfence_commits (s : State) a0 : Commits s (execDfence a0 s) := .drover
theorem execDfold_commits (s : State) a0 a1 : Commits s (execDfold a0 a1 s) := .drover
theorem execDcopy_commits (s : State) a0 a1 a2 a3 a4 : Commits s (execDcopy a0 a1 a2 a3 a4 s) := .drover
theorem execDpref_commits (s : State) a0 a1 a2 : Commits s (execDpref a0 a1 a2 s) := .drover
theorem execDconv_commits (s : State) a0 a1 a2 a3 a4 : Commits s (execDconv a0 a1 a2 a3 a4 s) := .drover
theorem execPaddockCreate_commits (s : State) : Commits s (execPaddockCreate s) := .command
theorem execPaddockDestroy_commits (s : State) : Commits s (execPaddockDestroy s) := .paddock
theorem execChargeLoad_commits (s : State) : Commits s (execChargeLoad s) := .paddock
theorem execQueueCreate_commits (s : State) : Commits s (execQueueCreate s) := .paddock
theorem execQueueTeardownDrain_commits (s : State) : Commits s (execQueueTeardownDrain s) := .paddock
theorem execQueueTeardownAbort_commits (s : State) : Commits s (execQueueTeardownAbort s) := .paddock
theorem execLaunch_commits (s : State) : Commits s (execLaunch s) := .paddock
theorem execMap_commits (s : State) : Commits s (execMap s) := .paddock
theorem execUnmap_commits (s : State) : Commits s (execUnmap s) := .paddock
theorem execFaultRead_commits (s : State) : Commits s (execFaultRead s) := .paddock
theorem execFaultResume_commits (s : State) : Commits s (execFaultResume s) := .paddock
theorem execFaultRetire_commits (s : State) : Commits s (execFaultRetire s) := .paddock
theorem execHandleCreate_commits (s : State) : Commits s (execHandleCreate s) := .paddock
theorem execGlazeAttach_commits (s : State) : Commits s (execGlazeAttach s) := .paddock
theorem execGlazeDetach_commits (s : State) : Commits s (execGlazeDetach s) := .paddock
theorem execFold_commits (s : State) : Commits s (execFold s) := .paddock
theorem execSnapshot_commits (s : State) : Commits s (execSnapshot s) := .paddock
theorem execSetTolerance_commits (s : State) : Commits s (execSetTolerance s) := .paddock
theorem execSetTier_commits (s : State) : Commits s (execSetTier s) := .paddock
theorem execPowerReport_commits (s : State) : Commits s (execPowerReport s) := .paddock
theorem execLinkHealth_commits (s : State) : Commits s (execLinkHealth s) := .paddock
theorem execAttest_commits (s : State) : Commits s (execAttest s) := .paddock
theorem execFwPatch_commits (s : State) : Commits s (execFwPatch s) := .paddock
theorem execResetPaddock_commits (s : State) : Commits s (execResetPaddock s) := .paddock
theorem execResetPackage_commits (s : State) : Commits s (execResetPackage s) := .command
theorem execCounterSet_commits (s : State) : Commits s (execCounterSet s) := .paddock
theorem execCounterRead_commits (s : State) : Commits s (execCounterRead s) := .paddock
theorem execPowerConfig_commits (s : State) : Commits s (execPowerConfig s) := .command
theorem execSnapshotRestore_commits (s : State) : Commits s (execSnapshotRestore s) := .paddock
theorem execRegisterWrite_commits (s : State) : Commits s (execRegisterWrite s) := .input
theorem execHostApertureAccess_commits (s : State) : Commits s (execHostApertureAccess s) := .input
theorem execPeerAccess_commits (s : State) : Commits s (execPeerAccess s) := .input
theorem execPeerLaunchArrival_commits (s : State) : Commits s (execPeerLaunchArrival s) := .input
theorem execPowerOn_commits (s : State) : Commits s (execPowerOn s) := .input
theorem execBootComplete_commits (s : State) : Commits s (execBootComplete s) := .happens
theorem execFluidDataWrite_commits (s : State) : Commits s (execFluidDataWrite s) := .input
theorem execBlockFire_commits (s : State) : Commits s (execBlockFire s) := by
  unfold execBlockFire; repeat (first | exact .stops | exact .happens | exact .runs | split)
theorem execInstructionComplete_commits (s : State) : Commits s (execInstructionComplete s) := .place
theorem execBlockEnd_commits (s : State) : Commits s (execBlockEnd s) := by
  unfold execBlockEnd; repeat (first | exact .stops | exact .happens | exact .runs | split)
theorem execWaitSatisfied_commits (s : State) : Commits s (execWaitSatisfied s) := by
  unfold execWaitSatisfied; repeat (first | exact .stops | exact .happens | exact .runs | split)
theorem execTimerDeadline_commits (s : State) : Commits s (execTimerDeadline s) := .place
theorem execFwsvcResult_commits (s : State) : Commits s (execFwsvcResult s) := .place
theorem execAccessResponse_commits (s : State) : Commits s (execAccessResponse s) := by
  unfold execAccessResponse; repeat (first | exact .stops | exact .happens | exact .runs | split)
theorem execUnitInstall_commits (s : State) : Commits s (execUnitInstall s) := by
  unfold execUnitInstall; repeat (first | exact .stops | exact .happens | exact .runs | split)
theorem execLinkArrival_commits (s : State) : Commits s (execLinkArrival s) := .link
theorem execWaitingStopEnters_commits (s : State) : Commits s (execWaitingStopEnters s) := .link
theorem execCreditReturn_commits (s : State) : Commits s (execCreditReturn s) := .link
theorem execSlotReturnDelayExpiry_commits (s : State) : Commits s (execSlotReturnDelayExpiry s) := .link
theorem execTick_commits (s : State) : Commits s (execTick s) := by
  unfold execTick; repeat (first | exact .stops | exact .happens | exact .runs | split)
theorem execRsuFire_commits (s : State) : Commits s (execRsuFire s) := by
  unfold execRsuFire; repeat (first | exact .stops | exact .happens | exact .runs | split)
theorem execRsuResult_commits (s : State) : Commits s (execRsuResult s) := by
  unfold execRsuResult; repeat (first | exact .stops | exact .happens | exact .runs | split)
theorem execArowConsumed_commits (s : State) : Commits s (execArowConsumed s) := .place
theorem execStuTransformServe_commits (s : State) : Commits s (execStuTransformServe s) := by
  unfold execStuTransformServe; repeat (first | exact .stops | exact .happens | exact .runs | split)
theorem execStuResultWrite_commits (s : State) : Commits s (execStuResultWrite s) := by
  unfold execStuResultWrite; repeat (first | exact .stops | exact .happens | exact .runs | split)
theorem execSignalPropagate_commits (s : State) : Commits s (execSignalPropagate s) := by
  unfold execSignalPropagate; repeat (first | exact .stops | exact .happens | exact .runs | split)
theorem execBellRelease_commits (s : State) : Commits s (execBellRelease s) := by
  unfold execBellRelease; repeat (first | exact .stops | exact .happens | exact .runs | split)
theorem execBellTimeout_commits (s : State) : Commits s (execBellTimeout s) := by
  unfold execBellTimeout; repeat (first | exact .stops | exact .happens | exact .runs | split)
theorem execQueueRefill_commits (s : State) : Commits s (execQueueRefill s) := by
  unfold execQueueRefill; repeat (first | exact .stops | exact .happens | exact .runs | split)
theorem execPhaseEnd_commits (s : State) : Commits s (execPhaseEnd s) := by
  unfold execPhaseEnd; repeat (first | exact .stops | exact .happens | exact .runs | split)
theorem execContextSwitchComplete_commits (s : State) : Commits s (execContextSwitchComplete s) := by
  unfold execContextSwitchComplete; repeat (first | exact .stops | exact .happens | exact .runs | split)
theorem execLaunchPick_commits (s : State) : Commits s (execLaunchPick s) := by
  unfold execLaunchPick; repeat (first | exact .stops | exact .happens | exact .runs | split)
theorem execLaunchReservation_commits (s : State) : Commits s (execLaunchReservation s) := by
  unfold execLaunchReservation; repeat (first | exact .stops | exact .happens | exact .runs | split)
theorem execLaunchStart_commits (s : State) : Commits s (execLaunchStart s) := by
  unfold execLaunchStart; repeat (first | exact .stops | exact .happens | exact .runs | split)
theorem execKilnComplete_commits (s : State) : Commits s (execKilnComplete s) := by
  unfold execKilnComplete; repeat (first | exact .stops | exact .happens | exact .runs | split)
theorem execQuantumExpiry_commits (s : State) : Commits s (execQuantumExpiry s) := by
  unfold execQuantumExpiry; repeat (first | exact .stops | exact .happens | exact .runs | split)
theorem execRaddleSeal_commits (s : State) : Commits s (execRaddleSeal s) := .link
theorem execSnapshotTaskSave_commits (s : State) : Commits s (execSnapshotTaskSave s) := by
  unfold execSnapshotTaskSave; repeat (first | exact .stops | exact .happens | exact .runs | split)
theorem execSnapshotDeadline_commits (s : State) : Commits s (execSnapshotDeadline s) := by
  unfold execSnapshotDeadline; repeat (first | exact .stops | exact .happens | exact .runs | split)
theorem execDroveListStart_commits (s : State) : Commits s (execDroveListStart s) := by
  unfold execDroveListStart; repeat (first | exact .stops | exact .happens | exact .runs | split)
theorem execPushResume_commits (s : State) : Commits s (execPushResume s) := by
  unfold execPushResume; repeat (first | exact .stops | exact .happens | exact .runs | split)
theorem execBtuCopy_commits (s : State) : Commits s (execBtuCopy s) := by
  unfold execBtuCopy; repeat (first | exact .stops | exact .happens | exact .runs | split)
theorem execBtuCopyComplete_commits (s : State) : Commits s (execBtuCopyComplete s) := by
  unfold execBtuCopyComplete; repeat (first | exact .stops | exact .happens | exact .runs | split)
theorem execFoldComplete_commits (s : State) : Commits s (execFoldComplete s) := by
  unfold execFoldComplete; repeat (first | exact .stops | exact .happens | exact .runs | split)
theorem execMemoryTilePort_commits (s : State) : Commits s (execMemoryTilePort s) := by
  unfold execMemoryTilePort; repeat (first | exact .stops | exact .happens | exact .runs | split)
theorem execMigrationEpoch_commits (s : State) : Commits s (execMigrationEpoch s) := by
  unfold execMigrationEpoch; repeat (first | exact .stops | exact .happens | exact .runs | split)
theorem execScrub_commits (s : State) : Commits s (execScrub s) := .input
theorem execCapCompute_commits (s : State) : Commits s (execCapCompute s) := .input
theorem execCapClamp_commits (s : State) : Commits s (execCapClamp s) := .input
theorem execFluxLimit_commits (s : State) : Commits s (execFluxLimit s) := .input
theorem execClampRelease_commits (s : State) : Commits s (execClampRelease s) := .input
theorem execThermalTrip_commits (s : State) : Commits s (execThermalTrip s) := .input
theorem execTripClear_commits (s : State) : Commits s (execTripClear s) := .input
theorem execRailFault_commits (s : State) : Commits s (execRailFault s) := .input
theorem execInputRange_commits (s : State) : Commits s (execInputRange s) := .input
theorem execConverterTemp_commits (s : State) : Commits s (execConverterTemp s) := .input
theorem execConverterShutdown_commits (s : State) : Commits s (execConverterShutdown s) := .input
theorem execPowerStateChange_commits (s : State) : Commits s (execPowerStateChange s) := by
  unfold execPowerStateChange; repeat (first | exact .stops | exact .happens | exact .runs | split)
theorem execFlitReplay_commits (s : State) : Commits s (execFlitReplay s) := .input
theorem execHealthWindow_commits (s : State) : Commits s (execHealthWindow s) := .input
theorem execPortRetrainAttempt_commits (s : State) : Commits s (execPortRetrainAttempt s) := .input
theorem execMigrationComplete_commits (s : State) : Commits s (execMigrationComplete s) := by
  unfold execMigrationComplete; repeat (first | exact .stops | exact .happens | exact .runs | split)
theorem execPeerAcknowledges_commits (s : State) : Commits s (execPeerAcknowledges s) := .input

/-- Every instruction, command and event. -/
theorem exec_commits (i : Instr) (s : State) : Commits s (exec i s) :=
  match i with
  | .nop a0 => execNop_commits s a0
  | .exit a0 a1 => execExit_commits s a0 a1
  | .exitx a0 => execExitx_commits s a0
  | .halt a0 => execHalt_commits s a0
  | .yield a0 a1 a2 => execYield_commits s a0 a1 a2
  | .ctxend a0 => execCtxend_commits s a0
  | .pset a0 a1 a2 a3 => execPset_commits s a0 a1 a2 a3
  | .pnot a0 a1 a2 => execPnot_commits s a0 a1 a2
  | .pand a0 a1 a2 => execPand_commits s a0 a1 a2
  | .por a0 a1 a2 => execPor_commits s a0 a1 a2
  | .pxor a0 a1 a2 => execPxor_commits s a0 a1 a2
  | .tstz a0 a1 a2 => execTstz_commits s a0 a1 a2
  | .tstnz a0 a1 a2 => execTstnz_commits s a0 a1 a2
  | .tstneg a0 a1 a2 => execTstneg_commits s a0 a1 a2
  | .tstbit a0 a1 a2 a3 => execTstbit_commits s a0 a1 a2 a3
  | .add a0 a1 a2 => execAdd_commits s a0 a1 a2
  | .sub a0 a1 a2 => execSub_commits s a0 a1 a2
  | .mul a0 a1 a2 => execMul_commits s a0 a1 a2
  | .mulhs a0 a1 a2 => execMulhs_commits s a0 a1 a2
  | .mulhu a0 a1 a2 => execMulhu_commits s a0 a1 a2
  | .divs a0 a1 a2 => execDivs_commits s a0 a1 a2
  | .divu a0 a1 a2 => execDivu_commits s a0 a1 a2
  | .rems a0 a1 a2 => execRems_commits s a0 a1 a2
  | .remu a0 a1 a2 => execRemu_commits s a0 a1 a2
  | .and a0 a1 a2 => execAnd_commits s a0 a1 a2
  | .or a0 a1 a2 => execOr_commits s a0 a1 a2
  | .xor a0 a1 a2 => execXor_commits s a0 a1 a2
  | .shl a0 a1 a2 => execShl_commits s a0 a1 a2
  | .shr a0 a1 a2 => execShr_commits s a0 a1 a2
  | .sar a0 a1 a2 => execSar_commits s a0 a1 a2
  | .rol a0 a1 a2 => execRol_commits s a0 a1 a2
  | .ceq a0 a1 a2 => execCeq_commits s a0 a1 a2
  | .cne a0 a1 a2 => execCne_commits s a0 a1 a2
  | .clt a0 a1 a2 => execClt_commits s a0 a1 a2
  | .cle a0 a1 a2 => execCle_commits s a0 a1 a2
  | .cltu a0 a1 a2 => execCltu_commits s a0 a1 a2
  | .cleu a0 a1 a2 => execCleu_commits s a0 a1 a2
  | .mins a0 a1 a2 => execMins_commits s a0 a1 a2
  | .maxs a0 a1 a2 => execMaxs_commits s a0 a1 a2
  | .minu a0 a1 a2 => execMinu_commits s a0 a1 a2
  | .maxu a0 a1 a2 => execMaxu_commits s a0 a1 a2
  | .sel a0 a1 => execSel_commits s a0 a1
  | .abs a0 a1 a2 => execAbs_commits s a0 a1 a2
  | .neg a0 a1 a2 => execNeg_commits s a0 a1 a2
  | .not a0 a1 a2 => execNot_commits s a0 a1 a2
  | .addi a0 a1 a2 a3 => execAddi_commits s a0 a1 a2 a3
  | .muli a0 a1 a2 a3 => execMuli_commits s a0 a1 a2 a3
  | .movi a0 a1 a2 a3 => execMovi_commits s a0 a1 a2 a3
  | .movhi a0 a1 a2 a3 => execMovhi_commits s a0 a1 a2 a3
  | .copy a0 a1 a2 => execCopy_commits s a0 a1 a2
  | .andi a0 a1 a2 a3 => execAndi_commits s a0 a1 a2 a3
  | .ori a0 a1 a2 a3 => execOri_commits s a0 a1 a2 a3
  | .xori a0 a1 a2 a3 => execXori_commits s a0 a1 a2 a3
  | .shli a0 a1 a2 a3 => execShli_commits s a0 a1 a2 a3
  | .shri a0 a1 a2 a3 => execShri_commits s a0 a1 a2 a3
  | .sari a0 a1 a2 a3 => execSari_commits s a0 a1 a2 a3
  | .popc a0 a1 a2 => execPopc_commits s a0 a1 a2
  | .clz a0 a1 a2 => execClz_commits s a0 a1 a2
  | .ctz a0 a1 a2 => execCtz_commits s a0 a1 a2
  | .bfx a0 a1 a2 a3 a4 a5 => execBfx_commits s a0 a1 a2 a3 a4 a5
  | .bfi a0 a1 a2 a3 a4 => execBfi_commits s a0 a1 a2 a3 a4
  | .lea a0 a1 a2 a3 a4 => execLea_commits s a0 a1 a2 a3 a4
  | .ceqi a0 a1 a2 a3 => execCeqi_commits s a0 a1 a2 a3
  | .vadd a0 a1 a2 a3 => execVadd_commits s a0 a1 a2 a3
  | .vsub a0 a1 a2 a3 => execVsub_commits s a0 a1 a2 a3
  | .vmul a0 a1 a2 a3 => execVmul_commits s a0 a1 a2 a3
  | .vmad a0 a1 a2 a3 => execVmad_commits s a0 a1 a2 a3
  | .vmin a0 a1 a2 a3 => execVmin_commits s a0 a1 a2 a3
  | .vmax a0 a1 a2 a3 => execVmax_commits s a0 a1 a2 a3
  | .vabs a0 a1 a2 a3 => execVabs_commits s a0 a1 a2 a3
  | .vneg a0 a1 a2 a3 => execVneg_commits s a0 a1 a2 a3
  | .vand a0 a1 a2 a3 => execVand_commits s a0 a1 a2 a3
  | .vor a0 a1 a2 a3 => execVor_commits s a0 a1 a2 a3
  | .vxor a0 a1 a2 a3 => execVxor_commits s a0 a1 a2 a3
  | .vshl a0 a1 a2 a3 a4 => execVshl_commits s a0 a1 a2 a3 a4
  | .vshr a0 a1 a2 a3 a4 => execVshr_commits s a0 a1 a2 a3 a4
  | .vsar a0 a1 a2 a3 a4 => execVsar_commits s a0 a1 a2 a3 a4
  | .vadds a0 a1 a2 a3 => execVadds_commits s a0 a1 a2 a3
  | .vsubs a0 a1 a2 a3 => execVsubs_commits s a0 a1 a2 a3
  | .vfadd a0 a1 a2 a3 => execVfadd_commits s a0 a1 a2 a3
  | .vfsub a0 a1 a2 a3 => execVfsub_commits s a0 a1 a2 a3
  | .vfmul a0 a1 a2 a3 => execVfmul_commits s a0 a1 a2 a3
  | .vfma a0 a1 a2 a3 => execVfma_commits s a0 a1 a2 a3
  | .vfms a0 a1 a2 a3 => execVfms_commits s a0 a1 a2 a3
  | .vfnma a0 a1 a2 a3 => execVfnma_commits s a0 a1 a2 a3
  | .vfmin a0 a1 a2 a3 => execVfmin_commits s a0 a1 a2 a3
  | .vfmax a0 a1 a2 a3 => execVfmax_commits s a0 a1 a2 a3
  | .vfabs a0 a1 a2 a3 => execVfabs_commits s a0 a1 a2 a3
  | .vfneg a0 a1 a2 a3 => execVfneg_commits s a0 a1 a2 a3
  | .vfcmp a0 a1 a2 a3 a4 => execVfcmp_commits s a0 a1 a2 a3 a4
  | .vsel a0 a1 a2 a3 => execVsel_commits s a0 a1 a2 a3
  | .vfrcp a0 a1 a2 a3 => execVfrcp_commits s a0 a1 a2 a3
  | .vfrsq a0 a1 a2 a3 => execVfrsq_commits s a0 a1 a2 a3
  | .vfcls a0 a1 a2 a3 a4 => execVfcls_commits s a0 a1 a2 a3 a4
  | .vfscl a0 a1 a2 a3 => execVfscl_commits s a0 a1 a2 a3
  | .vcvt a0 a1 a2 a3 a4 a5 => execVcvt_commits s a0 a1 a2 a3 a4 a5
  | .vrint a0 a1 a2 a3 a4 => execVrint_commits s a0 a1 a2 a3 a4
  | .vfexp a0 a1 a2 a3 => execVfexp_commits s a0 a1 a2 a3
  | .vflog a0 a1 a2 a3 => execVflog_commits s a0 a1 a2 a3
  | .vxexp a0 a1 a2 a3 => execVxexp_commits s a0 a1 a2 a3
  | .vred a0 a1 a2 a3 a4 => execVred_commits s a0 a1 a2 a3 a4
  | .vscan a0 a1 a2 a3 a4 => execVscan_commits s a0 a1 a2 a3 a4
  | .vshuf a0 a1 a2 a3 => execVshuf_commits s a0 a1 a2 a3
  | .vsplat a0 a1 a2 a3 => execVsplat_commits s a0 a1 a2 a3
  | .vextr a0 a1 a2 a3 a4 => execVextr_commits s a0 a1 a2 a3 a4
  | .vinsl a0 a1 a2 a3 a4 => execVinsl_commits s a0 a1 a2 a3 a4
  | .vpack a0 a1 a2 a3 a4 a5 => execVpack_commits s a0 a1 a2 a3 a4 a5
  | .vunpk a0 a1 a2 a3 a4 => execVunpk_commits s a0 a1 a2 a3 a4
  | .vqnt a0 a1 a2 a3 a4 a5 a6 => execVqnt_commits s a0 a1 a2 a3 a4 a5 a6
  | .vdqnt a0 a1 a2 a3 a4 a5 a6 => execVdqnt_commits s a0 a1 a2 a3 a4 a5 a6
  | .vprune a0 a1 a2 a3 => execVprune_commits s a0 a1 a2 a3
  | .lds a0 a1 a2 a3 a4 a5 a6 => execLds_commits s a0 a1 a2 a3 a4 a5 a6
  | .ldsv a0 a1 a2 a3 a4 => execLdsv_commits s a0 a1 a2 a3 a4
  | .sts a0 a1 a2 a3 a4 a5 => execSts_commits s a0 a1 a2 a3 a4 a5
  | .stsv a0 a1 a2 a3 a4 => execStsv_commits s a0 a1 a2 a3 a4
  | .ldsx a0 a1 a2 a3 a4 a5 a6 => execLdsx_commits s a0 a1 a2 a3 a4 a5 a6
  | .stsx a0 a1 a2 a3 a4 a5 => execStsx_commits s a0 a1 a2 a3 a4 a5
  | .feset a0 a1 a2 a3 => execFeset_commits s a0 a1 a2 a3
  | .feclr a0 a1 a2 a3 => execFeclr_commits s a0 a1 a2 a3
  | .fetst a0 a1 a2 a3 => execFetst_commits s a0 a1 a2 a3
  | .krd a0 a1 a2 a3 => execKrd_commits s a0 a1 a2 a3
  | .kwr a0 a1 a2 a3 => execKwr_commits s a0 a1 a2 a3
  | .acrd a0 a1 a2 a3 a4 => execAcrd_commits s a0 a1 a2 a3 a4
  | .acwr a0 a1 a2 a3 a4 => execAcwr_commits s a0 a1 a2 a3 a4
  | .acclr a0 a1 a2 => execAcclr_commits s a0 a1 a2
  | .wick a0 a1 a2 a3 a4 a5 => execWick_commits s a0 a1 a2 a3 a4 a5
  | .wadv a0 a1 a2 a3 a4 => execWadv_commits s a0 a1 a2 a3 a4
  | .gld a0 a1 a2 a3 a4 a5 a6 => execGld_commits s a0 a1 a2 a3 a4 a5 a6
  | .gldv a0 a1 a2 a3 a4 a5 => execGldv_commits s a0 a1 a2 a3 a4 a5
  | .gst a0 a1 a2 a3 a4 a5 a6 => execGst_commits s a0 a1 a2 a3 a4 a5 a6
  | .gstv a0 a1 a2 a3 a4 a5 => execGstv_commits s a0 a1 a2 a3 a4 a5
  | .aadd a0 a1 a2 a3 a4 a5 a6 => execAadd_commits s a0 a1 a2 a3 a4 a5 a6
  | .aand a0 a1 a2 a3 a4 a5 a6 => execAand_commits s a0 a1 a2 a3 a4 a5 a6
  | .aor a0 a1 a2 a3 a4 a5 a6 => execAor_commits s a0 a1 a2 a3 a4 a5 a6
  | .axor a0 a1 a2 a3 a4 a5 a6 => execAxor_commits s a0 a1 a2 a3 a4 a5 a6
  | .amin a0 a1 a2 a3 a4 a5 a6 => execAmin_commits s a0 a1 a2 a3 a4 a5 a6
  | .amax a0 a1 a2 a3 a4 a5 a6 => execAmax_commits s a0 a1 a2 a3 a4 a5 a6
  | .aminu a0 a1 a2 a3 a4 a5 a6 => execAminu_commits s a0 a1 a2 a3 a4 a5 a6
  | .amaxu a0 a1 a2 a3 a4 a5 a6 => execAmaxu_commits s a0 a1 a2 a3 a4 a5 a6
  | .axch a0 a1 a2 a3 a4 a5 a6 => execAxch_commits s a0 a1 a2 a3 a4 a5 a6
  | .acas a0 a1 a2 a3 a4 a5 a6 a7 => execAcas_commits s a0 a1 a2 a3 a4 a5 a6 a7
  | .afadd a0 a1 a2 a3 a4 a5 => execAfadd_commits s a0 a1 a2 a3 a4 a5
  | .atas a0 a1 a2 a3 a4 a5 => execAtas_commits s a0 a1 a2 a3 a4 a5
  | .fence a0 a1 a2 a3 => execFence_commits s a0 a1 a2 a3
  | .ordj a0 a1 a2 => execOrdj_commits s a0 a1 a2
  | .bell a0 a1 a2 a3 => execBell_commits s a0 a1 a2 a3
  | .bella a0 a1 a2 a3 => execBella_commits s a0 a1 a2 a3
  | .abstn a0 a1 a2 a3 => execAbstn_commits s a0 a1 a2 a3
  | .qpush a0 a1 a2 a3 => execQpush_commits s a0 a1 a2 a3
  | .qpop a0 a1 a2 a3 => execQpop_commits s a0 a1 a2 a3
  | .qlen a0 a1 a2 => execQlen_commits s a0 a1 a2
  | .lnch a0 a1 a2 a3 => execLnch_commits s a0 a1 a2 a3
  | .sigc a0 a1 a2 a3 => execSigc_commits s a0 a1 a2 a3
  | .waitc a0 a1 a2 => execWaitc_commits s a0 a1 a2
  | .bmwait a0 a1 a2 a3 => execBmwait_commits s a0 a1 a2 a3
  | .lgen a0 a1 a2 a3 a4 a5 => execLgen_commits s a0 a1 a2 a3 a4 a5
  | .lgen2 a0 a1 a2 a3 a4 a5 a6 => execLgen2_commits s a0 a1 a2 a3 a4 a5 a6
  | .spscn a0 a1 a2 a3 a4 a5 => execSpscn_commits s a0 a1 a2 a3 a4 a5
  | .rptc a0 a1 a2 a3 a4 => execRptc_commits s a0 a1 a2 a3 a4
  | .rpte a0 a1 a2 a3 a4 => execRpte_commits s a0 a1 a2 a3 a4
  | .emstp a0 a1 a2 a3 a4 => execEmstp_commits s a0 a1 a2 a3 a4
  | .tkind a0 a1 a2 a3 a4 => execTkind_commits s a0 a1 a2 a3 a4
  | .itgate a0 a1 a2 a3 a4 a5 => execItgate_commits s a0 a1 a2 a3 a4 a5
  | .take a0 a1 a2 a3 => execTake_commits s a0 a1 a2 a3
  | .cnttk a0 a1 a2 a3 a4 a5 => execCnttk_commits s a0 a1 a2 a3 a4 a5
  | .seqrd a0 a1 a2 => execSeqrd_commits s a0 a1 a2
  | .wgtrd a0 a1 a2 => execWgtrd_commits s a0 a1 a2
  | .wgtwr a0 a1 a2 => execWgtwr_commits s a0 a1 a2
  | .isgap a0 a1 a2 a3 => execIsgap_commits s a0 a1 a2 a3
  | .gaprd a0 a1 a2 a3 a4 => execGaprd_commits s a0 a1 a2 a3 a4
  | .emgap a0 a1 a2 => execEmgap_commits s a0 a1 a2
  | .voidr a0 a1 a2 => execVoidr_commits s a0 a1 a2
  | .wacc a0 a1 a2 a3 a4 a5 a6 a7 => execWacc_commits s a0 a1 a2 a3 a4 a5 a6 a7
  | .wincl a0 a1 a2 a3 a4 a5 a6 => execWincl_commits s a0 a1 a2 a3 a4 a5 a6
  | .joink a0 a1 a2 a3 a4 a5 a6 a7 => execJoink_commits s a0 a1 a2 a3 a4 a5 a6 a7
  | .wld a0 a1 a2 a3 a4 a5 => execWld_commits s a0 a1 a2 a3 a4 a5
  | .wlds a0 a1 a2 a3 a4 => execWlds_commits s a0 a1 a2 a3 a4
  | .wsel a0 a1 a2 a3 => execWsel_commits s a0 a1 a2 a3
  | .arow a0 a1 a2 a3 a4 a5 => execArow_commits s a0 a1 a2 a3 a4 a5
  | .adrn a0 a1 a2 a3 a4 => execAdrn_commits s a0 a1 a2 a3 a4
  | .azero a0 a1 a2 a3 a4 => execAzero_commits s a0 a1 a2 a3 a4
  | .xfwd a0 a1 a2 a3 a4 => execXfwd_commits s a0 a1 a2 a3 a4
  | .xinv a0 a1 a2 a3 a4 => execXinv_commits s a0 a1 a2 a3 a4
  | .cmac a0 a1 a2 a3 => execCmac_commits s a0 a1 a2 a3
  | .cmul a0 a1 a2 a3 => execCmul_commits s a0 a1 a2 a3
  | .cconj a0 a1 a2 a3 => execCconj_commits s a0 a1 a2 a3
  | .dtag a0 a1 a2 a3 => execDtag_commits s a0 a1 a2 a3
  | .xreq a0 a1 a2 => execXreq_commits s a0 a1 a2
  | .drvk a0 a1 a2 a3 a4 => execDrvk_commits s a0 a1 a2 a3 a4
  | .gtatt a0 a1 a2 => execGtatt_commits s a0 a1 a2
  | .gtdet a0 a1 a2 => execGtdet_commits s a0 a1 a2
  | .gtfld a0 a1 a2 => execGtfld_commits s a0 a1 a2
  | .trap a0 a1 => execTrap_commits s a0 a1
  | .brk a0 a1 => execBrk_commits s a0 a1
  | .ctlrd a0 a1 a2 a3 => execCtlrd_commits s a0 a1 a2 a3
  | .ctlwr a0 a1 a2 a3 => execCtlwr_commits s a0 a1 a2 a3
  | .cntrd a0 a1 a2 a3 a4 a5 a6 => execCntrd_commits s a0 a1 a2 a3 a4 a5 a6
  | .rand a0 a1 a2 => execRand_commits s a0 a1 a2
  | .seed a0 a1 a2 => execSeed_commits s a0 a1 a2
  | .timer a0 a1 a2 a3 => execTimer_commits s a0 a1 a2 a3
  | .fwsvc a0 a1 a2 a3 => execFwsvc_commits s a0 a1 a2 a3
  | .dnop => execDnop_commits s
  | .dhalt => execDhalt_commits s
  | .dset a0 a1 => execDset_commits s a0 a1
  | .dadd a0 a1 a2 => execDadd_commits s a0 a1 a2
  | .dmov a0 a1 => execDmov_commits s a0 a1
  | .dloop a0 a1 a2 => execDloop_commits s a0 a1 a2
  | .dnext a0 a1 => execDnext_commits s a0 a1
  | .djmp a0 => execDjmp_commits s a0
  | .djz a0 a1 => execDjz_commits s a0 a1
  | .dpat a0 a1 a2 a3 a4 a5 a6 => execDpat_commits s a0 a1 a2 a3 a4 a5 a6
  | .dpush a0 a1 a2 a3 a4 a5 a6 a7 => execDpush_commits s a0 a1 a2 a3 a4 a5 a6 a7
  | .dpull a0 a1 a2 a3 a4 a5 => execDpull_commits s a0 a1 a2 a3 a4 a5
  | .dgtld a0 a1 a2 a3 a4 a5 => execDgtld_commits s a0 a1 a2 a3 a4 a5
  | .dgath a0 a1 a2 a3 a4 a5 a6 a7 => execDgath_commits s a0 a1 a2 a3 a4 a5 a6 a7
  | .dwick a0 a1 a2 => execDwick_commits s a0 a1 a2
  | .dsig a0 a1 => execDsig_commits s a0 a1
  | .dwaitc a0 a1 => execDwaitc_commits s a0 a1
  | .dfence a0 => execDfence_commits s a0
  | .dfold a0 a1 => execDfold_commits s a0 a1
  | .dcopy a0 a1 a2 a3 a4 => execDcopy_commits s a0 a1 a2 a3 a4
  | .dpref a0 a1 a2 => execDpref_commits s a0 a1 a2
  | .dconv a0 a1 a2 a3 a4 => execDconv_commits s a0 a1 a2 a3 a4
  | .paddockCreate => execPaddockCreate_commits s
  | .paddockDestroy => execPaddockDestroy_commits s
  | .chargeLoad => execChargeLoad_commits s
  | .queueCreate => execQueueCreate_commits s
  | .queueTeardownDrain => execQueueTeardownDrain_commits s
  | .queueTeardownAbort => execQueueTeardownAbort_commits s
  | .launch => execLaunch_commits s
  | .map => execMap_commits s
  | .unmap => execUnmap_commits s
  | .faultRead => execFaultRead_commits s
  | .faultResume => execFaultResume_commits s
  | .faultRetire => execFaultRetire_commits s
  | .handleCreate => execHandleCreate_commits s
  | .glazeAttach => execGlazeAttach_commits s
  | .glazeDetach => execGlazeDetach_commits s
  | .fold => execFold_commits s
  | .snapshot => execSnapshot_commits s
  | .setTolerance => execSetTolerance_commits s
  | .setTier => execSetTier_commits s
  | .powerReport => execPowerReport_commits s
  | .linkHealth => execLinkHealth_commits s
  | .attest => execAttest_commits s
  | .fwPatch => execFwPatch_commits s
  | .resetPaddock => execResetPaddock_commits s
  | .resetPackage => execResetPackage_commits s
  | .counterSet => execCounterSet_commits s
  | .counterRead => execCounterRead_commits s
  | .powerConfig => execPowerConfig_commits s
  | .snapshotRestore => execSnapshotRestore_commits s
  | .registerWrite => execRegisterWrite_commits s
  | .hostApertureAccess => execHostApertureAccess_commits s
  | .peerAccess => execPeerAccess_commits s
  | .peerLaunchArrival => execPeerLaunchArrival_commits s
  | .powerOn => execPowerOn_commits s
  | .bootComplete => execBootComplete_commits s
  | .fluidDataWrite => execFluidDataWrite_commits s
  | .blockFire => execBlockFire_commits s
  | .instructionComplete => execInstructionComplete_commits s
  | .blockEnd => execBlockEnd_commits s
  | .waitSatisfied => execWaitSatisfied_commits s
  | .timerDeadline => execTimerDeadline_commits s
  | .fwsvcResult => execFwsvcResult_commits s
  | .accessResponse => execAccessResponse_commits s
  | .unitInstall => execUnitInstall_commits s
  | .linkArrival => execLinkArrival_commits s
  | .waitingStopEnters => execWaitingStopEnters_commits s
  | .creditReturn => execCreditReturn_commits s
  | .slotReturnDelayExpiry => execSlotReturnDelayExpiry_commits s
  | .tick => execTick_commits s
  | .rsuFire => execRsuFire_commits s
  | .rsuResult => execRsuResult_commits s
  | .arowConsumed => execArowConsumed_commits s
  | .stuTransformServe => execStuTransformServe_commits s
  | .stuResultWrite => execStuResultWrite_commits s
  | .signalPropagate => execSignalPropagate_commits s
  | .bellRelease => execBellRelease_commits s
  | .bellTimeout => execBellTimeout_commits s
  | .queueRefill => execQueueRefill_commits s
  | .phaseEnd => execPhaseEnd_commits s
  | .contextSwitchComplete => execContextSwitchComplete_commits s
  | .launchPick => execLaunchPick_commits s
  | .launchReservation => execLaunchReservation_commits s
  | .launchStart => execLaunchStart_commits s
  | .kilnComplete => execKilnComplete_commits s
  | .quantumExpiry => execQuantumExpiry_commits s
  | .raddleSeal => execRaddleSeal_commits s
  | .snapshotTaskSave => execSnapshotTaskSave_commits s
  | .snapshotDeadline => execSnapshotDeadline_commits s
  | .droveListStart => execDroveListStart_commits s
  | .pushResume => execPushResume_commits s
  | .btuCopy => execBtuCopy_commits s
  | .btuCopyComplete => execBtuCopyComplete_commits s
  | .foldComplete => execFoldComplete_commits s
  | .memoryTilePort => execMemoryTilePort_commits s
  | .migrationEpoch => execMigrationEpoch_commits s
  | .scrub => execScrub_commits s
  | .capCompute => execCapCompute_commits s
  | .capClamp => execCapClamp_commits s
  | .fluxLimit => execFluxLimit_commits s
  | .clampRelease => execClampRelease_commits s
  | .thermalTrip => execThermalTrip_commits s
  | .tripClear => execTripClear_commits s
  | .railFault => execRailFault_commits s
  | .inputRange => execInputRange_commits s
  | .converterTemp => execConverterTemp_commits s
  | .converterShutdown => execConverterShutdown_commits s
  | .powerStateChange => execPowerStateChange_commits s
  | .flitReplay => execFlitReplay_commits s
  | .healthWindow => execHealthWindow_commits s
  | .portRetrainAttempt => execPortRetrainAttempt_commits s
  | .migrationComplete => execMigrationComplete_commits s
  | .peerAcknowledges => execPeerAcknowledges_commits s

end Sys2Proof.Machine
end

