-- ==== Sys2Proof/Laws/Memory.lean ====
section
/-! SUPPORT. Every memory operation keeps the canonical form; a step's commit does, whatever it stored. -/

namespace Sys2Proof.Machine

theorem Mem.wfFrom_cons (lo x : Nat) (v : Byte) (r : List Host.Cell) :
    Mem.wfFrom lo ((x, v) :: r) = true ↔ lo ≤ x ∧ v ≠ 0 ∧ Mem.wfFrom (x + 1) r = true := by
  simp only [Mem.wfFrom, Bool.and_eq_true, decide_eq_true_eq, bne_iff_ne, ne_eq, and_assoc]

theorem Mem.wfFrom_mono {lo lo' : Nat} {m : List Host.Cell} (h : lo' ≤ lo) (hm : Mem.wfFrom lo m = true) :
    Mem.wfFrom lo' m = true := by
  match m with
  | [] => rfl
  | (x, v) :: r =>
    rw [Mem.wfFrom_cons] at hm ⊢
    exact ⟨by omega, hm.2⟩

theorem Mem.wfFrom_write {m : List Host.Cell} {lo a : Nat} (b : Byte) (h : lo ≤ a) (hm : Mem.wfFrom lo m = true) :
    Mem.wfFrom lo (Mem.write m a b) = true := by
  induction m generalizing lo with
  | nil =>
    simp only [Mem.write]
    split
    · rfl
    · exact (Mem.wfFrom_cons ..).2 ⟨h, ‹_›, rfl⟩
  | cons c r ih =>
    obtain ⟨x, v⟩ := c
    have ⟨h1, h2, h3⟩ := (Mem.wfFrom_cons ..).1 hm
    simp only [Mem.write]
    split
    · split
      · exact hm
      · exact (Mem.wfFrom_cons ..).2 ⟨h, ‹_›, (Mem.wfFrom_cons ..).2 ⟨by omega, h2, h3⟩⟩
    · split
      · split
        · exact Mem.wfFrom_mono (by omega) h3
        · subst_vars; exact (Mem.wfFrom_cons ..).2 ⟨h, ‹_›, h3⟩
      · exact (Mem.wfFrom_cons ..).2 ⟨h1, h2, ih (by omega) h3⟩

/-- A write keeps the canonical form. -/
theorem Mem.wf_write {m : List Host.Cell} (a : Nat) (b : Byte) (h : Mem.wf m = true) : Mem.wf (Mem.write m a b) = true :=
  Mem.wfFrom_write b (Nat.zero_le a) h

/-- Applying a log of writes keeps the canonical form. -/
theorem Mem.wf_apply {m : List Host.Cell} (l : List Host.Cell) (h : Mem.wf m = true) : Mem.wf (Mem.apply m l) = true := by
  induction l with
  | nil => exact h
  | cons c r ih => exact Mem.wf_write c.1 c.2 ih

/-- The end of a step keeps the canonical form, whatever the step stored. -/
theorem State.wf_commit {s : State} (t : State) (h : Mem.wf s.mem = true) : Mem.wf (s.commit t).mem = true := Mem.wf_apply t.wlog h

/-- Reset memory is in canonical form. -/
theorem State.wf_reset : Mem.wf State.reset.mem = true := rfl

/-- Below its least address canonical memory reads 0. -/
theorem Mem.read_below {m : List Host.Cell} {lo a : Nat} (h : a < lo) (hm : Mem.wfFrom lo m = true) : Mem.read m a = 0 := by
  induction m generalizing lo with
  | nil => rfl
  | cons c r ih =>
    obtain ⟨x, v⟩ := c
    have ⟨h1, _, h3⟩ := (Mem.wfFrom_cons ..).1 hm
    simp only [Mem.read]
    rw [if_neg (by omega)]
    exact ih (by omega) h3

end Sys2Proof.Machine
end

