-- ==== Sys2Proof/Laws/Step.lean ====
section
/-! SUPPORT. What the operations around a step and behind a peer port can do, said once. -/

namespace Sys2Proof.Machine

/-- A step ends in the state it came to, in that state with the miss of a kiln that does not run taken out, or, where a unit could not
be installed, in the state it began in with the kiln waiting (R56, R57). -/
theorem State.endStep_cases (s t : State) :
    s.endStep t = t ∨ s.endStep t = { t with unitMiss := none } ∨
    ∃ m : UnitMiss, t.unitMiss = some m ∧ s.endStep t = s.commit ({ s with wlog := [] }.pause m) := by
  unfold State.endStep
  split
  · exact .inl rfl
  · split
    · exact .inr (.inr ⟨_, ‹_›, rfl⟩)
    · exact .inr (.inl rfl)

/-- A kiln that comes to wait leaves memory and the accesses in flight as they are. -/
theorem State.pause_frame (s : State) (m : UnitMiss) : (s.pause m).mem = s.mem ∧ (s.pause m).accs = s.accs := by
  constructor
  · change (State.postFault s _).2.mem = s.mem
    rw [State.postFault_frame]
  · change (State.postFault s _).2.accs = s.accs
    rw [State.postFault_frame]

/-- An access past its port goes on as `f` says; only behind a peer port that is down may it be held instead (R426). -/
theorem State.answered_cases (s : State) (a : Acc) (ls : List Loc) (f : State → State) :
    s.answered a ls f = f s ∨
    ∃ (kl : Kiln) (q pa : Nat), s.kiln? a.kiln = some kl ∧ s.downPort ls = some (q, pa) ∧
      let t := { s with freeCount := s.freeCount + 1 }
      (s.answered a ls f = f t ∨ s.answered a ls f = t.lose kl a ls q pa) := by
  unfold State.answered
  split
  · refine .inr ⟨_, _, _, ‹_›, ‹_›, ?_⟩
    split
    · exact .inl rfl
    · exact .inr rfl
  · exact .inl rfl

end Sys2Proof.Machine
end

