-- ==== Sys2Proof/Tests/Slice0.lean ====
section
/-! SUPPORT. Tests: words that the spec writes out, terms that are not well formed, single steps with results computed by hand
from the spec, and for every statement with hypotheses a state and operands that meet them (`wit_…`). -/

open Sys2Proof Sys2Proof.Machine

namespace Sys2Proof.Tests

/-! Decoding. The words stand in the spec beside their lines: spec/02 (TAKE), 09 (GSTV), 10 (LEA), 11 (VFMUL), 12 (ACAS), 13 (EMSTP),
14 (drove commands), 15 (QPUSH, SIGC), 16 (LDSV, VFCLS, VRINT), 17 (LGEN, DTAG, WACC, ISGAP, GAPRD, CNTTK), 18 (WICK, AROW, STS),
26 (GLD, VINSL, VFADD). -/

theorem test_decode_take : decodeTableWord 64 0xA880520000000000 = some (.take .ifZero (.slot 5 .a) .null 0) := by decide
theorem test_decode_lea : decodeTableWord 64 0x3E004200FFFFF003 = some (.lea .always (.slot 4 .a) .null 3 0xFFFFF0) := by decide
theorem test_decode_vfmul : decodeTableWord 64 0x5200802400000000 = some (.vfmul .always 0 (.slot 8 .a) (.slot 9 .a)) := by decide
theorem test_decode_gstv : decodeTableWord 64 0x8320720080000000 = some (.gstv .always .rel (.slot 7 .a) .null 4 0) := by decide
theorem test_decode_acas :
    decodeTableWord 64 0x8D3030167A800008 = some (.acas .always .acqRel (.slot 3 .a) (.slot 5 .c) 3 3 20 8) := by decide
theorem test_decode_emstp : decodeTableWord 64 0xA509782400000007 = some (.emstp .always (.port 3 6) (.slot 9 .a) 7 0) := by decide
theorem test_decode_qpush : decodeTableWord 64 0x9501084800000014 = some (.qpush .always (.slot 16 .c) (.slot 18 .a) 0x14) := by decide
theorem test_decode_sigc : decodeTableWord 64 0x9941120000000028 = some (.sigc .ifNonzero (.slot 17 .a) .null 0x28) := by decide
theorem test_decode_ldsv : decodeTableWord 64 0x7180520000000000 = some (.ldsv .ifZero .plain (.slot 5 .a) .null 0) := by decide
theorem test_decode_vfcls : decodeTableWord 64 0x5E00A84200000204 = some (.vfcls .always 0 (.slot 10 .c) (.slot 16 .c) 0x204) := by decide
theorem test_decode_vrint : decodeTableWord 64 0x6100C43900000000 = some (.vrint .always 0 (.slot 12 .b) (.slot 14 .b) 0) := by decide
theorem test_decode_lgen : decodeTableWord 64 0xA00920040080000A = some (.lgen .always (.port 1 0) (.slot 1 .a) 10 0 1) := by decide
theorem test_decode_dtag : decodeTableWord 64 0xD509260000000000 = some (.dtag .always (.port 1 1) .null 0) := by decide
theorem test_decode_isgap : decodeTableWord 64 0xB300600800000003 = some (.isgap .always (.slot 6 .a) (.slot 2 .a) 3) := by decide
theorem test_decode_gaprd : decodeTableWord 64 0xB400301000000004 = some (.gaprd .always (.slot 3 .a) (.slot 4 .a) 0 1) := by decide
theorem test_decode_cnttk : decodeTableWord 64 0xA908001400000000 = some (.cnttk .always .null (.slot 5 .a) 0 0 0) := by decide
theorem test_decode_wick : decodeTableWord 64 0x7E404A0000003C01 = some (.wick .ifNonzero (.slot 4 .c) .null 1 0 15) := by decide
theorem test_decode_arow : decodeTableWord 64 0xC300B83100008001 = some (.arow .always 0 (.slot 11 .c) (.slot 12 .b) 1 0x200) := by decide
theorem test_decode_sts :
    decodeTableWord 64 0x7211020018002800 = some (.sts .always .waitE (.slot 16 .a) .null 3 0x2800) := by decide
theorem test_decode_gld : decodeTableWord 64 0x8080520028000000 = some (.gld .ifZero .plain (.slot 5 .a) .null 1 1 0) := by decide
theorem test_decode_vinsl : decodeTableWord 64 0x6A09202400000001 = some (.vinsl .always 0 (.port 1 0) (.slot 9 .a) 1) := by decide
theorem test_decode_vfadd : decodeTableWord 64 0x5080620000000000 = some (.vfadd .ifZero 0 (.slot 6 .a) .null) := by decide
/-- CTLWR of SATFLAG (R195, R197, R244): OP 0xE3, TGA null, TGB K3, IDX 0x011. -/
theorem test_decode_ctlwr :
    decodeTableWord 64 (0xE3 * 2 ^ 56 + 0x200 * 2 ^ 42 + 0x283 * 2 ^ 32 + 0x011) = some (.ctlwr .always .null (.keep 3) 0x011) := by decide
/-- CMUL with FS 2 on signal targets (R195, R197): OP 0xD3. -/
theorem test_decode_cmul :
    decodeTableWord 64 (0xD3 * 2 ^ 56 + 2 * 2 ^ 52 + 0x2C0 * 2 ^ 42 + 0x2CF * 2 ^ 32) = some (.cmul .always 2 (.signal 0) (.signal 15)) := by decide
/-- A drove-list command is 128 bits, its lower word first (R219, R353). -/
theorem test_decode_dpat :
    decodeTableWord 128 (0x09000000000007F8 * 2 ^ 64 + 0x000000FF00000002) = some (.dpat 0 0 0 255 2 255 0) := by decide
theorem test_decode_dpat1 :
    decodeTableWord 128 (0x090000000000003D * 2 ^ 64 + 0x0006000700000400) = some (.dpat 0 1 1 7 1024 7 6) := by decide
theorem test_decode_dwick : decodeTableWord 128 (0x0E00000000020000 * 2 ^ 64) = some (.dwick 0 0 1) := by decide
theorem test_decode_dpush : decodeTableWord 128 (0x0A00000000000006 * 2 ^ 64) = some (.dpush 0 0 0 6 0 0 0 0) := by decide
theorem test_decode_dsig : decodeTableWord 128 (0x0F00000000000003 * 2 ^ 64 + 1) = some (.dsig 3 1) := by decide
/-- A command entry is 64 bytes; CODE stands in word 0 bits [7:0] (R369, R373): 0x15 is FW_PATCH. -/
theorem test_decode_command : decodeCommand ⟨0x15, 0, 0, 0, 0, 0, 0, 0⟩ = some .fwPatch := by decide

/-! Ill-formed terms: each check refuses one. -/

theorem test_wf_targets : (Instr.lgen .always (.slot 3 .a) .null 1 0 0).wellFormed = false := by decide
theorem test_wf_winclTargets : (Instr.wincl .always 0 .null (.slot 0 .b) 0 0 0).wellFormed = false := by decide
theorem test_wf_bitField : (Instr.bfx .always .null .null 32 32 0).wellFormed = false := by decide
theorem test_wf_scope : (Instr.gld .always .plain .null .null 5 0 0).wellFormed = false := by decide
theorem test_wf_gatherSize : (Instr.ldsx .always .plain .null .null 3 0 0).wellFormed = false := by decide
theorem test_wf_reduction : (Instr.vred .always 0 .null .null 3).wellFormed = false := by decide
theorem test_wf_keepRun : (Instr.qpush .always .null .null 61).wellFormed = false := by decide
theorem test_wf_zeroRows : (Instr.azero .always .null .null 63 1).wellFormed = false := by decide
theorem test_wf_increment : (Instr.dsig 0 0).wellFormed = false := by decide
theorem test_wf_register : (Instr.ctlwr .always .null .null 0x030).wellFormed = false := by decide
theorem test_wf_service : (Instr.fwsvc .always .null .null 4).wellFormed = false := by decide
theorem test_wf_droveFormat : (Instr.dpush 0 0 0 4 0 0 0 0).wellFormed = false := by decide
theorem test_wf_converter : (Instr.dconv 6 13 0 0 1).wellFormed = false := by decide
/-- PM 11 and a target code that R197 does not list are refused by the decoder. -/
theorem test_decode_refuses : decodeTableWord 64 0x30C0420000000100 = none ∧ decodeTableWord 64 0x300F020000000100 = none := by decide

/-! Small states: one paddock, one running kiln of one tile whose block 0 of task 0 is under way with the given operands in slot 0;
formats FP32, INT8, INT16, BF16; block 0 is the only used block. -/

def demoPaddock : Paddock where
  index := 0
  root := 0
  handles := 0x2000
  quantum := 1000
  tier := 2
  breakpoints := true
  signedOnly := false
  share := [72, 72, 72, 72]
  key := []
  saveBase := 0
  saveCount := 1
  peerMask := 1
  ranges := []
  counters := []
  tolerance := 0
  slotsUsed := []
  create := ⟨0, 0, 0, 0, 0, 0, 0, 0⟩

def execOf (ops : List Operand) : Exec := ⟨0, 0, 0, 0, [], ops, [], [], none, none⟩
def tileOf (x : Exec) : TileSt :=
  { TileSt.fresh 0 0 with
    cyc := 1, nextNo := 1, fmt := [7, 0, 2, 6], execs := [x]
    tasks := { TaskSt.blank with stat := .active } :: List.replicate 7 TaskSt.blank }
def kilnOf (t : TileSt) : Kiln :=
  { State.reset.bareKiln with tiles := [t], bells := [⟨2, 100, 0, 0, none, false, [], []⟩, ⟨2, 100, 5, 1, some (0, 0, 0), false, [], []⟩] }
def machine (k : Kiln) (cur : Cursor) : State :=
  { State.reset with
    mem := (State.reset.withTileWord 0).mem, paddocks := [demoPaddock], kilns := [k], cursor := cur
    queues := [QueueSt.fresh 0 false 0 0 0 0x10000 64, QueueSt.fresh 255 true 0 0 0 0x20000 64] }
def tileState (t : TileSt) : State := machine (kilnOf t) (.tile 1 0 0 0)
def ctxOf (t : TileSt) (x : Exec) : Ctx :=
  ⟨kilnOf t, t, x, 0, 0, x.operand 0 .a, x.operand 0 .b, x.operand 0 .c, x.operand 0 .p⟩
/-- The state and the context with operands, and with nothing else. -/
def demo (ops : List Operand) : State := tileState (tileOf (execOf ops))
def demoCtx (ops : List Operand) : Ctx := ctxOf (tileOf (execOf ops)) (execOf ops)
theorem demo_acts (ops : List Operand) : (demo ops).Acts (demoCtx ops) .always := ⟨rfl, rfl⟩

/-- A control value, a record, a record of DOMAIN 1 and stops as operands of slot 0. -/
def va (p : Pos) (v : Word) : Operand := ⟨0, p, Tok.val v, 0⟩
def rec_ (p : Pos) (v : Payload) : Operand := ⟨0, p, .data (DTok.record v false), 0⟩
def rec1 (p : Pos) (v : Payload) : Operand := ⟨0, p, .data (DTok.record v true), 0⟩
def stop (p : Pos) (lv : BitVec 3) : Operand := ⟨0, p, .data (DTok.stop lv), 0⟩
def cstop (p : Pos) (lv : BitVec 3) : Operand := ⟨0, p, .ctl (CTok.stop lv), 0⟩

theorem of_all {α : Type} {o : Option α} {f : α → Bool} {b : Bool} (h : (o.all fun x => f x == b) = true) : ∀ t : α, o = some t → f t = b := by
  intro t ht; subst ht; simpa using h
theorem records_of {c : Ctx} {dom : Bool} {ps : List Pos}
    (h : (ps.all fun q => match c.at q with | some (.data x) => x.isRecord && (x.domain == dom) | _ => true) = true) : c.Records dom ps := by
  intro q hq x hx
  have := List.all_eq_true.mp h q hq
  rw [hx] at this
  simpa using this

/-! Witnesses: memory, encodings, steps. -/

theorem wit_MemoryLaws : Mem.wf (demo []).mem = true ∧ Mem.wf [] = true ∧ (∀ a : Nat, Mem.read [] a = Mem.read [] a) :=
  ⟨by decide, rfl, fun _ => rfl⟩
theorem wit_CommitReadsAsStep : Mem.wf (demo []).mem = true ∧ ((demo []).poke 5 7).mem = (demo []).mem := ⟨by decide, rfl⟩
theorem wit_TileEncodeDecode :
    (Instr.acas .always .acqRel (.slot 127 .c) (.keep 63) 4 3 63 0x1FFFFF).wellFormed = true ∧
    (encodeTile (.acas .always .acqRel (.slot 127 .c) (.keep 63) 4 3 63 0x1FFFFF)).isSome = true := by decide
theorem wit_DroveEncodeDecode :
    (Instr.dpush 3 15 15 0xE 1 1 1 0xFFFFFFFFFFFFFFFF).wellFormed = true ∧
    (encodeDrove (.dpush 3 15 15 0xE 1 1 1 0xFFFFFFFFFFFFFFFF)).isSome = true := by decide
theorem wit_ReservedOpcodesRefused :
    ∀ op ∈ [0x0F, 0x9C, 0x9F, 0xAA, 0xAF, 0xBA, 0xBF, 0xC6, 0xCF, 0xDB, 0xDF, 0xE9, 0xFF],
      op * 2 ^ 56 < 2 ^ 64 ∧ op * 2 ^ 56 / 2 ^ 56 = op ∧
      (op = 0x0F ∨ (0x9C ≤ op ∧ op ≤ 0x9F) ∨ (0xAA ≤ op ∧ op ≤ 0xAF) ∨ (0xBA ≤ op ∧ op ≤ 0xBF) ∨ (0xC6 ≤ op ∧ op ≤ 0xCF) ∨
        (0xDB ≤ op ∧ op ≤ 0xDF) ∨ (0xE9 ≤ op ∧ op ≤ 0xFF)) := by decide

/-- MOVI on the control plane and VFADD, with no operand named, on the data plane. -/
def moviState : State := State.reset.withFetchWord 64 0x3000420000000100
def vfaddState : State := State.reset.withFetchWord 64 0x5000620000000000
def haltState : State := State.reset.withFetchWord 128 (0x0100000000000000 * 2 ^ 64)
def patchState : State := State.reset.withFetchWord 192 0x15
theorem wit_StepKeepsInvariant : ∃ t : State, StateInv moviState ∧ step moviState = .next t := ⟨_, ⟨by decide, rfl⟩, rfl⟩
theorem wit_StepRunsDecoded_tile (s : State) (plane : Bool) (w : Nat) (i : Instr)
    (h : (s, plane, w, i) ∈ [(moviState, false, 0x3000420000000100, Instr.movi .always (.slot 4 .a) .null 0x100),
      (vfaddState, true, 0x5000620000000000, .vfadd .always 0 (.slot 6 .a) .null)]) :
    ∃ (k : Kiln) (t : TileSt) (x : Exec), s.earlyAct.isNone = true ∧ (plane = true → (s.issueAct false).isNone = true) ∧
      s.liveTiles = [(k, t)] ∧ (if plane then t.dataIssued else t.ctlIssued) = false ∧ t.execs = [x] ∧
      s.readySlots k t x plane = [(0, w)] ∧ decodeTileNat w = .ok i ∧ t.fits i = true := by
  simp only [List.mem_cons, Prod.mk.injEq, List.not_mem_nil, or_false] at h
  rcases h with ⟨rfl, rfl, rfl, rfl⟩ | ⟨rfl, rfl, rfl, rfl⟩
  · exact ⟨_, _, _, rfl, by decide, rfl, rfl, rfl, rfl, rfl, rfl⟩
  · exact ⟨_, _, _, rfl, fun _ => rfl, rfl, rfl, rfl, rfl, rfl, rfl⟩
theorem wit_StepRunsDecoded_list : ∃ (d : DroverSt) (c : DCtx), haltState.inbox = [] ∧ haltState.firmwareAct.isNone = true ∧
    haltState.moveAct.isNone = true ∧ haltState.accessAct.isNone = true ∧ haltState.wlog = [] ∧ haltState.drovers = [d] ∧ haltState.dctx? d.die d.slice = some c ∧
    haltState.listReady c = true ∧ c.l.waits = false ∧ c.l.ref = .charge 0 ∧
    ((haltState.image? c.k.charge).bind fun im => im.lists[0]?).bind (fun l => l.cmds[c.l.index]?) = some (0x0100000000000000 * 2 ^ 64) ∧
    decodeDroveNat (0x0100000000000000 * 2 ^ 64) = .ok .dhalt ∧ haltState.listWaits c .dhalt = false :=
  ⟨_, _, rfl, rfl, rfl, rfl, rfl, rfl, rfl, rfl, rfl, rfl, rfl, rfl, rfl⟩
def vaListState : State :=
  match haltState.drovers with
  | d :: _ => match haltState.dctx? d.die d.slice with
    | some c => haltState.putList c (some { c.l with ref := .va 0x10000, word := some (0x0100000000000000 * 2 ^ 64) })
    | none => haltState
  | [] => haltState
theorem wit_StepRunsDecoded_vaList : ∃ (d : DroverSt) (c : DCtx), vaListState.inbox = [] ∧ vaListState.firmwareAct.isNone = true ∧
    vaListState.moveAct.isNone = true ∧ vaListState.accessAct.isNone = true ∧ vaListState.wlog = [] ∧ vaListState.drovers = [d] ∧
    vaListState.dctx? d.die d.slice = some c ∧ vaListState.listReady c = true ∧ c.l.waits = false ∧ c.l.ref = .va 0x10000 ∧
    c.l.word = some (0x0100000000000000 * 2 ^ 64) ∧ decodeDroveNat (0x0100000000000000 * 2 ^ 64) = .ok .dhalt ∧
    vaListState.listWaits c .dhalt = false :=
  ⟨_, _, rfl, rfl, rfl, rfl, rfl, rfl, rfl, rfl, rfl, rfl, rfl, rfl, rfl⟩
theorem wit_StepRunsDecoded_command : patchState.inbox = [] ∧ (∀ o ∈ patchState.outstanding, patchState.holdsRing o = false) ∧ patchState.boot = .ready ∧
    patchState.cmdHead % 2 ^ patchState.cmdSize ≠ patchState.cmdTail % 2 ^ patchState.cmdSize ∧
    decodeCommand patchState.commandEntry = some .fwPatch := ⟨rfl, by decide, rfl, by decide, by decide⟩
theorem wit_StepRunsDecoded_input : ({ State.reset with inbox := [.powerOn] } : State).inbox = .powerOn :: [] := rfl

/-! Witnesses: issuing, stopping, faults. -/

theorem wit_IssueFrame : StateInv (demo [va .a 1]) ∧ (demo [va .a 1]).begun.wlog = [] ∧ (demo [va .a 1]).begun.mem = (demo [va .a 1]).mem ∧
    ((demoCtx [va .a 1]).emit 1 .null .null Tok.order).cause = none ∧
    (demo [va .a 1]).begun.kiln? 1 = some (kilnOf (tileOf (execOf [va .a 1]))) ∧
    (kilnOf (tileOf (execOf [va .a 1]))).tile? 0 = some (tileOf (execOf [va .a 1])) ∧ (0 : Nat) < (tileOf (execOf [va .a 1])).tasks.length :=
  ⟨⟨by decide, rfl⟩, rfl, rfl, rfl, rfl, rfl, by decide⟩
theorem wit_IssueRecord : ((demoCtx []).emit 1 .null .null Tok.order).cause = none ∧ (demo []).begun.kiln? 1 = some (kilnOf (tileOf (execOf []))) ∧
    (kilnOf (tileOf (execOf []))).tile? 0 = some (tileOf (execOf [])) ∧ (tileOf (execOf [])).exec? 0 = some (execOf []) := ⟨rfl, rfl, rfl, rfl⟩
/-- A completed instruction whose results are sent, with the flags invalid and inexact and with saturation. -/
def donePend : Pending := ⟨0, 0, .null, .null, [], 0x11, true, 1, [], .finish, 0⟩
def doneExec : Exec := { execOf [] with issued := [0], pend := [donePend] }
theorem wit_IssueRecord_completes : (tileState (tileOf doneExec)).kiln? 1 = some (kilnOf (tileOf doneExec)) ∧
    (kilnOf (tileOf doneExec)).tile? 0 = some (tileOf doneExec) ∧ (tileOf doneExec).exec? 0 = some doneExec ∧ doneExec.pend? 0 = some donePend ∧
    0 < (tileOf doneExec).tasks.length ∧ donePend.completes (tileOf doneExec).cyc = true ∧ donePend.sends = [] :=
  ⟨rfl, rfl, rfl, rfl, by decide, by decide, rfl⟩
theorem wit_StopCauseTaken : (demo []).kiln? 1 = some (kilnOf (tileOf (execOf []))) ∧ (kilnOf (tileOf (execOf []))).stat = .running := ⟨rfl, rfl⟩
/-- A kiln that freezes already, for a quantum, and an issue that raises a cause. -/
def freezingKiln : Kiln := { kilnOf (tileOf (execOf [])) with stat := .freezing 0 .quantum }
theorem wit_StopCauseTaken_issue :
    (machine freezingKiln (.tile 1 0 0 0)).kiln? 1 = some freezingKiln ∧ freezingKiln.stat = .freezing 0 .quantum ∧
    ((demoCtx []).stop 0x01 5 6).cause = some ⟨0x01, 5, 6⟩ ∧ (demo []).kiln? (demoCtx []).k.id = some (kilnOf (tileOf (execOf []))) ∧
    (kilnOf (tileOf (execOf []))).tile? (demoCtx []).t.id = some (tileOf (execOf [])) ∧
    (demoCtx []).task < (tileOf (execOf [])).tasks.length := ⟨rfl, rfl, rfl, rfl, rfl, by decide⟩
/-- A fault queue with room for one record more, and 4,095 records outstanding. -/
def fullDie : DieSt := { DieSt.reset 3 with
  faults := List.replicate 511 ⟨0, 0, 0, 0, 0, 0, 0, 0⟩, outstanding := List.replicate 4095 ⟨0, 0, 0, false⟩ }
theorem wit_FaultPosted : ([DieSt.reset 0, fullDie].find? fun x => x.index == 3) = some fullDie ∧ fullDie.faults.length < 512 ∧
    fullDie.deferred = [] ∧ fullDie.outstanding.length < 4096 :=
  ⟨rfl, by show (List.replicate 511 _).length < 512; rw [List.length_replicate]; decide, rfl,
    by show (List.replicate 4095 _).length < 4096; rw [List.length_replicate]; decide⟩

/-! Witnesses: rows 0x0_ to 0x3_ and 0xE_. -/

theorem wit_ScalarArithmetic : (demo []).Acts (demoCtx []) .always := demo_acts _
theorem wit_ScalarDivision :
    ((demo [va .a 7]).Acts (demoCtx [va .a 7]) .always ∧ (demoCtx [va .a 7]).bv = 0) ∧
    ((demo [va .a 7, va .b 1]).Acts (demoCtx [va .a 7, va .b 1]) .always ∧ (demoCtx [va .a 7, va .b 1]).bv ≠ 0 ∧ (demoCtx [va .a 7, va .b 1]).av ≠ 0x8000000000000000) ∧
    ((demo [va .a 0x8000000000000000, va .b (-1)]).Acts (demoCtx [va .a 0x8000000000000000, va .b (-1)]) .always ∧
      (demoCtx [va .a 0x8000000000000000, va .b (-1)]).av = 0x8000000000000000 ∧
      (demoCtx [va .a 0x8000000000000000, va .b (-1)]).bv = -1) :=
  ⟨⟨demo_acts _, by decide⟩, ⟨demo_acts _, by decide, by decide⟩, demo_acts _, by decide, by decide⟩
theorem wit_PredicatesAndCompares : (demo [va .a 1, va .b 2]).Acts (demoCtx [va .a 1, va .b 2]) .always := demo_acts _
theorem wit_ImmediatesAndMoves : (demo [va .a 1, stop .b 3]).Acts (demoCtx [va .a 1, stop .b 3]) .always ∧
    (demoCtx [va .a 1, stop .b 3]).a = some (Tok.val 1) ∧ (demoCtx [va .a 1, stop .b 3]).b = some (.data (DTok.stop 3)) :=
  ⟨demo_acts _, rfl, rfl⟩
theorem wit_ScalarBits : (demo [va .a 5]).Acts (demoCtx [va .a 5]) .always ∧ (63 : BitVec 6).toNat + (0 : BitVec 6).toNat + 1 ≤ 64 ∧
    (0 : BitVec 6).toNat + (63 : BitVec 6).toNat + 1 ≤ 64 := ⟨demo_acts _, by decide, by decide⟩

/-- A block execution whose slot 3 has fired an exit. -/
def exited (ops : List Operand) : Exec := { execOf ops with exit := some (3, .halt) }
theorem wit_Exits :
    ((demo [va .a 0]).Acts (demoCtx [va .a 0]) .always ∧ (demoCtx [va .a 0]).x.exit = none ∧
      (demo [va .a 0]).begun.exitInRange (demoCtx [va .a 0]) (demoCtx [va .a 0]).av = true) ∧
    ((demo [va .a 31]).Acts (demoCtx [va .a 31]) .always ∧ (demoCtx [va .a 31]).x.exit = none ∧
      (demo [va .a 31]).begun.exitInRange (demoCtx [va .a 31]) (demoCtx [va .a 31]).av = false) ∧
    ((tileState (tileOf (exited []))).Acts (ctxOf (tileOf (exited [])) (exited [])) .always ∧ (exited []).exit = some (3, .halt)) :=
  ⟨⟨demo_acts _, rfl, by decide⟩, ⟨demo_acts _, rfl, by decide⟩, ⟨rfl, rfl⟩, rfl⟩

/-- The demo state in a paddock without breakpoints. -/
def quiet (ops : List Operand) : State := { demo ops with paddocks := [{ demoPaddock with breakpoints := false }] }
theorem wit_TrapAndBreak :
    ((demo []).Acts (demoCtx []) .always ∧ (demo []).paddock? (demoCtx []).k.paddock = some demoPaddock ∧ demoPaddock.breakpoints = true) ∧
    ((quiet []).Acts (demoCtx []) .always ∧ (quiet []).paddock? (demoCtx []).k.paddock = some { demoPaddock with breakpoints := false }) :=
  ⟨⟨demo_acts _, rfl, rfl⟩, ⟨rfl, rfl⟩, rfl⟩
theorem wit_ControlRegisters : (demo [va .a 9]).Acts (demoCtx [va .a 9]) .always ∧ (0 : Nat) < 8 ∧ (7 : Nat) < 8 := ⟨demo_acts _, by decide, by decide⟩
theorem wit_ControlRegisterWrites : (demo [va .a (-1)]).Acts (demoCtx [va .a (-1)]) .always ∧
    (demoCtx [va .a (-1)]).task < (demoCtx [va .a (-1)]).t.tasks.length ∧ (demoCtx [va .a (-1)]).tsk.stalls.length = 8 ∧
    (demoCtx [va .a (-1)]).av = 0xFFFFFFFFFFFFFFFF ∧ (0x022 ∈ [0x020, 0x021, 0x022] ∨ 0x040 ≤ 0x022 ∧ 0x022 ≤ 0x047) ∧
    (0x047 ∈ [0x020, 0x021, 0x022] ∨ 0x040 ≤ 0x047 ∧ 0x047 ≤ 0x047) := ⟨demo_acts _, by decide, by decide, by decide, by decide, by decide⟩
theorem wit_SystemInstructions :
    ((demo []).Acts (demoCtx []) .always ∧ (demoCtx []).a = none ∧ (0 : BitVec 3).toNat = (demoCtx []).task ∧ (7 : BitVec 3).toNat ≠ (demoCtx []).task) ∧
    ((demo [va .a 9]).Acts (demoCtx [va .a 9]) .always ∧ (demoCtx [va .a 9]).a = some (Tok.val 9)) :=
  ⟨⟨demo_acts _, rfl, by decide, by decide⟩, demo_acts _, rfl⟩

/-! Witnesses: rows 0x4_ to 0x6_. -/

theorem wit_LaneWise : ((4 : Nat) = 4 ∧ 31 < 128 / 4) ∧ ((64 : Nat) = 64 ∧ 1 < 128 / 64) := by decide
/-- Three records at A, B and C. -/
def three : List Operand := [rec_ .a 0x3F8000003F800000, rec_ .b 0x40000000, rec_ .c 0x8100]
theorem three_records : (demoCtx three).Records false [.a, .b, .c] := records_of (by decide)
theorem wit_IntegerLanes :
    ((demo three).Acts (demoCtx three) .always ∧ (demoCtx three).Records false [.a, .b, .c] ∧ (demoCtx three).b ≠ none) ∧
    ((demo [rec_ .a 1]).Acts (demoCtx [rec_ .a 1]) .always ∧ (demoCtx [rec_ .a 1]).Records false [.a, .b, .c] ∧ (demoCtx [rec_ .a 1]).b = none) :=
  ⟨⟨demo_acts _, three_records, by decide⟩, demo_acts _, records_of (by decide), by decide⟩
theorem wit_FloatLanes : (demo three).Acts (demoCtx three) .always ∧ (demoCtx three).Records false [.a, .b, .c] ∧
    FF.ofCode ((demoCtx three).fmt 0) = some FF.fp32 ∧ FF.ofCode ((demoCtx three).fmt 3) = some FF.bf16 := ⟨demo_acts _, three_records, rfl, rfl⟩
theorem wit_FloatValues : FF.fp16 ∈ [FF.fp16, FF.bf16, FF.fp32] ∧ (0x7C00 : Nat) < 2 ^ FF.fp16.width ∧ (FF.fp16.read 0x7C00).isNan = false ∧
    (0xFFFFFFFF : Nat) < 2 ^ FF.fp32.width ∧ (FF.fp32.read 0xFF800000).isNan = false := by decide
theorem wit_LaneMoves :
    ((demo [va .a 5, rec_ .b 1]).Acts (demoCtx [va .a 5, rec_ .b 1]) .always ∧ (demoCtx [va .a 5, rec_ .b 1]).Records false [.a, .b, .c] ∧
      (demoCtx [va .a 5, rec_ .b 1]).a = some (.ctl (CTok.value 5))) ∧
    ((demo [rec_ .a 1, va .b 5]).Acts (demoCtx [rec_ .a 1, va .b 5]) .always ∧ (demoCtx [rec_ .a 1, va .b 5]).Records false [.a, .b, .c] ∧
      (demoCtx [rec_ .a 1, va .b 5]).a = some (.data (DTok.record 1 false)) ∧ (demoCtx [rec_ .a 1, va .b 5]).b = some (Tok.val 5)) :=
  ⟨⟨demo_acts _, records_of (by decide), rfl⟩, demo_acts _, records_of (by decide), rfl, rfl⟩
theorem wit_LaneConversions : (demo three).Acts (demoCtx three) .always ∧ (demoCtx three).Records false [.a, .c] :=
  ⟨demo_acts _, records_of (by decide)⟩
theorem wit_NonRecordsAndDomains :
    ((demo [stop .a 7, rec_ .b 1]).Acts (demoCtx [stop .a 7, rec_ .b 1]) .always ∧ (demoCtx [stop .a 7, rec_ .b 1]).a = some (.data (DTok.stop 7)) ∧
      (DTok.stop 7).isRecord = false ∧
      ∀ y : DTok, (demoCtx [stop .a 7, rec_ .b 1]).b = some (.data y) ∨ (demoCtx [stop .a 7, rec_ .b 1]).c = some (.data y) →
        y.isRecord = true → y.domain = false) ∧
    ((demo [rec1 .a 1]).Acts (demoCtx [rec1 .a 1]) .always ∧ (demoCtx [rec1 .a 1]).a = some (.data (DTok.record 1 true)) ∧
      (DTok.record 1 true).isRecord = true ∧ (DTok.record 1 true).domain = true) := by
  refine ⟨⟨demo_acts _, rfl, rfl, ?_⟩, demo_acts _, rfl, rfl, rfl⟩
  intro y hy _
  have hb : (demoCtx [stop .a 7, rec_ .b 1]).b = some (.data (DTok.record 1 false)) := rfl
  have hc : (demoCtx [stop .a 7, rec_ .b 1]).c = none := rfl
  rw [hb, hc] at hy
  rcases hy with h | h
  · cases h; rfl
  · cases h
/-- A void record and a record of DOMAIN 1 behind records of DOMAIN 0, at B and at C. -/
def void_ (p : Pos) : Operand := ⟨0, p, .data (DTok.void false false 0), 0⟩
theorem wit_NonRecordsAndDomains_later :
    ((DTok.record 1 false).isRecord = true ∧ (DTok.record 1 false).domain = false) ∧
    ((demo [rec_ .a 1, void_ .b]).Acts (demoCtx [rec_ .a 1, void_ .b]) .always ∧ (demoCtx [rec_ .a 1, void_ .b]).a = some (.data (DTok.record 1 false)) ∧
      (demoCtx [rec_ .a 1, void_ .b]).b = some (.data (DTok.void false false 0)) ∧ (DTok.void false false 0).isRecord = false ∧
      (demoCtx [rec_ .a 1, void_ .b]).c = none) ∧
    ((demo [rec_ .a 1, rec1 .b 2]).Acts (demoCtx [rec_ .a 1, rec1 .b 2]) .always ∧ (demoCtx [rec_ .a 1, rec1 .b 2]).a = some (.data (DTok.record 1 false)) ∧
      (demoCtx [rec_ .a 1, rec1 .b 2]).b = some (.data (DTok.record 2 true)) ∧ (DTok.record 2 true).isRecord = true ∧ (DTok.record 2 true).domain = true) ∧
    ((demo [rec_ .a 1, rec_ .b 1, void_ .c]).Acts (demoCtx [rec_ .a 1, rec_ .b 1, void_ .c]) .always ∧
      (demoCtx [rec_ .a 1, rec_ .b 1, void_ .c]).c = some (.data (DTok.void false false 0)) ∧
      (demoCtx [rec_ .a 1, rec_ .b 1, void_ .c]).b = some (.data (DTok.record 1 false))) ∧
    ((demo [rec_ .a 1, rec_ .b 1, rec1 .c 2]).Acts (demoCtx [rec_ .a 1, rec_ .b 1, rec1 .c 2]) .always ∧
      (demoCtx [rec_ .a 1, rec_ .b 1, rec1 .c 2]).c = some (.data (DTok.record 2 true))) ∧
    ((demo [rec_ .a 1, rec1 .b 3, rec1 .c 2]).Acts (demoCtx [rec_ .a 1, rec1 .b 3, rec1 .c 2]) .always ∧
      (demoCtx [rec_ .a 1, rec1 .b 3, rec1 .c 2]).a = some (.data (DTok.record 1 false)) ∧
      (demoCtx [rec_ .a 1, rec1 .b 3, rec1 .c 2]).c = some (.data (DTok.record 2 true))) :=
  ⟨⟨rfl, rfl⟩, ⟨demo_acts _, rfl, rfl, rfl, rfl⟩, ⟨demo_acts _, rfl, rfl, rfl, rfl⟩, ⟨demo_acts _, rfl, rfl⟩, ⟨demo_acts _, rfl⟩,
    demo_acts _, rfl, rfl⟩

/-! Witnesses: rows 0x7_ to 0x9_. A has no stop, B writes: `of_all` reads that off the context. -/

/-- The bytes of the last double word of the scratchpad, of its last granule, and the first addresses past them. -/
def last8 : List Operand := [va .a 0x17FF8]
def last16 : List Operand := [va .a 0x17FF0]
def past : List Operand := [va .a 0x18000]
def odd : List Operand := [va .a 0x17FF9]
/-- Four addresses in the lanes of A, the last of them the last byte of the scratchpad. -/
def gather : List Operand := [rec_ .a 0x00017FFF000000040000000800000000, rec_ .b 1]
theorem wit_ScratchpadIssues :
    ((demo last8).Acts (demoCtx last8) .always ∧ (∀ t : Tok, (demoCtx last8).a = some t → t.isStop = false) ∧
      ((demoCtx last8).av + (0 : BitVec 21).signExtend 64).toNat + 2 ^ (3 : BitVec 2).toNat = 0x18000 ∧
      ((demoCtx last8).av + (0 : BitVec 21).signExtend 64).toNat % 2 ^ (3 : BitVec 2).toNat = 0 ∧
      ∀ t : Tok, (demoCtx last8).b = some t → t.writesNothing = false) ∧
    ((demo last16).Acts (demoCtx last16) .always ∧ ((demoCtx last16).av + (0 : BitVec 21).signExtend 64).toNat + 16 = 0x18000 ∧
      ((demoCtx last16).av + (0 : BitVec 21).signExtend 64).toNat % 16 = 0) ∧
    ((demo gather).Acts (demoCtx gather) .always ∧ (∀ t : Tok, (demoCtx gather).a = some t → t.isStop = false) ∧
      (∀ t : Tok, (demoCtx gather).b = some t → t.writesNothing = false) ∧
      ∀ a ∈ (List.range 4).map fun j => (BitVec.ofNat 32 (lane 32 (demoCtx gather).ad.pay j) + (0 : BitVec 21).signExtend 32).toNat,
        a + 2 ^ (0 : BitVec 2).toNat ≤ 0x18000 ∧ a % 2 ^ (0 : BitVec 2).toNat = 0) ∧
    ((demo [va .a 0, cstop .b 1]).Acts (demoCtx [va .a 0, cstop .b 1]) .always ∧
      (demoCtx [va .a 0, cstop .b 1]).b = some (.ctl (CTok.stop 1)) ∧ (Tok.ctl (CTok.stop 1)).writesNothing = true) ∧
    ((demo past).Acts (demoCtx past) .always ∧ (∀ t : Tok, (demoCtx past).a = some t → t.isStop = false) ∧
      (∀ t : Tok, (demoCtx past).b = some t → t.writesNothing = false) ∧
      0x18000 < ((demoCtx past).av + (0 : BitVec 21).signExtend 64).toNat + 2 ^ (0 : BitVec 2).toNat) ∧
    ((demo odd).Acts (demoCtx odd) .always ∧ ((demoCtx odd).av + (0 : BitVec 21).signExtend 64).toNat % 2 ^ (1 : BitVec 2).toNat ≠ 0) :=
  ⟨⟨demo_acts _, of_all (by decide), by decide, by decide, of_all (by decide)⟩, ⟨demo_acts _, by decide, by decide⟩,
    ⟨demo_acts _, of_all (by decide), of_all (by decide), by decide⟩, ⟨demo_acts _, rfl, rfl⟩,
    ⟨demo_acts _, of_all (by decide), of_all (by decide), by decide⟩, demo_acts _, by decide⟩
theorem wit_StopPassesMemory : (demo [cstop .a 7]).Acts (demoCtx [cstop .a 7]) .always ∧
    (demoCtx [cstop .a 7]).a = some (.ctl (CTok.stop 7)) ∧ (Tok.ctl (CTok.stop 7)).isStop = true := ⟨demo_acts _, rfl, rfl⟩
theorem wit_KeepsAndAccumulators :
    ((demo [rec_ .a 1]).Acts (demoCtx [rec_ .a 1]) .always ∧ (demo [rec_ .a 1]).begun.ocPoisoned 1 0 3 (16 * 63) 16 = false ∧
      (demoCtx [rec_ .a 1]).a = some (.data (DTok.record 1 false)) ∧ (DTok.record 1 false).isRecord = true) ∧
    ((demo [stop .a 1]).Acts (demoCtx [stop .a 1]) .always ∧ (demoCtx [stop .a 1]).a = some (.data (DTok.stop 1)) ∧ (DTok.stop 1).isRecord = false) ∧
    ((demo [va .a 0x17FF8, va .b 1]).Acts (demoCtx [va .a 0x17FF8, va .b 1]) .always ∧
      ((demoCtx [va .a 0x17FF8, va .b 1]).av + (0 : BitVec 21).signExtend 64).toNat + 8 ≤ 0x18000 ∧
      ((demoCtx [va .a 0x17FF8, va .b 1]).av + (0 : BitVec 21).signExtend 64).toNat % 8 = 0 ∧ (demoCtx [va .a 0x17FF8, va .b 1]).bv ≠ 0) ∧
    ((demo last8).Acts (demoCtx last8) .always ∧ (demoCtx last8).bv = 0) ∧
    ((demo past).Acts (demoCtx past) .always ∧ 0x18000 < ((demoCtx past).av + (0 : BitVec 21).signExtend 64).toNat + 8) ∧
    ((demo odd).Acts (demoCtx odd) .always ∧ ((demoCtx odd).av + (0 : BitVec 21).signExtend 64).toNat % 8 ≠ 0) :=
  ⟨⟨demo_acts _, by decide, rfl, rfl⟩, ⟨demo_acts _, rfl, rfl⟩, ⟨demo_acts _, by decide, by decide, by decide⟩, ⟨demo_acts _, by decide⟩,
    ⟨demo_acts _, by decide⟩, demo_acts _, by decide⟩

/-- The last double word and granule of a VA space of 48 bits, the first address of no form, and a misaligned one. -/
def gTop : List Operand := [va .a 0xFFFFFFFFFFF0]
def gBad : List Operand := [va .a 0x1000000000000]
def gOdd : List Operand := [va .a 0xFFFFFFFFFFF1]
theorem wit_GlobalIssues :
    ((demo gTop).Acts (demoCtx gTop) .always ∧ (∀ t : Tok, (demoCtx gTop).a = some t → t.isStop = false) ∧
      (∀ t : Tok, (demoCtx gTop).b = some t → t.writesNothing = false) ∧
      (demoCtx gTop).k.eaBad ((demoCtx gTop).av + (0 : BitVec 21).signExtend 64) (2 ^ (3 : BitVec 2).toNat) = false ∧
      (demoCtx gTop).k.eaBad ((demoCtx gTop).av + (0 : BitVec 21).signExtend 64) 16 = false ∧
      ((demoCtx gTop).av + (0 : BitVec 21).signExtend 64).toNat % 16 = 0) ∧
    ((demo gBad).Acts (demoCtx gBad) .always ∧ (∀ t : Tok, (demoCtx gBad).a = some t → t.isStop = false) ∧
      (demoCtx gBad).k.eaBad ((demoCtx gBad).av + (0 : BitVec 21).signExtend 64) (2 ^ (0 : BitVec 2).toNat) = true) ∧
    ((demo gOdd).Acts (demoCtx gOdd) .always ∧ (∀ t : Tok, (demoCtx gOdd).a = some t → t.isStop = false) ∧
      (demoCtx gOdd).k.eaBad ((demoCtx gOdd).av + (0 : BitVec 21).signExtend 64) 16 = false ∧
      ((demoCtx gOdd).av + (0 : BitVec 21).signExtend 64).toNat % 16 ≠ 0) :=
  ⟨⟨demo_acts _, of_all (by decide), of_all (by decide), by decide, by decide, by decide⟩,
    ⟨demo_acts _, of_all (by decide), by decide⟩, demo_acts _, of_all (by decide), by decide, by decide⟩
theorem wit_GlobalIssues_form :
    (demoCtx gBad).k.eaBad ((demoCtx gBad).av + (0 : BitVec 21).signExtend 64) 16 = true ∧
    (∀ t : Tok, (demoCtx gBad).b = some t → t.writesNothing = false) := ⟨by decide, of_all (by decide)⟩
theorem wit_GlobalIssues_void :
    (demo [va .a 1, void_ .b]).Acts (demoCtx [va .a 1, void_ .b]) .always ∧ (∀ t : Tok, (demoCtx [va .a 1, void_ .b]).a = some t → t.isStop = false) ∧
    (demoCtx [va .a 1, void_ .b]).b = some (.data (DTok.void false false 0)) ∧ Tok.writesNothing (.data (DTok.void false false 0)) = true :=
  ⟨demo_acts _, of_all (by decide), rfl, rfl⟩
/-- The third lane address alone is bad: it lies at the scratchpad's end. -/
def badLane : List Operand := [rec_ .a 0x00000000000180000000000400000002, rec_ .b 1]
theorem wit_ScratchpadIssues_lanes :
    (demo badLane).Acts (demoCtx badLane) .always ∧ (∀ t : Tok, (demoCtx badLane).a = some t → t.isStop = false) ∧
    (∀ t : Tok, (demoCtx badLane).b = some t → t.writesNothing = false) ∧
    ((List.range 4).map fun j => (BitVec.ofNat 32 (lane 32 (demoCtx badLane).ad.pay j) + (0 : BitVec 21).signExtend 32).toNat) =
      [2, 4] ++ 0x18000 :: [0] ∧
    (∀ x ∈ [2, 4], x + 2 ^ (1 : BitVec 2).toNat ≤ 0x18000 ∧ x % 2 ^ (1 : BitVec 2).toNat = 0) ∧ 0x18000 < 0x18000 + 2 ^ (1 : BitVec 2).toNat :=
  ⟨demo_acts _, of_all (by decide), of_all (by decide), by decide, by decide, by decide⟩
/-- The demo state with keep 63 poisoned. -/
def badKeep : State := { demo [] with
  poison := [(demoCtx []).k.pa 0 3 (16 * 63) / 16], units := [⟨(demoCtx []).k.pa 0 3 0, 0, 1, true⟩] }
theorem wit_KeepsAndAccumulators_poison : badKeep.Acts (demoCtx []) .always ∧ badKeep.begun.ocPoisoned 1 0 3 (16 * 63) 16 = true :=
  ⟨⟨rfl, rfl⟩, by decide⟩
theorem wit_AtomicIssues_form :
    ((demo gBad).Acts (demoCtx gBad) .always ∧ (∀ t : Tok, (demoCtx gBad).a = some t → t.isStop = false) ∧
      (demoCtx gBad).k.eaBad ((demoCtx gBad).av + (0 : BitVec 21).signExtend 64) (2 ^ (3 : BitVec 2).toNat) = true ∧
      (demoCtx gBad).k.eaBad ((demoCtx gBad).av + (0 : BitVec 21).signExtend 64) 4 = true) ∧
    ((demoCtx gTop).k.eaBad ((demoCtx gTop).av + (0 : BitVec 21).signExtend 64) 8 = false ∧
      ((demoCtx gTop).av + (0 : BitVec 21).signExtend 64).toNat % 8 = 0) ∧
    ((demoCtx gOdd).k.eaBad ((demoCtx gOdd).av + (0 : BitVec 21).signExtend 64) 8 = false ∧
      ((demoCtx gOdd).av + (0 : BitVec 21).signExtend 64).toNat % 8 ≠ 0) :=
  ⟨⟨demo_acts _, of_all (by decide), by decide, by decide⟩, ⟨by decide, by decide⟩, by decide, by decide⟩
theorem wit_QueueAndCounterIssues_refused :
    (demo [va .a 256]).Acts (demoCtx [va .a 256]) .always ∧ (demo [va .a 256]).begun.queueCause 0 (demoCtx [va .a 256]).av none true = some 0x08 ∧
    (demo [va .a 256]).begun.queueCause 0 (demoCtx [va .a 256]).av (some false) false = some 0x08 := ⟨demo_acts _, by decide, by decide⟩
theorem wit_AtomicIssues :
    ((demo gTop).Acts (demoCtx gTop) .always ∧ (∀ t : Tok, (demoCtx gTop).a = some t → t.isStop = false) ∧
      (demoCtx gTop).k.eaBad ((demoCtx gTop).av + (0 : BitVec 21).signExtend 64) (2 ^ (3 : BitVec 2).toNat) = false ∧
      ((demoCtx gTop).av + (0 : BitVec 21).signExtend 64).toNat % 2 ^ (3 : BitVec 2).toNat = 0 ∧
      (demoCtx gTop).k.eaBad ((demoCtx gTop).av + (0 : BitVec 21).signExtend 64) 4 = false) ∧
    ((demo gOdd).Acts (demoCtx gOdd) .always ∧ (∀ t : Tok, (demoCtx gOdd).a = some t → t.isStop = false) ∧
      (demoCtx gOdd).k.eaBad ((demoCtx gOdd).av + (0 : BitVec 21).signExtend 64) (2 ^ (2 : BitVec 2).toNat) = false ∧
      ((demoCtx gOdd).av + (0 : BitVec 21).signExtend 64).toNat % 2 ^ (2 : BitVec 2).toNat ≠ 0) :=
  ⟨⟨demo_acts _, of_all (by decide), by decide, by decide, by decide⟩, demo_acts _, of_all (by decide), by decide, by decide⟩
/-- Bell 0 has no entry yet, bell 1 one of its two. -/
theorem wit_SynchronisationIssues : (demo []).Acts (demoCtx []) .always ∧
    (∃ x : BellSt, (demoCtx []).k.bells[0]? = some x ∧ x.tally + 1 ≠ x.count) ∧ (∃ x : BellSt, (demoCtx []).k.bells[1]? = some x ∧ x.tally + 1 = x.count) :=
  ⟨demo_acts _, ⟨_, rfl, by decide⟩, _, rfl, by decide⟩
/-- Queue 0 holds launches, queue 255 records; counter ids end at 4,095. -/
theorem wit_QueueAndCounterIssues :
    ((demo [va .a 255]).Acts (demoCtx [va .a 255]) .always ∧ (demo [va .a 255]).begun.queueCause 0 (demoCtx [va .a 255]).av (some true) false = none ∧
      (demo [va .a 255]).begun.queueCause 0 (demoCtx [va .a 255]).av none true = none) ∧
    ((demo [va .a 0]).Acts (demoCtx [va .a 0]) .always ∧ (demo [va .a 0]).begun.queueCause 0 (demoCtx [va .a 0]).av (some false) false = none ∧
      (demo [va .a 0]).begun.queueCause 0 (demoCtx [va .a 0]).av (some true) false = some 0x08) ∧
    ((demo [va .a 4095]).Acts (demoCtx [va .a 4095]) .always ∧ (demoCtx [va .a 4095]).av.toNat < 4096) ∧
    ((demo [va .a 4096]).Acts (demoCtx [va .a 4096]) .always ∧ 4096 ≤ (demoCtx [va .a 4096]).av.toNat) :=
  ⟨⟨demo_acts _, by decide, by decide⟩, ⟨demo_acts _, by decide, by decide⟩, ⟨demo_acts _, by decide⟩, demo_acts _, by decide⟩

/-! Witnesses: rows 0xA_ to 0xD_. -/

/-- The tile of the demo state with OUT of ITGATE slot 0 set. -/
def gated (ops : List Operand) : TileSt := (tileOf (execOf ops)).setTask 0 { TaskSt.blank with stat := .active, gates := [(0, 0)] }
theorem wit_StreamIssues :
    ((demo [va .a 3, va .b 1]).Acts (demoCtx [va .a 3, va .b 1]) .always ∧ (demoCtx [va .a 3, va .b 1]).b ≠ none ∧
      (demoCtx [va .a 3, va .b 1]).a = some (Tok.val 3) ∧ (demo [va .a 3, va .b 1]).wlog = []) ∧
    ((demo [va .a 3]).Acts (demoCtx [va .a 3]) .always ∧ (demoCtx [va .a 3]).b = none ∧ (demoCtx [va .a 3]).a = some (.ctl (CTok.value 3)) ∧
      (CTok.value 3).isStop = false ∧ (demoCtx [va .a 3]).tsk.gates.contains (0, 0) = false) ∧
    ((demo [cstop .a 6]).Acts (demoCtx [cstop .a 6]) .always ∧ (demoCtx [cstop .a 6]).a = some (.ctl (CTok.stop 6)) ∧ (CTok.stop 6).isStop = true ∧
      ((CTok.stop 6).isStop && decide ((7 : BitVec 3) ≤ (CTok.stop 6).level)) = false ∧
      ((CTok.stop 6).isStop && decide ((6 : BitVec 3) ≤ (CTok.stop 6).level)) = true) ∧
    ((tileState (gated [va .a 3])).Acts (ctxOf (gated [va .a 3]) (execOf [va .a 3])) .always ∧
      (ctxOf (gated [va .a 3]) (execOf [va .a 3])).tsk.gates.contains (0, 0) = true) :=
  ⟨⟨demo_acts _, by decide, rfl, rfl⟩, ⟨demo_acts _, by decide, rfl, rfl, by decide⟩,
    ⟨demo_acts _, rfl, rfl, by decide, by decide⟩, ⟨rfl, rfl⟩, by decide⟩
theorem wit_GeneratedStreams : (0 : Nat) < 1 := by decide
theorem wit_SidebandInstructions :
    ((demo [rec_ .a 1, va .b 65536]).Acts (demoCtx [rec_ .a 1, va .b 65536]) .always ∧
      (demoCtx [rec_ .a 1, va .b 65536]).a = some (.data (DTok.record 1 false)) ∧ (DTok.record 1 false).kind = 0) ∧
    ((demo [⟨0, .a, .data (DTok.gap ⟨1, 2, 3, 4⟩), 0⟩]).Acts (demoCtx [⟨0, .a, .data (DTok.gap ⟨1, 2, 3, 4⟩), 0⟩]) .always ∧
      (demoCtx [⟨0, .a, .data (DTok.gap ⟨1, 2, 3, 4⟩), 0⟩]).a = some (.data (DTok.gap ⟨1, 2, 3, 4⟩)) ∧ (DTok.gap ⟨1, 2, 3, 4⟩).kind ≠ 0) :=
  ⟨⟨demo_acts _, rfl, rfl⟩, demo_acts _, rfl, by decide⟩
theorem wit_SequenceOrder : seqBefore (0x7FFFFF : BitVec 23).toNat (0 : BitVec 23).toNat = true ∧
    (0x7FFFFF : BitVec 23) ≠ 0 ∧ ((0 : BitVec 23) - 0x7FFFFF).toNat ≠ 2 ^ 22 := by decide
theorem wit_WindowIssues : (demo [rec_ .a 1]).Acts (demoCtx [rec_ .a 1]) .always := demo_acts _
/-- A bank that WLD has filled in BF16 is the pair of format slot 3, not of slot 0. -/
theorem wit_MacIssues :
    ((demo [va .a 0x16000]).Acts (demoCtx [va .a 0x16000]) .always ∧ (demoCtx [va .a 0x16000]).av.toNat % 16 = 0 ∧
      (demoCtx [va .a 0x16000]).av.toNat + 16 * ((wldTakes 6).1 + (wldTakes 6).2) ≤ 0x18000) ∧
    ((demo [va .a 0x16010]).Acts (demoCtx [va .a 0x16010]) .always ∧
      ¬ ((demoCtx [va .a 0x16010]).av.toNat % 16 = 0 ∧ (demoCtx [va .a 0x16010]).av.toNat + 16 * ((wldTakes 6).1 + (wldTakes 6).2) ≤ 0x18000)) ∧
    ((demo [va .a 0x17F80]).Acts (demoCtx [va .a 0x17F80]) .always ∧ (∀ t : Tok, (demoCtx [va .a 0x17F80]).a = some t → t.isStop = false) ∧
      ((demoCtx [va .a 0x17F80]).av + (0 : BitVec 16).signExtend 64).toNat % 16 = 0 ∧
      ((demoCtx [va .a 0x17F80]).av + (0 : BitVec 16).signExtend 64).toNat + 16 * (arowTiming 6).1 ≤ 0x18000 ∧
      (demoCtx [va .a 0x17F80]).fmt 3 = 6 ∧ ((demoCtx [va .a 0x17F80]).t.bankOf (demoCtx [va .a 0x17F80]).t.bankAt).2 = false ∧
      arowPair ((demoCtx [va .a 0x17F80]).fmt 3) ((demoCtx [va .a 0x17F80]).t.bankOf (demoCtx [va .a 0x17F80]).t.bankAt).1 = true ∧
      arowPair ((demoCtx [va .a 0x17F80]).fmt 0) ((demoCtx [va .a 0x17F80]).t.bankOf (demoCtx [va .a 0x17F80]).t.bankAt).1 = false) ∧
    ((demo [va .a 0x17F90]).Acts (demoCtx [va .a 0x17F90]) .always ∧
      ¬ (((demoCtx [va .a 0x17F90]).av + (0 : BitVec 16).signExtend 64).toNat % 16 = 0 ∧
        ((demoCtx [va .a 0x17F90]).av + (0 : BitVec 16).signExtend 64).toNat + 16 * (arowTiming 6).1 ≤ 0x18000)) ∧
    ((demo [cstop .a 7]).Acts (demoCtx [cstop .a 7]) .always ∧ (demoCtx [cstop .a 7]).a = some (.ctl (CTok.stop 7)) ∧
      Tok.isStop (.ctl (CTok.stop 7)) = true) :=
  ⟨⟨demo_acts _, by decide, by decide⟩, ⟨demo_acts _, by decide⟩,
    ⟨demo_acts _, of_all (by decide), by decide, by decide, by decide, by decide, by decide, by decide⟩, ⟨demo_acts _, by decide⟩,
    demo_acts _, rfl, rfl⟩
/-- A descriptor whose only bins lie in the stores, and one whose operator lies at the end of its store. -/
theorem wit_SpectralIssues :
    ((demo [va .a 0, va .b 0x100]).Acts (demoCtx [va .a 0, va .b 0x100]) .always ∧
      ((demoCtx [va .a 0, va .b 0x100]).av.toNat % 16 = 0 ∧ (demoCtx [va .a 0, va .b 0x100]).av.toNat + (stuSizes false 16 7 0).1 ≤ 0x18000) ∧
      ((demoCtx [va .a 0, va .b 0x100]).bv.toNat % 16 = 0 ∧ (demoCtx [va .a 0, va .b 0x100]).bv.toNat + (stuSizes false 16 7 0).2 ≤ 0x18000) ∧
      (demoCtx [va .a 0, va .b 0x100]).bv.toNat + (stuSizes true 16 7 0).2 ≤ 0x18000) ∧
    ((demo [rec1 .a 1, va .b 0]).Acts (demoCtx [rec1 .a 1, va .b 0]) .always ∧ (demoCtx [rec1 .a 1, va .b 0]).a = some (.data (DTok.record 1 true)) ∧
      (∀ e ∈ cmacBins ((demoCtx [rec1 .a 1, va .b 0]).fmt 0) (demoCtx [rec1 .a 1, va .b 0]).bv,
        e.2.1 + binBytes ((demoCtx [rec1 .a 1, va .b 0]).fmt 0) ≤ 0x30000 ∧ e.2.2 + 8 ≤ 0x4000) ∧
      (demoCtx [rec1 .a 1, va .b 0]).Records true [.a]) ∧
    ((demo [rec1 .a 1, va .b 0x3FFFF00]).Acts (demoCtx [rec1 .a 1, va .b 0x3FFFF00]) .always ∧
      ∃ e ∈ cmacBins ((demoCtx [rec1 .a 1, va .b 0x3FFFF00]).fmt 0) (demoCtx [rec1 .a 1, va .b 0x3FFFF00]).bv,
        0x30000 < e.2.1 + binBytes ((demoCtx [rec1 .a 1, va .b 0x3FFFF00]).fmt 0) ∨ 0x4000 < e.2.2 + 8) ∧
    ((demo [rec_ .a 1]).Acts (demoCtx [rec_ .a 1]) .always ∧ (demoCtx [rec_ .a 1]).a = some (.data (DTok.record 1 false)) ∧
      (DTok.record 1 false).kind = 0 ∧ (DTok.record 1 false).domain = false) ∧
    (demoCtx [rec1 .a 1, rec1 .b 2]).Records true [.a, .b] :=
  ⟨⟨demo_acts _, by decide, by decide, by decide⟩, ⟨demo_acts _, rfl, by decide, records_of (by decide)⟩, ⟨demo_acts _, by decide⟩,
    ⟨demo_acts _, rfl, rfl, rfl⟩, records_of (by decide)⟩
/-- A source that ends at the scratchpad's end and one that reaches beyond it, with a misaligned destination; non-records and records of
DOMAIN 0 at A and at B. -/
theorem wit_SpectralIssues_stops :
    ((demo [va .a 0x17FD0, va .b 8]).Acts (demoCtx [va .a 0x17FD0, va .b 8]) .always ∧
      ¬ ((demoCtx [va .a 0x17FD0, va .b 8]).av.toNat % 16 = 0 ∧ (demoCtx [va .a 0x17FD0, va .b 8]).av.toNat + (stuSizes false 16 7 0).1 ≤ 0x18000)) ∧
    ((demo [va .a 0x17FC0, va .b 8]).Acts (demoCtx [va .a 0x17FC0, va .b 8]) .always ∧
      ((demoCtx [va .a 0x17FC0, va .b 8]).av.toNat % 16 = 0 ∧ (demoCtx [va .a 0x17FC0, va .b 8]).av.toNat + (stuSizes false 16 7 0).1 ≤ 0x18000) ∧
      ¬ ((demoCtx [va .a 0x17FC0, va .b 8]).bv.toNat % 16 = 0 ∧ (demoCtx [va .a 0x17FC0, va .b 8]).bv.toNat + (stuSizes false 16 7 0).2 ≤ 0x18000)) ∧
    ((demo [stop .a 7, rec1 .b 1]).Acts (demoCtx [stop .a 7, rec1 .b 1]) .always ∧ (demoCtx [stop .a 7, rec1 .b 1]).a = some (.data (DTok.stop 7)) ∧
      (DTok.stop 7).kind = 1 ∧ (demoCtx [stop .a 7, rec1 .b 1]).b = some (.data (DTok.record 1 true)) ∧ (DTok.record 1 true).domain = true) ∧
    ((demo [void_ .a]).Acts (demoCtx [void_ .a]) .always ∧ (demoCtx [void_ .a]).a = some (.data (DTok.void false false 0)) ∧
      (DTok.void false false 0).kind ≠ 0 ∧ (DTok.void false false 0).kind ≠ 1) ∧
    ((demo [rec1 .a 1, rec_ .b 2]).Acts (demoCtx [rec1 .a 1, rec_ .b 2]) .always ∧ (demoCtx [rec1 .a 1, rec_ .b 2]).a = some (.data (DTok.record 1 true)) ∧
      (demoCtx [rec1 .a 1, rec_ .b 2]).b = some (.data (DTok.record 2 false)) ∧ (DTok.record 2 false).kind = 0 ∧ (DTok.record 2 false).domain = false) ∧
    ((demo [rec1 .a 1, void_ .b]).Acts (demoCtx [rec1 .a 1, void_ .b]) .always ∧ (demoCtx [rec1 .a 1, void_ .b]).a = some (.data (DTok.record 1 true)) ∧
      (demoCtx [rec1 .a 1, void_ .b]).b = some (.data (DTok.void false false 0))) :=
  ⟨⟨demo_acts _, by decide⟩, ⟨demo_acts _, by decide, by decide⟩, ⟨demo_acts _, rfl, rfl, rfl, rfl⟩, ⟨demo_acts _, rfl, by decide, by decide⟩,
    ⟨demo_acts _, rfl, rfl, rfl, rfl⟩, demo_acts _, rfl, rfl⟩
/-- A packet of one row of 32,768 bytes, and one of no row. -/
theorem wit_EngineRequests : (demo []).Acts (demoCtx []) .always ∧
    (let ops := [rec_ .a 0, rec_ .b 0x00018000]
     pktBad ((demoCtx ops).bd.pay ++ (demoCtx ops).ad.pay) = none) ∧
    pktBad ((demoCtx []).bd.pay ++ (demoCtx []).ad.pay) = some 9 := ⟨demo_acts _, by decide, by decide⟩
theorem wit_NullifiedInstructions :
    ((demo []).Nulls (demoCtx []) .ifNonzero) ∧ ((demo [va .p 1]).Nulls (demoCtx [va .p 1]) .ifZero) := ⟨⟨rfl, rfl⟩, rfl, rfl⟩

/-! A paddock in which VA, IA and PA of the first 2 MiB agree: table entries at 0x1000 and 0x2000, a 2 MiB leaf at 0x3000 with
READ, WRITE, ACCESSED and DIRTY, one fixed range. Handles 0 and 1 of one FP32 element stand at 0x4000, 1 with a glaze; a LOWRANK
descriptor at 0x6000, a fold descriptor of zeros at 0x6100, a snapshot's first record at 0x7000. -/

def mappedPaddock : Paddock := { demoPaddock with root := 0x1000, handles := 0x4000, ranges := [(0, 0x3C0000000000000)] }
def mappedMem : List Host.Cell :=
  [(0x1000, 0x01), (0x1001, 0x20), (0x2000, 0x01), (0x2001, 0x30), (0x3000, 0x8F), (0x3001, 0x01),
   (0x4006, 7), (0x4008, 1), (0x400C, 1), (0x4010, 1), (0x4014, 1),
   (0x4106, 7), (0x4107, 1), (0x4108, 1), (0x410C, 1), (0x4110, 1), (0x4114, 1),
   (0x6006, 1), (0x6014, 1), (0x6016, 1),
   (0x7000, 0x4E), (0x7001, 0x4B), (0x7002, 0x50), (0x7003, 0x53), (0x7005, 1), (0x7008, 1), (0x7010, 1)]
/-- The mapped paddock beside a kiln, with a charge, a drove list with `g` in its registers, and a cursor. -/
def listOf (g : List Word) (e : Option (List Word)) : DList := { DList.start 1 0 (.charge 0) g [] with entry := e }
def mapped (cur : Cursor) (g : List Word) (e : Option (List Word)) : State :=
  { State.reset with
    mem := mappedMem, paddocks := [mappedPaddock], kilns := [State.reset.bareKiln], cursor := cur
    charges := [⟨1, 0, false, Image.ofList 0⟩], drovers := [⟨0, 0, some (listOf g e), []⟩] }
def listState (g : List Word) (e : Option (List Word)) : State := mapped (.die 0 0 0) g e
def listCtx (g : List Word) (e : Option (List Word)) : DCtx := ⟨0, 0, listOf g e, State.reset.bareKiln⟩

/-- An engine's access that comes to a value. -/
def Eng.done {α : Type} : Eng α → Bool
  | .ok _ _ => true
  | _ => false
theorem ok_of {α : Type} {e : Eng α} (h : Eng.done e = true) : ∃ (a : α) (t : State), e = .ok a t := by
  cases e with
  | ok a t => exact ⟨a, t, rfl⟩
  | _ => cases h

theorem wit_DroverCommands : (listState [5] none).curDrover = some (listCtx [5] none) ∧ (0 : BitVec 1) ≠ 1 ∧
    (0 : Word) ≤ (listState [5] none).begun.counter 0 (4095 : BitVec 12).toNat ∧
    (listCtx [5] none).l.g.getD (15 : BitVec 4).toNat 0 ≤ (listState [5] none).begun.counter 0 (0 : BitVec 12).toNat ∧
    (listState [5] none).begun.counter 0 (0 : BitVec 12).toNat < (1 : Word) ∧
    (listState [5] none).begun.counter 0 (0 : BitVec 12).toNat < (listCtx [5] none).l.g.getD (0 : BitVec 4).toNat 0 :=
  ⟨rfl, by decide, by decide, by decide, by decide, by decide⟩
/-- G0 names handle 0, G1 the fold descriptor. -/
theorem wit_DroverTransfers :
    ((listState [0, 0x6100] none).curDrover = some (listCtx [0, 0x6100] none) ∧ (listCtx [0, 0x6100] none).l.entry = none ∧
      (∃ (e : List Word) (t : State), (listState [0, 0x6100] none).begun.captureEntry ((listCtx [0, 0x6100] none).agent 0x0C)
        ((listCtx [0, 0x6100] none).l.g.getD 0 0) = .ok e t) ∧
      (∃ (u : Unit) (t : State), (listState [0, 0x6100] none).begun.foldStart ((listCtx [0, 0x6100] none).agent 0x12)
        ((listCtx [0, 0x6100] none).l.g.getD 0 0) ((listCtx [0, 0x6100] none).l.g.getD 1 0) = .ok u t)) ∧
    ((listState [] (some [])).curDrover = some (listCtx [] (some [])) ∧ (listCtx [] (some [])).l.entry = some []) :=
  ⟨⟨rfl, rfl, ok_of (by decide +kernel), ok_of (by decide +kernel)⟩, rfl, rfl⟩
/-- A walk of 2 elements by 1, both within and beyond the extent. -/
theorem wit_WalkAddresses :
    let d : PatDim := ⟨-1, 2, 4, 16, false⟩
    (0 < d.count ∧ 1 < d.count) ∧ ¬ (0 ≤ d.start + (0 : Nat) ∧ d.start + (0 : Nat) < d.extent) ∧
    (0 ≤ d.start + (1 : Nat) ∧ d.start + (1 : Nat) < d.extent) := by decide

/-! Witnesses: host commands. `cmd p ws` is an entry for paddock `p` with words 1 to 7. -/

def cmd (p : Word) (w1 w2 w3 : Word) : Rec8 := ⟨p * 0x100000000, w1, w2, w3, 0, 0, 0, 0⟩
/-- The mapped paddock with a launch queue 0 and a record queue 255, and the command under way. -/
def cmdState (e : Rec8) : State :=
  { mapped (.command e) [] none with
    queues := [QueueSt.fresh 0 false 0 0 0 0x10000 64, QueueSt.fresh 255 true 0 0 0 0x20000 64] }

theorem wit_CommandForms :
    ((cmdState ⟨0, 0, 0, 0, 0, 0, 0, 0x10000⟩).cursor = .command ⟨0, 0, 0, 0, 0, 0, 0, 0x10000⟩ ∧ formOk ⟨0, 0, 0, 0, 0, 0, 0, 0x10000⟩ createMasks = false ∧
      formOk ⟨0, 0, 0, 0, 0, 0, 0, 0x10000⟩ [] = false) ∧
    ((cmdState (cmd 15 0 0 0)).cursor = .command (cmd 15 0 0 0) ∧ (cmdState (cmd 15 0 0 0)).paddock? (fld (cmd 15 0 0 0).w0.toNat 32 4) = none) ∧
    (StateInv { cmdState (cmd 0 0 0 0) with cplTail := 62, cplHead := 65535 } ∧ (62 + 2 ^ 16 - 65535) % 2 ^ 16 < 2 ^ 6) :=
  ⟨⟨rfl, by decide, by decide⟩, ⟨rfl, by decide⟩, ⟨by decide, rfl⟩, by decide⟩

/-- PADDOCK_CREATE with the shortest quantum and one save slot; beside paddock 0, and where all 16 exist. -/
def createCmd : Rec8 := ⟨0, 0x1000, 0x100, 10, 0, 0, 0x100000000, 0⟩
def fullState : State := { cmdState createCmd with paddocks := (List.range 16).map fun i => { demoPaddock with index := i } }
theorem wit_PaddockCommands_create :
    formOk createCmd createMasks = true ∧ createOk createCmd = true ∧
    ((cmdState createCmd).cursor = .command createCmd ∧ 1 < 16 ∧ (cmdState createCmd).paddock? 1 = none ∧
      ∀ j : Nat, j < 1 → (cmdState createCmd).paddock? j ≠ none) ∧
    (fullState.cursor = .command createCmd ∧ ∀ i : Nat, i < 16 → fullState.paddock? i ≠ none) :=
  ⟨by decide, by decide, ⟨rfl, by decide, by decide, by decide⟩, rfl, by decide⟩
theorem wit_PaddockCommands_package :
    (formOk (cmd 0 1 0 0) [1] = true ∧ formOk (cmd 0 300 0 0) [lowBits 10, m64, m64, m64, m64] = true) ∧
    (300 ≤ (cmd 0 300 0 0).w1.toNat ∧ (cmd 0 300 0 0).w1.toNat ≤ 800) ∧ (300 ≤ (cmd 0 800 0 0).w1.toNat ∧ (cmd 0 800 0 0).w1.toNat ≤ 800) := by decide
theorem wit_PaddockCommands_owned :
    ((cmdState (cmd 0 0 0 0)).cursor = .command (cmd 0 0 0 0) ∧ (cmdState (cmd 0 0 0 0)).paddock? (cmdPaddock (cmd 0 0 0 0)) = some mappedPaddock) ∧
    formOk (cmd 0 0 0 0) [] = true ∧ formOk (cmd 0 1 0 0) [1] = true ∧ formOk (cmd 0 0xFFFFFFFFFF 0 0) [lowBits 40] = true ∧
    formOk (cmd 0 3 0 0) [3] = true ∧ formOk (cmd 0 4095 (-1) 0) [lowBits 12, m64] = true ∧ formOk (cmd 0 4095 0 0) [lowBits 12] = true :=
  ⟨⟨rfl, rfl⟩, by decide, by decide, by decide, by decide, by decide, by decide⟩
/-- QUEUE_CREATE of queue 1 with the smallest and the largest ring, and of queue 255, which exists. -/
theorem wit_PaddockCommands_queues :
    (formOk (cmd 0 1 64 64) [lowBits 14, lowBits 48, lowBits 17] = true ∧ (cmd 0 1 64 64).w2.toNat % 64 = 0 ∧ 64 ≤ (cmd 0 1 64 64).w3.toNat ∧
      (cmd 0 1 64 65536).w3.toNat ≤ 65536 ∧ formOk (cmd 0 1 64 65536) [lowBits 14, lowBits 48, lowBits 17] = true ∧
      (cmdState (cmd 0 1 64 64)).queue? (fld (cmd 0 1 64 64).w1.toNat 0 8) = none) ∧
    (cmdState (cmd 0 255 64 64)).queue? (fld (cmd 0 255 64 64).w1.toNat 0 8) ≠ none ∧
    (∃ x : QueueSt, formOk (cmd 0 255 0 0) [lowBits 9] = true ∧ (cmdState (cmd 0 255 0 0)).queue? (fld (cmd 0 255 0 0).w1.toNat 0 8) = some x ∧
      x.paddock = mappedPaddock.index ∧ x.closed = false) ∧
    (formOk (cmd 0 255 64 0) [lowBits 8, m64, 0xF1F] = true ∧ (cmd 0 255 64 0).w2.toNat % 64 = 0 ∧ (cmd 0 255 64 0).w3 = 0) ∧
    (formOk (cmd 0 255 64 0xF1F) [lowBits 8, m64, 0xF1F] = true ∧ (cmd 0 255 64 0xF1F).w3.getLsbD 4 = true) :=
  ⟨by decide, by decide, ⟨_, by decide, rfl, rfl, rfl⟩, by decide, by decide⟩
/-- MAP of an entry that is not valid, of one that overlaps the fixed range, and of an index beyond the table; UNMAP of the last. -/
theorem wit_PaddockCommands_ranges :
    (formOk (cmd 0 47 0 0) [lowBits 6, m64, m64] = true ∧ (cmd 0 47 0 0).w1.toNat < 48 ∧ mappedPaddock.mapOk 47 0 = true) ∧
    (formOk (cmd 0 47 0x40000000000000 0) [lowBits 6, m64, m64] = true ∧ mappedPaddock.mapOk 47 0x40000000000000 = false) ∧
    (formOk (cmd 0 48 0 0) [lowBits 6, m64, m64] = true ∧ 48 ≤ (cmd 0 48 0 0).w1.toNat) ∧
    (formOk (cmd 0 47 0 0) [lowBits 6] = true ∧ (cmd 0 47 0 0).w1.toNat < 48) := by decide

/-- An image of one shelf with no section at host address 0, and one whose first byte is wrong. -/
def imageCells (first : Byte) : List Host.Cell :=
  [(hostPa 0, first), (hostPa 1, 0x4C), (hostPa 2, 0x49), (hostPa 3, 0x4B), (hostPa 4, 1), (hostPa 6, 1), (hostPa 9, 4), (hostPa 0x168, 1)]
def imageState (first : Byte) : State := { cmdState (cmd 0 0 1024 0) with mem := imageCells first }
def imageOfCells (first : Byte) : Img := Img.ofBytes ((imageState first).begun.hostBytes 0 1024)
theorem wit_ServiceCommands_load : formOk (cmd 0 0 1024 0) [m64, lowBits 32] = true ∧
    ((imageState 0x4E).cursor = .command (cmd 0 0 1024 0) ∧ (imageState 0x4E).paddock? (cmdPaddock (cmd 0 0 1024 0)) = some mappedPaddock ∧
      firstOffence ((imageOfCells 0x4E).offences mappedPaddock.signedOnly mappedPaddock.key) = none ∧ (imageOfCells 0x4E).raceOffence = none) ∧
    ∃ o : Offence, firstOffence ((imageOfCells 0x4F).offences mappedPaddock.signedOnly mappedPaddock.key) = some o :=
  ⟨by decide, ⟨rfl, rfl, Option.isNone_iff_eq_none.mp (by decide +kernel), Option.isNone_iff_eq_none.mp (by decide +kernel)⟩,
    Option.isSome_iff_exists.mp (by decide +kernel)⟩

theorem wit_ServiceCommands_handles :
    ((cmdState (cmd 0 2 0x4000 0)).cursor = .command (cmd 0 2 0x4000 0) ∧
      (cmdState (cmd 0 2 0x4000 0)).paddock? (cmdPaddock (cmd 0 2 0x4000 0)) = some mappedPaddock ∧ formOk (cmd 0 2 0x4000 0) [lowBits 24, lowBits 48] = true ∧
      (match (cmdState (cmd 0 2 0x4000 0)).begun.engRead (cmdAgent mappedPaddock) 0x4000 40 with
        | .ok bs t => (newEntry (wordsOf 5 bs)).any fun w => Eng.done (t.putEntry (cmdAgent mappedPaddock) 2 w)
        | _ => false) = true) ∧
    (formOk (cmd 0 0 0x6000 0) [m64, lowBits 48] = true ∧
      ∃ (v : Word) (t : State), (cmdState (cmd 0 0 0x6000 0)).begun.glazeAttach (cmdAgent mappedPaddock) 0 0x6000 = .ok v t) ∧
    (formOk (cmd 0 0 0x6100 0) [m64, lowBits 48] = true ∧
      ∃ (u : Unit) (t : State), (cmdState (cmd 0 0 0x6100 0)).begun.foldStart (cmdAgent mappedPaddock) 0 0x6100 = .ok u t) ∧
    (formOk (cmd 0 1 0 0) [m64, lowBits 3] = true ∧
      ∃ (v : Word) (t : State), (cmdState (cmd 0 1 0 0)).begun.glazeDetach (cmdAgent mappedPaddock) 1 0 = .ok v t) :=
  ⟨⟨rfl, rfl, by decide, by decide +kernel⟩, ⟨by decide, ok_of (by decide +kernel)⟩, ⟨by decide, ok_of (by decide +kernel)⟩,
    by decide, ok_of (by decide +kernel)⟩

/-- In the mapped paddock every byte below 2 MiB translates to itself and exists. -/
theorem mapped_stage2 (s : State) (w : Placer) (ia : Nat) (h : ia < 2 ^ 21) : s.stage2 mappedPaddock w .write 1 ia = .ok (ia, s) ∧ paExists ia = true := by
  have hz : ia / 2 ^ 21 = 0 := Nat.div_eq_of_lt h
  have hr : mappedPaddock.range? ia = some 0x3C0000000000000 := by
    unfold Paddock.range?
    rw [hz]; rfl
  refine ⟨?_, ?_⟩
  · unfold State.stage2
    rw [hr]
    have h1 : fld 0x3C0000000000000 56 1 = 1 := by decide
    have h2 : fld 0x3C0000000000000 58 1 = 0 := by decide
    have h3 : fld 0x3C0000000000000 64 52 = 0 := by decide
    simp only [h1, h2, h3]
    have h4 : s.portDown ia = none := by
      unfold State.portDown
      rw [show (ia / 2 ^ 48 == 9) = false from by rw [Nat.div_eq_of_lt (by omega)]; rfl]
      rfl
    rw [if_neg (by decide), if_pos (by decide), Nat.add_zero, Nat.mod_eq_of_lt (by omega), h4]
  · have a : ia / 2 ^ 48 = 0 := by omega
    have b : fld ia 31 8 = 0 := by unfold fld; omega
    have c : fld ia 39 7 = 0 := by unfold fld; omega
    have d : fld ia 16 15 < 21846 := by unfold fld; omega
    unfold paExists
    rw [a]
    simp only [b, c]
    exact Bool.and_eq_true_iff.mpr ⟨rfl, decide_eq_true d⟩
theorem mapped_page (s : State) (w : Placer) (l : Leaf) (ha : fld (s.num l.entPa 8) 7 1 = 1) (hd : fld (s.num l.entPa 8) 8 1 = 1)
    (hv : fld l.entry 4 2 = 0) : ∀ is : List Nat, (∀ i ∈ is, l.base + (l.off + i) < 2 ^ 21) →
      ∃ ls : List Loc, s.pageLocs mappedPaddock w .write l is = (.ok ls, s) ∧ locsExist ls = true := by
  intro is
  induction is with
  | nil => intro _; exact ⟨[], rfl, rfl⟩
  | cons i is ih =>
    intro h
    obtain ⟨ls, hl, he⟩ := ih fun j hj => h j (List.mem_cons_of_mem _ hj)
    obtain ⟨h2, hp⟩ := mapped_stage2 s w (l.base + (l.off + i)) (h i List.mem_cons_self)
    refine ⟨⟨l.base + (l.off + i), none, ((mappedPaddock.range? (l.base + (l.off + i))).map fun n => fld n 59 1 == 1).getD false⟩ :: ls, ?_, ?_⟩
    · unfold State.pageLocs
      have e10 : ((1 : Nat) == 0) = false := rfl
      simp only [hv, Need.code, h2, ha, hd, e10, Bool.and_false, Bool.false_eq_true, ↓reduceIte, hl]
      rfl
    · simpa [locsExist, hp] using he
theorem mapped_write (s : State) (n : Nat) (hn : n ≤ 4096) (ha : fld (s.num 0x3000 8) 7 1 = 1) (hd : fld (s.num 0x3000 8) 8 1 = 1)
    (hx : s.xlate1 mappedPaddock .outside .write 0x10000 = (.ok ⟨0x3000, 0x18F, 0, 0x10000, 3⟩, s)) :
    (s.vaWrite mappedPaddock .outside 0x10000 (List.replicate n 0)).1 = .ok () := by
  obtain ⟨ls, hl, he⟩ := mapped_page s .outside ⟨0x3000, 0x18F, 0, 0x10000, 3⟩ ha hd (by decide) (List.range n) (by
    intro i hi
    have := List.mem_range.mp hi
    show 0 + (0x10000 + i) < 2 ^ 21
    omega)
  unfold State.vaWrite State.xlate
  rw [List.length_replicate]
  have hm : min n (4096 - 0x10000 % 2 ^ 48 % 4096) = n := by omega
  have hq : 0x10000 % 2 ^ 48 = 0x10000 := by decide
  simp only [hq] at hm ⊢
  simp only [hx, hm, hl, he, beq_self_eq_true, ↓reduceIte]

/-- A captured snapshot of kiln 1 at time 0. -/
def snapState (e : Rec8) : State := { cmdState e with snaps := [⟨1, 0, State.reset.bareKiln, []⟩] }
theorem wit_ServiceCommands_snapshots :
    ((cmdState (cmd 0 1 10000 0x10000)).kiln? 1 = some State.reset.bareKiln ∧ formOk (cmd 0 1 10000 0x10000) [lowBits 32, lowBits 24, lowBits 48] = true ∧
      State.reset.bareKiln.paddock = mappedPaddock.index ∧ (10000 : Word).toNat ≤ 10000 ∧ (0x10000 : Word).toNat % 4096 = 0 ∧
      State.reset.bareKiln.snap = none ∧
      ((cmdState (cmd 0 1 10000 0x10000)).begun.vaWrite mappedPaddock .outside 0x10000 (List.replicate 4096 0)).1 = .ok ()) ∧
    (formOk (cmd 0 0 0x7000 0) [lowBits 8, lowBits 48] = true ∧
      (match (snapState (cmd 0 0 0x7000 0)).begun.vaRead mappedPaddock .outside 0x7000 0x60 with
        | (.ok bs, _) => (snapRecord bs).any fun r =>
            ((snapState (cmd 0 0 0x7000 0)).charge? (recCharge r.1)).any fun c => c.paddock == mappedPaddock.index
        | _ => false) = true) :=
  ⟨⟨rfl, by decide, rfl, by decide, by decide, rfl, mapped_write _ 4096 (by decide) (by decide +kernel) (by decide +kernel) rfl⟩, by decide, by decide +kernel⟩

/-- Kiln 1 stopped by a TRAP and by a bad address, with the records 0 and 1 of die 0 read. -/
def stoppedKiln : Kiln := { State.reset.bareKiln with stops := [⟨70, 0x01, 0, 0, 0, 0⟩, ⟨71, 0x20, 0, 0, 0, 0⟩] }
def stoppedState (e : Rec8) : State :=
  { cmdState e with kilns := [stoppedKiln], dies := [{ DieSt.reset 0 with outstanding := [⟨0, 70, 0, true⟩, ⟨1, 71, 0, true⟩] }] }
theorem wit_ServiceCommands_faults :
    (formOk (cmd 0 3 64 512) [3, m64, lowBits 10] = true ∧ (cmd 0 3 64 512).w2.toNat % 64 = 0 ∧ 1 ≤ (cmd 0 3 64 1).w3.toNat ∧
      (cmd 0 3 64 512).w3.toNat ≤ 512) ∧
    (formOk (cmd 0 0 4095 0) [3, lowBits 12, 1] = true ∧ (stoppedState (cmd 0 0 4095 0)).begun.namedRecord (cmd 0 0 4095 0) = none) ∧
    (∃ o : OutRec, (stoppedState (cmd 0 0 0 0)).begun.namedRecord (cmd 0 0 0 0) = some o ∧
      (stoppedState (cmd 0 0 0 0)).begun.holder o.uid = .stop stoppedKiln ⟨70, 0x01, 0, 0, 0, 0⟩ ∧ stoppedKiln.paddock = mappedPaddock.index ∧
      resumable 0x01 = true) ∧
    (∃ o : OutRec, (stoppedState (cmd 0 0 1 0)).begun.namedRecord (cmd 0 0 1 0) = some o ∧
      (stoppedState (cmd 0 0 1 0)).begun.holder o.uid = .stop stoppedKiln ⟨71, 0x20, 0, 0, 0, 0⟩ ∧ resumable 0x20 = false) :=
  ⟨by decide, ⟨by decide, rfl⟩, ⟨_, rfl, rfl, rfl, rfl⟩, _, rfl, rfl, rfl⟩
theorem wit_ServiceCommands_reports : formOk (cmd 0 4096 0 0) [m64] = true ∧ (cmd 0 4096 0 0).w1.toNat % 4096 = 0 ∧
    formOk (cmd 0 0 0 0) [m64, lowBits 16, m64, lowBits 16] = true := by decide

/-! Witnesses: inputs. A running kiln on shelf 0 of die 0, port 3 down since time 0, a forwarded launch under way. -/

def inputState (i : Input) : State :=
  { machine (kilnOf (tileOf (execOf []))) (.input i) with
    boot := .ready, now := 10 * tS, fluid := some (0, 0, 1000), peers := [⟨3, 0, [], true, [], 0, []⟩]
    outstanding := [.peerLaunch 9 77 0 0 0 ⟨0, 0, 0, 0, 0, 0, 0, 0⟩ none] }
theorem inputState_gets (i : Input) : (inputState i).cursor = .input i := rfl

theorem wit_InputEvents_outside :
    ((inputState (.registerWrite 0x0028 3)).power ≠ 3) ∧
    ((inputState (.hostApertureAccess ⟨15 * 2 ^ 38, .read 8⟩)).paddock? (fld (15 * 2 ^ 38) 38 4) = none) ∧
    ((inputState (.hostApertureAccess ⟨8, .read 8⟩)).paddock? (fld 8 38 4) = some demoPaddock) ∧
    ((inputState (.peerAccess 0 ⟨8, .read 8⟩)).paddock? (fld 8 40 4) = some demoPaddock ∧ demoPaddock.admits 0 = true ∧ demoPaddock.admits 15 = false) ∧
    ((inputState (.peerLaunchArrival 0 0 0 ⟨0, 0, 0, 0, 0, 0, 0, 0⟩)).paddock? 0 = some demoPaddock) ∧
    ((inputState (.peerAcknowledges 77 4)).outstanding = [.peerLaunch 9 77 0 0 0 ⟨0, 0, 0, 0, 0, 0, 0, 0⟩ none]) ∧
    (({ inputState (.scrub (.poison 0 1)) with power := 3 } : State).power = 3 ∧ ({ inputState (.scrub (.poison 0 1)) with power := 3 } : State).cursor =
      .input (.scrub (.poison 0 1)) ∧ (inputState (.peerAccess 0 ⟨8, .read 8⟩)).power ≠ 3) ∧
    ((inputState .powerOn).modulePower = false) ∧
    (((inputState (.portRetrainAttempt 3 true)).peer 3).down = true ∧
      ((inputState (.portRetrainAttempt 3 true)).peer 3).retrainAt + 10 * tS ≤ (inputState (.portRetrainAttempt 3 true)).now) :=
  ⟨by decide, rfl, rfl, ⟨rfl, rfl, rfl⟩, rfl, rfl, ⟨rfl, rfl, by decide⟩, rfl, rfl, by decide⟩
/-- A power of 1,200,001 mW, a flux just above FRAC x CHF and above 0.9 x CHF, 125.001 and 105.001 degC, module inputs at and beyond 700 and 880 V. -/
theorem wit_InputEvents_telemetry :
    (inputState (.capCompute ⟨[], [], [], 0, 0, 0, [], []⟩)).boot = .ready ∧ ((inputState (.capClamp 0 1200001)).die 0).capMw < 1200001 ∧
    (inputState (.fluxLimit 0 0 501)).fluxAbove 501 (inputState (.fluxLimit 0 0 501)).frac = true ∧
    (inputState (.fluxLimit 0 0 500)).fluxAbove 500 (inputState (.fluxLimit 0 0 500)).frac = false ∧
    (0x7E ≠ 0x7F ∧ 125000 < 125001) ∧ (inputState (.thermalTrip 0 0x7F 901)).fluxAbove 901 900 = true ∧
    ((inputState (.railFault 0 0 700)).kilns.filter fun k => k.holds 0 0) = [kilnOf (tileOf (execOf []))] ∧
    (700000 ≤ 700000 ∧ 700000 < 760000) ∧ (840000 < 880000 ∧ 880000 ≤ 880000) ∧ (699999 < 700000 ∧ 880000 < 880001) ∧ 105000 < 105001 ∧
    (⟨5, 0, 0, 0, 0, 0⟩ : HealthReading).quantity ≤ 5 :=
  ⟨rfl, by decide, by decide, by decide, by decide, by decide, by decide, by decide, by decide, by decide, by decide, by decide⟩

/-! Witnesses: events of tiles and links. One kiln in which, at time 1,000 and cycle 20 of its tiles, tile 0 has an issued instruction
of each sort in its slots, tile 1 a block execution that ends and a tick, tile 64 a record before its write port, link 0 an
arrival, a waiting stop and returns, link 2 a raddle at its head. -/

def pend_ (slot : Nat) (w : Work) : Pending := ⟨slot, slot, .null, .null, [], 0, false, 0, [], w, 0⟩
def link_ (src port dst : Nat) (plane : Bool) : LinkSt :=
  LinkSt.start ⟨src, port, plane, 0, dst, 0, 2, 0, 0, 0, false, false, 0⟩ 1
def slot_ (x : Tok) : LSlot := ⟨[(999, x)], false, false, false⟩
def busyTile : TileSt :=
  { tileOf { execOf [] with
      pend := [pend_ 0 .finish, pend_ 1 (.cmac 7 0 0 20), pend_ 2 (.lgen 0 0 0 0 0 false), pend_ 3 (.timer 20), pend_ 4 (.fwsvc 1 0 1000),
        pend_ 5 (.arow 0 0 6 6 0 (List.replicate 8 0) 3 none), pend_ 6 (.scratch [0x17FFC] (.store [1, 2, 3, 4]) 2 [] 0),
        pend_ 7 (.scratch [0x17FFC] (.load 4 false) 0 [] 0)] } with cyc := 20, cycAt := 1000 }
def endTile : TileSt :=
  { tileOf { execOf [] with issued := [0] } with
    id := 1, cyc := 20, cycAt := 1000, tick := some ⟨3, 2, 2, 0, []⟩
    tasks := { TaskSt.blank with stat := .active } :: { TaskSt.blank with stat := .idle } :: List.replicate 6 TaskSt.blank }
def memTile : TileSt :=
  { TileSt.fresh 64 1000 with cyc := 20, wport := some ⟨0, 0, 7, [(1, 16)], 0, none, none, [], [], [], false⟩ }
def busyKiln : Kiln :=
  { State.reset.bareKiln with
    tiles := [busyTile, endTile, memTile]
    links := [{ link_ 0 0 1 false with flight := [⟨20, Tok.val 5, .unit⟩], waiting := [(.ctl (CTok.stop 1), none)], returning := [20], delays := [⟨20, true⟩] },
      { link_ 0 1 64 true with slots := [slot_ (.data (DTok.record 7 false))] },
      { link_ 0 2 2 true with slots := [slot_ (.data DTok.raddle)] },
      { link_ 0 7 3 true with slots := [] },
      { link_ 0 8 3 true with slots := [slot_ (.data (DTok.record 7 false))] }]
    stus := [⟨0, [(0, 0, 0)], none, [], 1000, none⟩, ⟨1, [], some (0, 0, 0), [], 0, some 20⟩]
    sigWrites := [(0, 20, 3, true)]
    bells := [⟨2, 1, 0, 1, some (0, 0, 0), false, [], []⟩, ⟨2, 100, 1, 0, none, false, [], [(0, 0, 20, [])]⟩]
    rsus := [⟨0, 0, 0, 1, false, false, [(20, DTok.record 1 false)], 0⟩]
    snap := some ⟨0, 0, 0, [], [], [], [], []⟩ }
def anAcc (st : AccStage) : Acc :=
  ⟨5, 1, 0, 0, 0, 0, 0, 0, 0, .null, .null, ⟨.write [9, 8], 0x82, 0, 0, false, false, []⟩, [0], 0, st, 0, false, none, 0⟩
def busy (cur : Cursor) : State :=
  { machine busyKiln cur with now := 1000, accs := [anAcc (.flight [])], units := [⟨busyKiln.pa 0 0 0x17000, 0x17000, 1, true⟩] }
def whereAt (n : Nat) : Where := ⟨busyKiln, busyTile, (busyTile.execs.headD (execOf [])), pend_ n ((busyTile.execs.headD (execOf [])).pend.map Pending.work |>.getD n .finish)⟩

theorem wit_TileEvents_tasks :
    ((busy (.tile 1 1 1 0)).curTask = some (busyKiln, endTile, 1) ∧ (busy (.tile 1 1 1 0)).tileLive busyKiln endTile = true ∧
      (busy (.tile 1 1 1 0)).mayFire busyKiln endTile 1 = true) ∧
    (∃ x : Exec, (busy (.tile 1 1 0 0)).curTask = some (busyKiln, endTile, 0) ∧ endTile.exec? 0 = some x ∧
      (busy (.tile 1 1 0 0)).ends busyKiln endTile x = true) ∧
    (busyKiln.clocked 1000 = true ∧ endTile.cycAt = (busy (.tile 1 1 0 0)).now ∧ (endTile.tick.any fun x => x.due endTile.cyc) = true) ∧
    ((busy (.tile 1 64 0 0)).curTask = some (busyKiln, memTile, 0) ∧ (busy (.tile 1 64 0 0)).tileLive busyKiln memTile = true ∧
      (busy (.tile 1 64 0 0)).portTakes busyKiln memTile = true ∧ busyKiln.portIn memTile.id = some 1 ∧
      ∃ (d : DTok) (u : State) (k' : Kiln), ((busy (.tile 1 64 0 0)).begun.modTile 1 64 fun tl => { tl with dataIssued := true }).vcPop 1 64 (.link 1) =
        (some (.data d), u) ∧ d.isRaddle = false ∧ u.kiln? busyKiln.id = some k') :=
  ⟨⟨rfl, by decide, by decide⟩, ⟨_, rfl, rfl, by decide⟩, ⟨by decide, rfl, by decide⟩, rfl, by decide, by decide, by decide, _, _, _, rfl, rfl, rfl⟩
theorem wit_TileEvents_work :
    (∀ n : Nat, n < 8 → (busy (.tile 1 0 0 n)).curWhere = some (whereAt n)) ∧ (busy (.tile 1 0 0 0)).tileLive busyKiln busyTile = true ∧
    (State.lateReady (whereAt 0) = false ∧ busyKiln.settles busyTile (whereAt 0).p = true) ∧ State.lateReady (whereAt 1) = true ∧
    ((busy (.tile 1 0 0 2)).actsNow (whereAt 2) = true ∧ (busy (.tile 1 0 0 2)).workReady (whereAt 2) = true) ∧
    ((whereAt 3).p.work = .timer 20 ∧ (20 : Word).toNat ≤ busyTile.cyc) ∧
    ((whereAt 4).p.work = .fwsvc 1 0 1000 ∧ 1000 ≤ (busy (.tile 1 0 0 4)).now) ∧
    ((whereAt 5).p.work = .arow 0 0 6 6 0 (List.replicate 8 0) 3 none ∧ arowAddReady (whereAt 5) 0 6 (List.replicate 8 0) 3 none = true) :=
  ⟨by decide, by decide, ⟨by decide, by decide⟩, by decide, ⟨by decide, by decide⟩, ⟨rfl, by decide⟩, ⟨rfl, by decide⟩, rfl, by decide⟩
theorem wit_TileEvents_access : ((busy (.kiln 1 5)).accs.find? fun a => a.is 1 5) = some (anAcc (.flight [])) ∧
    (busy (.kiln 1 5)).accReady (anAcc (.flight [])) = true := ⟨rfl, by decide⟩
theorem wit_TileEvents_links :
    (∃ l : LinkSt, (busy (.kiln 1 0)).curLink = some (busyKiln, 0, l) ∧ busyKiln.arrives 1000 l = true ∧
      l.waiting = (.ctl (CTok.stop 1), none) :: [] ∧ l.occupancy < l.cfg.slots ∧ (l.returning.any fun x => busyKiln.begun 1000 l.cfg.src x) = true ∧
      (l.delays.any fun x => busyKiln.begun 1000 l.cfg.dst x.due) = true) ∧
    (∃ l : LinkSt, (busy (.kiln 1 2)).curLink = some (busyKiln, 2, l) ∧ busyKiln.snap.isSome = true ∧ l.sealed = false ∧ l.raddled 1000 = true) :=
  ⟨⟨_, rfl, by decide, rfl, by decide, by decide, by decide⟩, _, rfl, rfl, rfl, by decide⟩
theorem wit_TileEvents_kilns :
    ((busy (.kiln 1 0)).curKiln = some (busyKiln, 0) ∧ busyKiln.runs 1000 = true ∧ busyKiln.stuReads (busyKiln.stu 0) 1000 = true ∧
      (busyKiln.sigWrites.any fun x => busyKiln.begun 1000 x.1 x.2.1) = true) ∧
    ((busy (.kiln 1 1)).curKiln = some (busyKiln, 1) ∧ (busy (.kiln 1 1)).stuWrites busyKiln (busyKiln.stu 1) = true) ∧
    (∃ (x : BellSt) (i : Nat), busyKiln.bells[1]? = some x ∧ (busy (.kiln 1 1)).releaseDue busyKiln x = some i) ∧
    (∃ x : BellSt, busyKiln.bells[0]? = some x ∧ x.opened = some (0, 0, 0) ∧ x.timedOut = false ∧ 0 + 280 * x.timeout ≤ 1000 ∧
      busyKiln.awake 1000 = true ∧ { busyKiln with stat := .switching 2000 1 }.awake 1000 = true) ∧
    (∃ r : RsuSt, busyKiln.rsus[0]? = some r ∧ busyKiln.rsuFires r 1000 = true ∧ busyKiln.rsuLeaves r 1000 = true ∧
      r.out = (20, DTok.record 1 false) :: [] ∧ busyKiln.rsuOut r = some 3) :=
  ⟨⟨rfl, by decide, by decide, by decide⟩, ⟨rfl, by decide⟩, ⟨_, _, rfl, rfl⟩, ⟨_, rfl, rfl, rfl, by decide, rfl, rfl⟩, _, rfl, by decide, by decide, rfl, by decide⟩

/-- Slots 6 and 7 store to and load from the last word of the scratchpad, in a unit that the kiln owns. -/
theorem wit_StoresLand_scratch :
    (StateInv (busy (.tile 1 0 0 6)) ∧ (busy (.tile 1 0 0 6)).curWhere = some (whereAt 6) ∧
      (whereAt 6).p.work = .scratch [0x17FFC] (.store [1, 2, 3, 4]) 2 [] 0 ∧ (busy (.tile 1 0 0 6)).workReady (whereAt 6) = true ∧
      (busy (.tile 1 0 0 6)).owns busyKiln 0 0 0x17FFC = true) ∧
    ((busy (.tile 1 0 0 7)).curWhere = some (whereAt 7) ∧ (whereAt 7).p.work = .scratch [0x17FFC] (.load 4 false) 0 [] 0 ∧
      (busy (.tile 1 0 0 7)).workReady (whereAt 7) = true ∧ (busy (.tile 1 0 0 7)).poison = [] ∧ 4 ∈ [1, 2, 4, 8] ∧ 0x17FFC % 4 = 0) :=
  ⟨⟨⟨by decide, rfl⟩, by decide, rfl, by decide, by decide⟩, by decide, rfl, by decide, rfl, by decide, by decide⟩
/-- A store in flight to two neighbouring bytes. -/
def flying : Acc := anAcc (.flight [⟨0x100, none, false⟩, ⟨0x101, none, false⟩])
theorem wit_StoresLand_global :
    StateInv { busy (.kiln 1 5) with accs := [flying] } ∧ ([flying].find? fun x => x.is flying.kiln flying.id) = some flying ∧
    ({ busy (.kiln 1 5) with accs := [flying] } : State).accReady flying = true ∧ flying.req.op = .write [9, 8] ∧
    ([⟨0x100, none, false⟩, ⟨0x101, none, false⟩] : List Loc).length = [(9 : Byte), 8].length ∧
    (([⟨0x100, none, false⟩, ⟨0x101, none, false⟩] : List Loc).map Loc.pa).Nodup ∧
    ({ busy (.kiln 1 5) with accs := [flying] } : State).downPort [⟨0x100, none, false⟩, ⟨0x101, none, false⟩] = none :=
  ⟨⟨by decide, rfl⟩, by decide, by decide, rfl, rfl, by decide, by decide⟩
/-- Two bytes that a drover writes in the mapped paddock. -/
theorem wit_StoresLand_engine : (match (listState [] none).engXlate ((listCtx [] none).agent 0x0B) .write 0x8000 [(9 : Byte), 8].length with
    | .ok ls _ => ls.length == 2 && ls.map Loc.pa == [0x8000, 0x8001]
    | _ => false) = true := by decide +kernel

/-! Witnesses: launches, phases, engines, frames, power, boot. Queue 0 of die 0 holds one eligible launch of a one-shelf charge
that became eligible at time 0; queue 255 has a record in its ring; the time is just past two quanta. -/

def aRecord : Rec8 := ⟨1, 0, 0, 0, 0, 0, 0, 0⟩
def wideImage (c r : Nat) : Image := { Image.ofList 0 with cols := c, rows := r }
def launchState (cur : Cursor) (im : Image) (ks : List Kiln) : State :=
  { State.reset with
    boot := .ready, now := 1008000001, mem := mappedMem, cursor := cur, kilns := ks, charges := [⟨1, 0, false, im⟩]
    paddocks := [{ mappedPaddock with saveCount := 200, tolerance := 40000 }]
    queues := [{ QueueSt.fresh 0 false 0 0 3 0x10000 64 with onchip := [aRecord], metas := [⟨true, 0, 0, none, false⟩] },
      { QueueSt.fresh 255 true 0 0 0 0x10000 64 with count := 1 }] }
theorem some_begun {α : Type} {s : State} {f : State → Option α} (h : s.wlog = []) (h' : (f s).isSome = true) : ∃ t : α, f s = some t ∧ f s.begun = some t := by
  obtain ⟨t, ht⟩ := Option.isSome_iff_exists.mp h'
  refine ⟨t, ht, ?_⟩
  have : s.begun = s := by cases s; cases h; rfl
  rw [this, ht]

theorem wit_MachineEvents_launch :
    (∃ t : State, (launchState (.die 0 0 0) (wideImage 1 1) []).pick 0 = some t ∧ (launchState (.die 0 0 0) (wideImage 1 1) []).begun.pick 0 = some t) ∧
    (∃ (h : Head) (r : Rect), ((launchState (.die 0 0 0) (wideImage 1 1) []).heads 0).find? (fun h => h.queue == 0) = some h ∧
      (launchState (.die 0 0 0) (wideImage 1 1) []).reservable 0 h = some r) ∧
    (∃ t : State, (launchState (.item 255) (wideImage 1 1) []).refill 255 = some t ∧ (launchState (.item 255) (wideImage 1 1) []).begun.refill 255 = some t) :=
  ⟨some_begun (f := fun s => s.pick 0) rfl (by decide +kernel), ⟨_, _, rfl, rfl⟩, some_begun (f := fun s => s.refill 255) rfl (by decide +kernel)⟩

/-- A kiln of 9 by 7 shelves, in a state and with a sink that has received no stop. -/
def phaseKiln (st : KStat) (sinks : List (Bool × Nat × Nat × Bool)) : Kiln :=
  { State.reset.bareKiln with
    cols := 9, rows := 7, stat := st, tiles := [], sinks := sinks, drainedAt := some (1008000001 - 16 * 280), quantumAt := 504000001
    snap := some ⟨0, 0, 1008000001, [], [], [], [], []⟩ }
def phaseState (st : KStat) (sinks : List (Bool × Nat × Nat × Bool)) : State := launchState (.kiln 1 0) (wideImage 9 7) [phaseKiln st sinks]
/-- A kiln that starts for the first time, and a charge of one data image, whose unit stands nowhere yet. -/
def newKiln : Kiln := { phaseKiln (.starting 5) [] with startedAt := 0 }
def imageRec : Image := { Image.ofList 0 with images := [⟨0, 0, 0x17FFF, [1]⟩] }
theorem wit_MachineEvents_kilns :
    ((launchState (.kiln 1 0) imageRec [newKiln]).curKiln = some (newKiln, 0) ∧
      ∃ u : Nat × Nat × Nat, ((launchState (.kiln 1 0) imageRec [newKiln]).unitsDue newKiln)[0]? = some u) ∧
    (∀ (st : KStat) (sinks : List (Bool × Nat × Nat × Bool)), (phaseState st sinks).curKiln = some (phaseKiln st sinks, 0)) ∧
    ((phaseKiln (.starting 1008000001) []).stat = .starting 1008000001 ∧
      (phaseState (.starting 1008000001) []).unitsDue (phaseKiln (.starting 1008000001) []) = [] ∧
      (phaseKiln (.starting 1008000001) []).paused = none ∧
      (phaseState (.starting 1008000001) []).savesHeldOn (phaseKiln (.starting 1008000001) []) = false) ∧
    (phaseState .running []).completes (phaseKiln .running []) = true ∧
    (phaseState .running [(false, 0, 0, false)]).phaseEnds (phaseKiln .running [(false, 0, 0, false)]) = true ∧
    (phaseState .running [(false, 0, 0, false)]).image? (phaseKiln .running [(false, 0, 0, false)]).charge = some (wideImage 9 7) ∧
    ((phaseState (.switching 1008000001 2) []).copiesOf 1 = false ∧ ∀ a ∈ (phaseState (.switching 1008000001 2) []).accs, a.kiln ≠ 1) ∧
    (phaseState .running [(false, 0, 0, false)]).quantumEnds (phaseKiln .running [(false, 0, 0, false)]) = true ∧
    (∃ r : SnapRun, (phaseKiln .running []).snap = some r ∧ r.deadline ≤ (phaseState .running []).now) :=
  ⟨⟨rfl, Option.isSome_iff_exists.mp (by decide)⟩, fun _ _ => rfl, ⟨rfl, rfl, rfl, rfl⟩, by decide, by decide, rfl, ⟨rfl, by decide⟩, by decide +kernel, _, rfl, by decide⟩
/-- A task that has ended on a tile without links saves. -/
def restTile : TileSt :=
  { TileSt.fresh 0 1000 with tasks := { TaskSt.blank with stat := .ended } :: List.replicate 7 TaskSt.blank }
def restKiln : Kiln := { State.reset.bareKiln with tiles := [restTile], snap := some ⟨0, 0, 0, [], [], [], [], []⟩ }
def restState : State := { machine restKiln (.tile 1 0 0 0) with now := 1000 }
theorem wit_MachineEvents_save : restState.curTask = some (restKiln, restTile, 0) ∧ restTile.id % 128 < 64 ∧ restState.tileLive restKiln restTile = true ∧
    (restTile.task 0).stat ≠ .absent ∧ restState.taskSaves restKiln restTile 0 = true := ⟨rfl, by decide, by decide, by decide, by decide⟩
theorem wit_MachineEvents_die :
    ((launchState (.die 0 71 0) (wideImage 1 1) []).boot = .ready ∧ (launchState (.die 0 71 0) (wideImage 1 1) []).power ≠ 3 ∧
      ((launchState (.die 0 0 0) (wideImage 1 1) []).die 0).epochAt + tMs ≤ (launchState (.die 0 0 0) (wideImage 1 1) []).now) ∧
    (launchState (.die 0 71 0) (wideImage 1 1) []).shelfChanges 0 71 = true ∧
    ({ State.reset with boot := .booting 0 } : State).boot = .booting 0 := ⟨⟨rfl, by decide, by decide⟩, by decide, rfl⟩
/-- A package with nothing to do, whose one paddock tolerates 2 ms, is to leave S0 for S3. -/
def idleState : State :=
  { State.reset with boot := .ready, now := 1008000001, cursor := .item 0, paddocks := [{ mappedPaddock with tolerance := 2000000 }] }
theorem wit_MachineEvents_package : idleState.boot = .ready ∧ idleState.power = 0 ∧ idleState.packageWants = 3 := ⟨rfl, rfl, by decide +kernel⟩

/-- A submitted list; a push that waits although its destination is bound to no wicket; copies of one byte before and after they begin. -/
def submitted : State :=
  { launchState (.die 0 0 0) (wideImage 1 1) [State.reset.bareKiln] with drovers := [⟨0, 0, none, [listOf [] none]⟩] }
def waitingState : State :=
  { launchState (.die 0 0 0) (Image.ofList (0x0A00000000000006 * 2 ^ 64)) [State.reset.bareKiln] with
    drovers := [⟨0, 0, some { listOf [] none with waits := true }, []⟩] }
def aCopy (started : Bool) : BtuCopy := ⟨7, 1, 0, BitVec.ofNat 256 (2 ^ 128 + 2 ^ 144), started, 0, [], [], [], none, false, 0⟩
def copyState (started : Bool) : State :=
  { launchState (.die 0 0 7) (wideImage 1 1) [State.reset.bareKiln] with btus := [⟨0, 0, [aCopy started]⟩] }
def copyAt (started : Bool) : BtuAt := ⟨⟨0, 0, [aCopy started]⟩, aCopy started, State.reset.bareKiln⟩
theorem snd_of {β γ : Type} {x : State × β × Eng γ} (h : Eng.done x.2.2 = true) : ∃ (c : β) (d : γ) (t : State), x.2 = (c, .ok d t) := by
  obtain ⟨_, c, r⟩ := x
  obtain ⟨d, t, e⟩ := ok_of (e := r) h
  exact ⟨c, d, t, by rw [e]⟩
theorem wit_MachineEvents_engines :
    (submitted.drover 0 0 = ⟨0, 0, none, listOf [] none :: []⟩ ∧ submitted.kiln? (listOf [] none).kiln = some State.reset.bareKiln ∧
      State.reset.bareKiln.enginesRun = true ∧ submitted.performed (listOf [] none).kiln (listOf [] none).deps 3 = true) ∧
    (∃ c : DCtx, waitingState.curDrover = some c ∧ waitingState.pushResumes c = true) ∧
    ((copyState false).curCopy = some (copyAt false) ∧ (copyState false).copyBegins (copyAt false) = true ∧
      (∃ (u : Unit) (t : State), (copyState false).begun.pktBegin ((copyAt false).c.agent 0 0 (copyAt false).k) (copyAt false).c.packet = .ok u t)) ∧
    ((copyState true).curCopy = some (copyAt true) ∧ (copyState true).copyLands (copyAt true) = true ∧
      ∃ (c : BtuCopy) (done : Bool) (t : State), ((copyState true).begun.pktPart ((copyAt true).c.agent 0 0 (copyAt true).k) (copyAt true).c).2 = (c, .ok done t)) :=
  ⟨⟨rfl, rfl, rfl, rfl⟩, ⟨_, rfl, by decide⟩, ⟨rfl, by decide, ok_of (by decide +kernel)⟩, rfl, by decide, snd_of (by decide +kernel)⟩
/-- A fold whose elements are all written, and a migration that is due. -/
def aFold : FoldJob := ⟨4, 0, 0, 0, 0, [0, 0x100000001, 0x100000001], 0x8000, 7, 2, 9, 1, none, false, 0⟩
def aMigration : Migration := ⟨5, 0, framePa 0 0 3, framePa 0 1 3, 1008000001⟩
def foldState (n : Nat) : State := { launchState (.item n) (wideImage 1 1) [] with folds := [aFold], migrations := [aMigration] }
theorem wit_MachineEvents_items :
    (((foldState 5).migrations.find? fun m => m.id == 5) = some aMigration ∧ aMigration.doneAt ≤ (foldState 5).now) ∧
    (((foldState 4).folds.find? fun j => j.id == 4) = some aFold ∧ (foldState 4).foldReady aFold = true ∧
      ∃ (r : FoldJob × Bool) (t : State), (foldState 4).begun.foldPart aFold = .ok r t ∧ r.2 = true) := by
  refine ⟨⟨rfl, by decide⟩, rfl, by decide, ?_⟩
  have h : (match (foldState 4).begun.foldPart aFold with | .ok r _ => r.2 | _ => false) = true := by decide +kernel
  cases hx : (foldState 4).begun.foldPart aFold with
  | ok r t => rw [hx] at h; exact ⟨r, t, rfl, h⟩
  | _ => rw [hx] at h; cases h

/-! Single steps, with results computed by hand from the spec: the tokens that an instruction sends, and what it does beside. -/

/-- The last instruction that the task of the demo tile holds as issued. -/
def lastPend : Host.Outcome State Fault Refusal → Option Pending
  | .next t => t.kilns[0]?.bind fun k => k.tiles[0]?.bind fun tl => tl.execs[0]?.bind fun x => x.pend.getLast?
  | _ => none
/-- The tokens that an instruction of the demo tile sends to a target other than null. -/
def sentFrom (s : State) (i : Instr) : Option (List Tok) :=
  (lastPend (exec i s)).map fun p => (p.sends.filter fun x => x.tgt != .null).map Send.tok
def sent (i : Instr) (ops : List Operand) : Option (List Tok) := sentFrom (demo ops) i
def one (w : Word) : Option (List Tok) := some [Tok.val w]
def lanes (p : Payload) : Option (List Tok) := some [.data (DTok.record p false)]
def dst : Target := .slot 4 .a

/-- Sums wrap; an operand that is not named reads as zero (R226, R232). -/
theorem test_add_wraps : sent (.add .always dst .null) [va .a (-1), va .b 2] = one 1 := by decide
theorem test_sub_unnamed : sent (.sub .always dst .null) [va .b 1] = one 0xFFFFFFFFFFFFFFFF := by decide
/-- A result goes to both targets. -/
theorem test_xor_both : sent (.xor .always dst (.keep 3)) [va .a 6, va .b 3] = some [Tok.val 5, Tok.val 5] := by decide
/-- High halves (R232): (2^64 - 1)^2 is 2^128 - 2^65 + 1; as signed numbers the same operands give 1. -/
theorem test_mulhu : sent (.mulhu .always dst .null) [va .a (-1), va .b (-1)] = one 0xFFFFFFFFFFFFFFFE := by decide
theorem test_mulhs : sent (.mulhs .always dst .null) [va .a (-1), va .b (-1)] = one 0 := by decide
/-- Shifts take their count modulo 64 (R232). -/
theorem test_shl_count : sent (.shl .always dst .null) [va .a 3, va .b 65] = one 6 := by decide
theorem test_sar_sign : sent (.sar .always dst .null) [va .a 0x8000000000000000, va .b 63] = one 0xFFFFFFFFFFFFFFFF := by decide
/-- Division truncates, a remainder takes the dividend's sign, and the fixed cases do not trap (R233). -/
theorem test_divs_trunc : sent (.divs .always dst .null) [va .a (-7), va .b 2] = one (-3) := by decide +kernel
theorem test_rems_sign : sent (.rems .always dst .null) [va .a (-7), va .b 2] = one (-1) := by decide +kernel
theorem test_divu_zero : sent (.divu .always dst .null) [va .a 5, va .b 0] = one 0xFFFFFFFFFFFFFFFF := by decide +kernel
/-- Signed and unsigned order (R234). -/
theorem test_min_signed : sent (.mins .always dst .null) [va .a (-1), va .b 1] = one (-1) := by decide
theorem test_minu : sent (.minu .always dst .null) [va .a (-1), va .b 1] = one 1 := by decide
/-- MOVI extends its sign, and MOVHI keeps the low half of A (R238, with its example). -/
theorem test_movi_sign : sent (.movi .always dst .null 0x89ABCDEF) [] = one 0xFFFFFFFF89ABCDEF := by decide
theorem test_movhi : sent (.movhi .always dst .null 0x01234567) [va .a 0xFFFFFFFF89ABCDEF] = one 0x0123456789ABCDEF := by decide
/-- COPY keeps the kind and the level (R238). -/
theorem test_copy_stop : sent (.copy .always dst .null) [cstop .a 3] = some [.ctl (CTok.stop 3)] := by decide
/-- LEA (R240): 0x1000 + 5 * 8 - 16. -/
theorem test_lea : sent (.lea .always dst .null 3 0xFFFFF0) [va .a 0x1000, va .b 5] = one 0x1018 := by decide
/-- BFX of bits 7 to 4, with the sign (R239). -/
theorem test_bfx_sign : sent (.bfx .always dst .null 4 3 1) [va .a 0xA5] = one 0xFFFFFFFFFFFFFFFA := by decide
/-- VADD of FS 1, INT8: lanes wrap apart from each other (R257). -/
theorem test_vadd_lanes : sent (.vadd .always 1 dst .null) [rec_ .a 0x01FF7F, rec_ .b 0x010101] = lanes 0x020080 := by decide +kernel
/-- VADDS of FS 1 saturates and reports it (R257). -/
theorem test_vadds : sent (.vadds .always 1 dst .null) [rec_ .a 0x807F, rec_ .b 0xFF01] = lanes 0x807F := by decide +kernel
/-- FP32 sums: 1 + 2 is 3 (0x40400000), and 2^24 + 1 rounds to even and is inexact (R99, R259). -/
theorem test_vfadd : sent (.vfadd .always 0 dst .null) [rec_ .a 0x4B8000003F800000, rec_ .b 0x3F80000040000000] = lanes 0x4B80000040400000 := by
  decide +kernel
/-- One rounding in VFMA (R259): 3 * 2 + 1 is 7. -/
theorem test_vfma : sent (.vfma .always 0 dst .null) [rec_ .a 0x40400000, rec_ .b 0x40000000, rec_ .c 0x3F800000] = lanes 0x40E00000 := by
  decide +kernel
/-- Conversions worked in spec/05: 1.3333334 to BF16 in three modes, 300 and 500 to E4M3, 300 to E5M2. -/
theorem test_convert_bf16 : (convert 7 6 0 false 0 0x3FAAAAAB).1 = 0x3FAB ∧ (convert 7 6 1 false 0 0x3FAAAAAB).1 = 0x3FAA := by decide +kernel
theorem test_convert_stochastic : (convert 7 6 5 false 0x600000 0x3FAAAAAB).1 = 0x3FAB ∧ (convert 7 6 5 false 0x123456 0x3FAAAAAB).1 = 0x3FAA := by
  decide +kernel
theorem test_convert_fp8 : (convert 7 8 0 false 0 0x43960000).1 = 0x79 ∧ (convert 7 9 0 false 0 0x43960000).1 = 0x5D ∧
    (convert 7 8 0 true 0 0x43FA0000).1 = 0x7E ∧ (convert 7 8 0 false 0 0x43FA0000).1 = 0x7F ∧ (convert 7 8 1 false 0 0x43FA0000).1 = 0x7E := by
  decide +kernel
/-- P2P8 (spec/05): 0.75 is 0x12, and -0.875 is 0x83, in units of 1/64. -/
theorem test_p2p8 : p2Encode false 48 = 0x12 ∧ p2Encode true 56 = 0x83 ∧ p2Val 0x83 = -56 := by decide +kernel
/-- Base-two exponentials worked in spec/16, and the last step for -126.5 (spec/16, spec/23). -/
theorem test_exp2 : (FF.fp32.exp2 0x3F000000).1 = 0x3FB504F3 ∧ (FF.fp32.exp2 0xBF000000).1 = 0x3F3504F3 ∧ (FF.fp32.exp2 0x3E800000).1 = 0x3F9837F0 := by
  decide +kernel
theorem test_scale : (FF.fp32.scl 0x3F3504F3 0xC2FC0000).1 = 0x005A827A := by decide +kernel
/-- VXEXP (R265): 3.0 gives 1, and 2^-149 gives -149. -/
theorem test_vxexp : (FF.fp32.xexp 0x40400000).1 = 0x3F800000 ∧ (FF.fp32.xexp 1).1 = 0xC3150000 := by decide +kernel

/-- The demo tile with converter slot 1 from FP32 to E4M3, to nearest even, saturating. -/
def convTile (x : Exec) : TileSt := { tileOf x with conv := [0, 0x781, 0, 0] }
def convState (ops : List Operand) : State := tileState (convTile (execOf ops))
/-- The token worked in spec/11: 1.0, -2.5, 300.0, 500.0; its flags are overflow and inexact, and SATFLAG. -/
def cvtOps : List Operand := [rec_ .a 0x43FA000043960000C02000003F800000]
theorem test_vcvt : sentFrom (convState cvtOps) (.vcvt .always 0 dst .null 1 0) = lanes 0x7E79C238 := by
  decide +kernel
theorem test_vcvt_flags : ((lastPend (exec (.vcvt .always 0 dst .null 1 0) (convState cvtOps))).map Pending.sat) = some true := by decide +kernel

/-- A stop passes through a lane instruction (R253). -/
theorem test_stop_passes : sent (.vfadd .always 0 dst .null) [stop .a 2, rec_ .b 1] = some [.data (DTok.stop 2)] := by decide +kernel

/-- The demo state after a step. -/
def after (i : Instr) (ops : List Operand) : State :=
  match exec i (demo ops) with
  | .next t => t
  | _ => demo ops
/-- TRAP freezes its kiln, with its code in the fault record (R241, R386). -/
theorem test_trap_freezes : (after (.trap .always 0x1234) []).kilns.map (fun k => k.stat) = [.freezing 0 .stop] := by decide +kernel
theorem test_trap_record : (after (.trap .always 0x1234) []).kilns.map (fun k => k.stops.map fun x => x.cause) = [[0x01]] := by decide +kernel
/-- HALT is the execution's exit (R229). -/
theorem test_halt_exit : ((after (.halt .always) []).kilns.map fun k => k.tiles.map fun t => t.execs.map Exec.exit) = [[[some (0, .halt)]]] := by
  decide +kernel

end Sys2Proof.Tests
end

section

namespace Sys2Proof.Machine

/-- R65's order on 23-bit SEQ values, as a bound on their distance: the model's natural-number remainder is the difference of the
bit vectors. -/
theorem seqBefore_toNat_iff (a b : BitVec 23) :
    seqBefore a.toNat b.toNat = true ↔ 1 ≤ (b - a).toNat ∧ (b - a).toNat ≤ 2 ^ 22 - 1 := by
  have distance : (b.toNat + 2 ^ 23 - a.toNat % 2 ^ 23) % 2 ^ 23 = (b - a).toNat := by bv_omega
  simp only [seqBefore, distance, Bool.and_eq_true, decide_eq_true_eq]

/-- The distances from `a` to `b` and back add up to the whole circle of SEQ values. -/
theorem seqDistance_add_rev {a b : BitVec 23} (hne : a ≠ b) : (b - a).toNat + (a - b).toNat = 2 ^ 23 := by
  bv_omega

theorem seqBefore_asymm {a b : BitVec 23} (hab : seqBefore a.toNat b.toNat = true) :
    seqBefore b.toNat a.toNat = false := by
  have hdist := (seqBefore_toNat_iff a b).mp hab
  have hne : a ≠ b := by
    rintro rfl
    simp at hdist
  have hcircle := seqDistance_add_rev hne
  rw [Bool.eq_false_iff, ne_eq, seqBefore_toNat_iff]
  omega

/-- Of two different values that are not opposite on the circle, the shorter way round is less than 2^22, so one precedes the other. -/
theorem seqBefore_or_seqBefore {a b : BitVec 23} (hne : a ≠ b) (hopp : (b - a).toNat ≠ 2 ^ 22) :
    seqBefore a.toNat b.toNat = true ∨ seqBefore b.toNat a.toNat = true := by
  have hcircle := seqDistance_add_rev hne
  have hback := (a - b).isLt
  have hforth := (b - a).isLt
  rw [seqBefore_toNat_iff, seqBefore_toNat_iff]
  omega

/-- Settles O45: the model's comparison is the distance bound of R65, and the two distances of different values add up to 2^23. -/
theorem sequenceOrder : Obligations.SequenceOrder := by
  unfold Obligations.SequenceOrder
  intro a b
  exact ⟨seqBefore_toNat_iff a b, seqBefore_asymm, seqBefore_or_seqBefore⟩

end Sys2Proof.Machine
end

section

namespace Sys2Proof.Machine

/-! Reading a control register after a write to it (R243, R410). -/

theorem execCtlwr_acts {s : State} {c : Ctx} {p : Pred} (h : s.Acts c p) (ta tb : Target) (idx : BitVec 12) :
    exec (.ctlwr p ta tb idx) s =
      .next (s.issuing c false ta tb
        { c.emit 1 ta tb (Tok.val (c.ctlReg idx.toNat)) with tsk := c.tsk.writeReg idx.toNat c.av }) :=
  onTile_acts h false ta tb _

theorem TileSt.task_setTask_same {t : TileSt} {i : Nat} (h : i < t.tasks.length) (x : TaskSt) :
    (t.setTask i x).task i = x := by
  simp [TileSt.task, TileSt.setTask, List.getD, h]

/-- Once the executing task's state is replaced, its registers are those of the new state. -/
theorem Ctx.ctlReg_setTask {c : Ctx} (h : c.task < c.t.tasks.length) (x : TaskSt) (i : Nat) :
    { c with t := c.t.setTask c.task x : Ctx }.ctlReg i = taskReg c.k (c.t.setTask c.task x) c.task x i := by
  simp only [Ctx.ctlReg, Ctx.tsk, TileSt.task_setTask_same h]

section
variable (k : Kiln) (t : TileSt) (task : Nat) (x : TaskSt) (v : Word)

theorem taskReg_fpflags : taskReg k t task x 0x010 = x.fpflags.setWidth 64 := rfl

theorem TaskSt.writeReg_fpflags : x.writeReg 0x010 v = { x with fpflags := BitVec.extractLsb' 0 5 v } := rfl

theorem taskReg_satflag : taskReg k t task x 0x011 = BitVec.ofNat 64 x.satflag.toNat := by
  change (if x.satflag then (1 : Word) else 0) = _
  cases x.satflag <;> rfl

theorem TaskSt.writeReg_satflag : x.writeReg 0x011 v = { x with satflag := v.getLsbD 0 } := rfl

theorem taskReg_writeReg_fpflags : taskReg k t task (x.writeReg 0x010 v) 0x010 = v &&& 0x1F := by
  rw [TaskSt.writeReg_fpflags, taskReg_fpflags]
  apply BitVec.eq_of_toNat_eq
  rw [BitVec.toNat_setWidth, BitVec.extractLsb'_toNat, BitVec.toNat_and]
  change v.toNat % 2 ^ 5 % 2 ^ 64 = v.toNat &&& 2 ^ 5 - 1
  rw [Nat.and_two_pow_sub_one_eq_mod]
  omega

theorem taskReg_writeReg_satflag : taskReg k t task (x.writeReg 0x011 v) 0x011 = v &&& 1 := by
  rw [TaskSt.writeReg_satflag, taskReg_satflag]
  change BitVec.ofNat 64 (v.getLsbD 0).toNat = v &&& 1#64
  rw [BitVec.and_one_eq_setWidth_ofBool_getLsbD]
  cases v.getLsbD 0 <;> rfl

/-- The two halves of GENCTR are written apart: what is written to one half is read from it. -/
theorem taskReg_writeReg_genCtrLow : taskReg k t task (x.writeReg 0x021 v) 0x021 = v := by
  change (BitVec.ofNat 128 (x.genCtr.toNat / 2 ^ 64 * 2 ^ 64 + v.toNat)).setWidth 64 = v
  bv_omega

theorem taskReg_writeReg_genCtrHigh : taskReg k t task (x.writeReg 0x022 v) 0x022 = v := by
  change (BitVec.ofNat 128 (v.toNat * 2 ^ 64 + x.genCtr.toNat % 2 ^ 64) >>> 64).setWidth 64 = v
  apply BitVec.eq_of_toNat_eq
  simp only [BitVec.toNat_setWidth, BitVec.toNat_ushiftRight, BitVec.toNat_ofNat, Nat.shiftRight_eq_div_pow]
  omega

variable {i : Nat}

theorem taskReg_stall (lo : 0x040 ≤ i) (hi : i ≤ 0x047) :
    taskReg k t task x i = BitVec.ofNat 64 (x.stalls.getD (i - 0x040) 0) := by
  interval_cases i <;> rfl

theorem TaskSt.writeReg_stall (lo : 0x040 ≤ i) (hi : i ≤ 0x047) :
    x.writeReg i v = { x with stalls := x.stalls.set (i - 0x040) v.toNat } := by
  interval_cases i <;> rfl

theorem taskReg_writeReg_stall (len : x.stalls.length = 8) (lo : 0x040 ≤ i) (hi : i ≤ 0x047) :
    taskReg k t task (x.writeReg i v) i = v := by
  have inRange : i - 0x040 < x.stalls.length := by omega
  rw [taskReg_stall _ _ _ _ lo hi, TaskSt.writeReg_stall _ _ lo hi]
  simp [List.getD, inRange]

/-- Of the rw registers only FPFLAGS and SATFLAG leave bits without a meaning; the others read back all of what was written. -/
theorem taskReg_writeReg_whole (len : x.stalls.length = 8)
    (h : i ∈ [0x020, 0x021, 0x022] ∨ 0x040 ≤ i ∧ i ≤ 0x047) : taskReg k t task (x.writeReg i v) i = v := by
  rcases h with h | ⟨lo, hi⟩
  · simp only [List.mem_cons, List.not_mem_nil, or_false] at h
    rcases h with rfl | rfl | rfl
    · rfl
    · exact taskReg_writeReg_genCtrLow k t task x v
    · exact taskReg_writeReg_genCtrHigh k t task x v
  · exact taskReg_writeReg_stall k t task x v len lo hi

end

/-- Settles O23: CTLWR records the register as it stood and the task with the register written, and each rw register reads back
the bits of the write that R243 gives meaning to. -/
theorem controlRegisterWrites : Obligations.ControlRegisterWrites := by
  unfold Obligations.ControlRegisterWrites
  intro s c p ta tb i acts
  refine ⟨?fpflags, ?satflag, ?reads⟩
  case fpflags =>
    rw [← taskReg_fpflags c.k c.t c.task, ← TaskSt.writeReg_fpflags]
    exact execCtlwr_acts acts ta tb 0x010
  case satflag =>
    rw [← taskReg_satflag c.k c.t c.task, ← TaskSt.writeReg_satflag]
    exact execCtlwr_acts acts ta tb 0x011
  case reads =>
    intro inTile len after
    have read : after.ctlReg i = taskReg c.k after.t c.task (c.tsk.writeReg i c.av) i := Ctx.ctlReg_setTask inTile _ i
    rw [read]
    refine ⟨?_, ?_, taskReg_writeReg_whole _ _ _ _ _ len⟩
    · rintro rfl
      rw [taskReg_writeReg_fpflags]
      exact ⟨rfl, fun allOnes => by rw [allOnes]; rfl⟩
    · rintro rfl
      exact taskReg_writeReg_satflag _ _ _ _ _

end Sys2Proof.Machine
end

section

-- One proof at a time: the whole text then stays within the memory of a check.
set_option Elab.async false

namespace Sys2Proof

/-! Words packed from fields: a word that is the sum of fields over disjoint ranges of bits reads back as each of them, and as zero where
none of them lies. -/

/-- A field of a word: its lowest bit, its width and its value. -/
structure BitField where
  lo : Nat
  n : Nat
  val : Nat

/-- Bits [lo + n - 1 : lo] lie outside the field. -/
def BitField.apart (lo n : Nat) (f : BitField) : Bool := Nat.ble (lo + n) f.lo || Nat.ble (f.lo + f.n) lo

/-- The fields lie below bit `width`, no two over the same bit. -/
def layout (width : Nat) : List BitField → Bool
  | [] => true
  | f :: fs => Nat.ble (f.lo + f.n) width && fs.all (BitField.apart f.lo f.n) && layout width fs

/-- Fields below a bit lie below each higher one, and apart from what stands above. -/
theorem layout_below {width wide : Nat} {fs : List BitField} (h : layout width fs = true) (le : width ≤ wide) :
    layout wide fs = true ∧ ∀ n : Nat, fs.all (BitField.apart wide n) = true := by
  induction fs with
  | nil => exact ⟨rfl, fun _ => rfl⟩
  | cons f fs ih =>
    simp only [layout, Bool.and_eq_true, Nat.ble_eq] at h
    obtain ⟨⟨fit, apart⟩, rest⟩ := h
    obtain ⟨below, above⟩ := ih rest
    simp only [layout, List.all_cons, BitField.apart, Bool.and_eq_true, Bool.or_eq_true, Nat.ble_eq]
    exact ⟨⟨⟨by omega, apart⟩, below⟩, fun n => ⟨Or.inr (by omega), above n⟩⟩

/-- What bits [lo + n - 1 : lo] hold where they are one of the fields, or lie outside them all. -/
def readback (lo n : Nat) : List BitField → Option Nat
  | [] => some 0
  | f :: fs => bif Nat.beq f.lo lo && Nat.beq f.n n then some f.val else bif f.apart lo n then readback lo n fs else none

/-- A number written as a sum of fields: the forms in which the encoder writes one. -/
inductive FieldSum : List BitField → Nat → Prop
  | none : FieldSum [] 0
  | add {fs gs : List BitField} {x y : Nat} : FieldSum fs x → FieldSum gs y → FieldSum (fs ++ gs) (x + y)
  | bits (lo : Nat) {n : Nat} (v : BitVec n) : FieldSum [⟨lo, n, v.toNat⟩] (v.toNat * 2 ^ lo)
  | low {n : Nat} (v : BitVec n) : FieldSum [⟨0, n, v.toNat⟩] v.toNat
  | flag (lo : Nat) : FieldSum [⟨lo, 1, 1⟩] (2 ^ lo)
  | code (lo : Nat) {c : Nat} (h : Nat.blt c (2 ^ 8) = true) : FieldSum [⟨lo, 8, c⟩] (c * 2 ^ lo)
  | value (lo n : Nat) {v : Nat} (h : v < 2 ^ n) : FieldSum [⟨lo, n, v⟩] (v * 2 ^ lo)

/-- The number that the fields make. -/
def fieldTotal : List BitField → Nat
  | [] => 0
  | f :: fs => fieldTotal fs + f.val * 2 ^ f.lo

theorem fieldTotal_append (fs gs : List BitField) : fieldTotal (fs ++ gs) = fieldTotal fs + fieldTotal gs := by
  induction fs with
  | nil => simp only [List.nil_append, fieldTotal, Nat.zero_add]
  | cons f fs ih => simp only [List.cons_append, fieldTotal, ih]; omega

theorem FieldSum.total_eq {fs : List BitField} {x : Nat} (h : FieldSum fs x) : fieldTotal fs = x := by
  induction h with
  | none => rfl
  | add _ _ ihx ihy => rw [fieldTotal_append, ihx, ihy]
  | low v => simp only [fieldTotal, pow_zero, Nat.mul_one, Nat.zero_add]
  | flag lo => simp only [fieldTotal, Nat.one_mul, Nat.zero_add]
  | bits | code | value => simp only [fieldTotal, Nat.zero_add]

theorem FieldSum.val_lt {fs : List BitField} {x : Nat} (h : FieldSum fs x) : ∀ f ∈ fs, f.val < 2 ^ f.n := by
  induction h with
  | none => exact fun _ hf => nomatch hf
  | add _ _ ihx ihy => exact fun f hf => (List.mem_append.mp hf).elim (ihx f) (ihy f)
  | bits | low => exact fun f hf => List.mem_singleton.mp hf ▸ BitVec.isLt _
  | flag => exact fun f hf => List.mem_singleton.mp hf ▸ Nat.one_lt_two
  | code _ h => exact fun f hf => List.mem_singleton.mp hf ▸ Nat.blt_eq.mp h
  | value _ _ h => exact fun f hf => List.mem_singleton.mp hf ▸ h

/-- A value added over bits that are clear does not reach the bits above them. -/
theorem div_add_field {x v lo n m : Nat} (clear : fld x lo n = 0) (hv : v < 2 ^ n) (h : lo + n ≤ m) :
    (x + v * 2 ^ lo) / 2 ^ m = x / 2 ^ m := by
  have split : 2 ^ m = 2 ^ lo * 2 ^ n * 2 ^ (m - (lo + n)) := by rw [← pow_add, ← pow_add]; congr 1; omega
  have field : (x / 2 ^ lo + v) / 2 ^ n = x / 2 ^ lo / 2 ^ n := by
    have top := Nat.div_add_mod (x / 2 ^ lo) (2 ^ n)
    rw [fld] at clear
    rw [clear, Nat.add_zero] at top
    rw [← top, Nat.mul_add_div (by positivity), Nat.div_eq_of_lt hv, Nat.mul_div_cancel_left _ (by positivity), Nat.add_zero]
  rw [split, ← Nat.div_div_eq_div_mul, ← Nat.div_div_eq_div_mul, Nat.add_mul_div_right _ _ (by positivity), field,
    ← Nat.div_div_eq_div_mul, ← Nat.div_div_eq_div_mul]

/-- A value added over bits that are clear reads back there. -/
theorem fld_add_field_self {x v lo n : Nat} (clear : fld x lo n = 0) (hv : v < 2 ^ n) : fld (x + v * 2 ^ lo) lo n = v := by
  rw [fld] at clear ⊢
  rw [Nat.add_mul_div_right _ _ (by positivity), Nat.add_mod, clear, Nat.zero_add, Nat.mod_mod, Nat.mod_eq_of_lt hv]

/-- A value added over bits that are clear leaves every bit apart from them. -/
theorem fld_add_field_apart {x lo n : Nat} {f : BitField} (clear : fld x f.lo f.n = 0) (hv : f.val < 2 ^ f.n)
    (h : f.apart lo n = true) : fld (x + f.val * 2 ^ f.lo) lo n = fld x lo n := by
  simp only [BitField.apart, Bool.or_eq_true, Nat.ble_eq] at h
  rcases h with below | above
  · have split : f.val * 2 ^ f.lo = 2 ^ lo * (2 ^ n * (f.val * 2 ^ (f.lo - (lo + n)))) := by
      rw [show 2 ^ f.lo = 2 ^ lo * 2 ^ n * 2 ^ (f.lo - (lo + n)) by rw [← pow_add, ← pow_add]; congr 1; omega]
      ring
    rw [fld, split, Nat.add_mul_div_left _ _ (by positivity), Nat.add_mul_mod_self_left, fld]
  · rw [fld, div_add_field clear hv above, fld]

/-- Fields laid out apart, with values of their widths. -/
structure WordFields (width : Nat) (fs : List BitField) : Prop where
  fit : layout width fs = true
  lt : ∀ f ∈ fs, f.val < 2 ^ f.n

namespace WordFields
variable {width : Nat} {f : BitField} {fs : List BitField}

theorem tail (h : WordFields width (f :: fs)) : WordFields width fs := by
  obtain ⟨fit, lt⟩ := h
  simp only [layout, Bool.and_eq_true] at fit
  exact ⟨fit.2, fun g hg => lt g (List.mem_cons_of_mem _ hg)⟩

theorem head_lt (h : WordFields width (f :: fs)) : f.val < 2 ^ f.n := h.lt f List.mem_cons_self

theorem head_le (h : WordFields width (f :: fs)) : f.lo + f.n ≤ width := by
  have fit := h.fit
  simp only [layout, Bool.and_eq_true, Nat.ble_eq] at fit
  exact fit.1.1

theorem head_apart (h : WordFields width (f :: fs)) : fs.all (BitField.apart f.lo f.n) = true := by
  have fit := h.fit
  simp only [layout, Bool.and_eq_true] at fit
  exact fit.1.2

/-- Bits apart from every field are clear. -/
theorem fld_of_apart {lo n : Nat} (h : WordFields width fs) (apart : fs.all (BitField.apart lo n) = true) : fld (fieldTotal fs) lo n = 0 := by
  induction fs generalizing lo n with
  | nil => rw [fieldTotal, fld, Nat.zero_div, Nat.zero_mod]
  | cons f fs ih =>
    simp only [List.all_cons, Bool.and_eq_true] at apart
    rw [fieldTotal, fld_add_field_apart (ih h.tail h.head_apart) h.head_lt apart.1, ih h.tail apart.2]

theorem fieldTotal_lt (h : WordFields width fs) : fieldTotal fs < 2 ^ width := by
  induction fs with
  | nil => exact Nat.two_pow_pos _
  | cons f fs ih =>
    rw [← Nat.div_eq_zero_iff_lt (Nat.two_pow_pos _), fieldTotal, div_add_field (h.tail.fld_of_apart h.head_apart) h.head_lt h.head_le,
      Nat.div_eq_of_lt (ih h.tail)]

theorem fld_eq {lo n v : Nat} (h : WordFields width fs) (read : readback lo n fs = some v) : fld (fieldTotal fs) lo n = v := by
  induction fs with
  | nil =>
    cases read
    rw [fieldTotal, fld, Nat.zero_div, Nat.zero_mod]
  | cons f fs ih =>
    have clear := h.tail.fld_of_apart h.head_apart
    rw [readback] at read
    cases here : Nat.beq f.lo lo && Nat.beq f.n n with
    | true =>
      rw [here, cond_true] at read
      cases read
      simp only [Bool.and_eq_true, Nat.beq_eq] at here
      obtain ⟨rfl, rfl⟩ := here
      exact fld_add_field_self clear h.head_lt
    | false =>
      cases apart : f.apart lo n with
      | true =>
        rw [here, apart, cond_false, cond_true] at read
        rw [fieldTotal, fld_add_field_apart clear h.head_lt apart, ih h.tail read]
      | false =>
        rw [here, apart] at read
        cases read

end WordFields

/-- Word `w` is a sum of fields laid out apart below bit `width`. -/
structure PackedFields (width : Nat) (fs : List BitField) (w : Nat) : Prop where
  sum : FieldSum fs w
  fit : layout width fs = true

namespace PackedFields
variable {width w : Nat} {fs : List BitField}

/-- The word that an encoder answers is the sum of its fields. -/
theorem of_some {x : Nat} (enc : some x = some w) (sum : FieldSum fs x)
    (fit : layout width fs = true) : PackedFields width fs w :=
  ⟨Option.some.inj enc ▸ sum, fit⟩

theorem lt (h : PackedFields width fs w) : w < 2 ^ width := h.sum.total_eq ▸ WordFields.fieldTotal_lt ⟨h.fit, h.sum.val_lt⟩

theorem fld_eq {lo n v : Nat} (h : PackedFields width fs w) (read : readback lo n fs = some v) : fld w lo n = v :=
  h.sum.total_eq ▸ WordFields.fld_eq ⟨h.fit, h.sum.val_lt⟩ read

theorem gap_eq {lo n : Nat} (h : PackedFields width fs w) (read : readback lo n fs = some 0) : gap w lo n = true := by
  rw [gap, h.fld_eq read, beq_self_eq_true]

/-- A field that holds a bit vector reads back as it. -/
theorem ofNat_eq {lo n m : Nat} {v : BitVec m} (h : PackedFields width fs w) (read : readback lo n fs = some v.toNat) :
    BitVec.ofNat m (fld w lo n) = v := by
  rw [h.fld_eq read, BitVec.ofNat_toNat, BitVec.setWidth_eq]

end PackedFields

theorem and_true_intro {a b : Bool} (ha : a = true) (hb : b = true) : (a && b) = true := by rw [ha, hb, Bool.and_self]

end Sys2Proof
end

section

-- One proof at a time: the whole text then stays within the memory of a check.
set_option Elab.async false

namespace Sys2Proof

/-! Decoding an encoded drove-list command gives it back (R219, R339): its word is a sum of fields, whose places the encoder's own
expression gives. -/

theorem checkedD_wellFormed {gaps : Bool} {i : Instr} (hg : gaps = true) (wf : i.wellFormed = true) : checkedD gaps i = .ok i := by
  simp only [Instr.wellFormed, Bool.and_eq_true] at wf
  obtain ⟨⟨⟨-, imm⟩, -⟩, format⟩ := wf
  simp only [checkedD, imm, format, hg, Bool.not_true, Bool.or_self, Bool.false_eq_true, ↓reduceIte]

/-- The decoder builds `i` where the reserved bits are clear and the fields read as those of `i`. -/
theorem checkedD_fields {gaps : Bool} {i j : Instr} (hg : gaps = true) (hi : j = i) (wf : i.wellFormed = true) : checkedD gaps j = .ok i :=
  hi ▸ checkedD_wellFormed hg (hi ▸ wf)

theorem decodeDroveNat_encodeDrove {i : Instr} {w : Nat} (wf : i.wellFormed = true) (enc : encodeDrove i = some w) :
    w < 2 ^ 128 ∧ decodeDroveNat w = .ok i := by
  unfold decodeDroveNat
  generalize hcode : fld w 120 8 = c
  cases i
  case dnop | dhalt | dset | dmov | dnext | djmp | djz | dpat | dpush | dpull | dgtld | dgath | dwick | dsig | dfence | dfold | dcopy | dpref
     | dconv =>
    have word := PackedFields.of_some (width := 128) enc (by (repeat' with_reducible constructor); all_goals decide) rfl
    obtain rfl := (word.fld_eq (lo := 120) (n := 8) rfl).symm.trans hcode
    refine ⟨word.lt, checkedD_fields ?_ ?_ wf⟩
    · repeat' with_reducible apply and_true_intro
      all_goals exact word.gap_eq rfl
    · congr 1 <;> exact word.ofNat_eq rfl
  case dadd _ _ src | dloop _ src _ | dwaitc _ src =>
    cases src with
    | reg =>
      have word := PackedFields.of_some (width := 128) enc (by (repeat' with_reducible constructor); all_goals decide) rfl
      obtain rfl := (word.fld_eq (lo := 120) (n := 8) rfl).symm.trans hcode
      refine ⟨word.lt, (if_neg (ne_of_eq_of_ne (word.fld_eq rfl) Nat.zero_ne_one)).trans (checkedD_fields ?_ ?_ wf)⟩
      · repeat' with_reducible apply and_true_intro
        all_goals exact word.gap_eq rfl
      · congr 2 <;> exact word.ofNat_eq rfl
    | imm =>
      have word := PackedFields.of_some (width := 128) enc (by (repeat' with_reducible constructor); all_goals decide) rfl
      obtain rfl := (word.fld_eq (lo := 120) (n := 8) rfl).symm.trans hcode
      refine ⟨word.lt, (if_pos (word.fld_eq rfl)).trans (checkedD_fields (word.gap_eq rfl) ?_ wf)⟩
      congr 2 <;> exact word.ofNat_eq rfl
  all_goals cases enc

end Sys2Proof

namespace Sys2Proof.Machine

/-- Settles O7: a command's word is a sum of fields laid out apart, so its code, its reserved bits and each operand read back. -/
theorem droveEncodeDecode : Obligations.DroveEncodeDecode := by
  unfold Obligations.DroveEncodeDecode
  intro i w wf enc
  exact decodeDroveNat_encodeDrove wf enc

end Sys2Proof.Machine
end

section

-- One proof at a time: the whole text then stays within the memory of a check.
set_option Elab.async false

namespace Sys2Proof

/-! Decoding an encoded tile instruction gives it back (R195 to R199, R220): its word is a sum of fields laid out apart; predicate, target
and qualifier codes name what they encode; and each row of the opcode map builds the instruction from those fields. -/

/-! Codes. -/

theorem Pred.code_lt (p : Pred) : p.code < 2 ^ 2 := by cases p <;> decide

theorem decodePred_code (p : Pred) : decodePred p.code = some p := by cases p <;> rfl

theorem LoadQual.code_lt (q : LoadQual) : q.code < 2 ^ 2 := by cases q <;> decide

theorem decodeLoadQual_code (q : LoadQual) : decodeLoadQual q.code = some q := by cases q <;> rfl

theorem StoreQual.code_lt (q : StoreQual) : q.code < 2 ^ 2 := by cases q <;> decide

theorem decodeStoreQual_code (q : StoreQual) : decodeStoreQual q.code = some q := by cases q <;> rfl

theorem GlobalQual.code_lt (q : GlobalQual) : q.code < 2 ^ 2 := by cases q <;> decide

theorem decodeGlobalQual_code (q : GlobalQual) : decodeGlobalQual q.code = q := by cases q <;> rfl

theorem Pos.code_lt (pos : Pos) : pos.code < 4 := by cases pos <;> decide

theorem Pos.ofCode_code (pos : Pos) : Pos.ofCode pos.code = pos := by cases pos <;> rfl

theorem Target.code_lt (t : Target) : t.code < 2 ^ 10 := by
  cases t with
  | slot n pos => have := pos.code_lt; simp only [Target.code]; omega
  | null => decide
  | port out vc => simp only [Target.code]; omega
  | keep n => simp only [Target.code]; omega
  | signal n => simp only [Target.code]; omega

/-- A field that holds a bit vector reads back as it. -/
theorem ofNat_eq_of_toNat {n m : Nat} {v : BitVec n} (h : m = v.toNat) : BitVec.ofNat n m = v := by
  rw [h, BitVec.ofNat_toNat, BitVec.setWidth_eq]

/-- The kind of a target code that is no slot's stands in its bits [8:6]. -/
theorem decodeTarget_high {n k m : Nat} (hk : k < 8) (hm : m < 64) (hn : n = 0x200 + 64 * k + m) :
    fld n 9 1 = 1 ∧ fld n 6 3 = k ∧ fld n 0 6 = m := by
  unfold fld
  omega

theorem decodeTarget_code (t : Target) : decodeTarget t.code = some t := by
  cases t with
  | slot n pos =>
    have hpos := pos.code_lt
    have kind : fld (Target.slot n pos).code 9 1 = 0 := by simp only [Target.code, fld]; omega
    have slot : fld (Target.slot n pos).code 2 7 = n.toNat := by simp only [Target.code, fld]; omega
    have place : fld (Target.slot n pos).code 0 2 = pos.code := by simp only [Target.code, fld]; omega
    simp only [decodeTarget, kind, slot, place, ↓reduceIte, ofNat_eq_of_toNat rfl, Pos.ofCode_code]
  | null => rfl
  | port p v =>
    obtain ⟨high, kind, -⟩ := decodeTarget_high (n := (Target.port p v).code) (k := 1) (m := p.toNat * 8 + v.toNat)
      (by omega) (by omega) (by simp only [Target.code]; omega)
    have port : fld (Target.port p v).code 3 3 = p.toNat := by simp only [Target.code, fld]; omega
    have vc : fld (Target.port p v).code 0 3 = v.toNat := by simp only [Target.code, fld]; omega
    simp only [decodeTarget, high, kind, port, vc, Nat.one_ne_zero, ↓reduceIte, ofNat_eq_of_toNat rfl]
  | keep n =>
    obtain ⟨high, kind, low⟩ := decodeTarget_high (n := (Target.keep n).code) (k := 2) (m := n.toNat)
      (by omega) (by omega) (by simp only [Target.code])
    simp only [decodeTarget, high, kind, low, Nat.one_ne_zero, ↓reduceIte, ofNat_eq_of_toNat rfl]
  | signal n =>
    obtain ⟨high, kind, -⟩ := decodeTarget_high (n := (Target.signal n).code) (k := 3) (m := n.toNat)
      (by omega) (by omega) (by simp only [Target.code])
    have none_ : fld (Target.signal n).code 4 2 = 0 := by simp only [Target.code, fld]; omega
    have sig : fld (Target.signal n).code 0 4 = n.toNat := by simp only [Target.code, fld]; omega
    simp only [decodeTarget, high, kind, none_, sig, Nat.one_ne_zero, ↓reduceIte, ofNat_eq_of_toNat rfl]

/-! The fields of an instruction word (R195). -/

/-- The fields of an instruction word above those of its immediate. -/
def wordFields (op pm fs tga tgb : Nat) (imm : List BitField) : List BitField :=
  ⟨56, 8, op⟩ :: ⟨54, 2, pm⟩ :: ⟨52, 2, fs⟩ :: ⟨42, 10, tga⟩ :: ⟨32, 10, tgb⟩ :: imm

theorem FieldSum.packWord {op pm fs tga tgb imm : Nat} {fields : List BitField} (hop : op < 2 ^ 8) (hpm : pm < 2 ^ 2) (hfs : fs < 2 ^ 2)
    (hta : tga < 2 ^ 10) (htb : tgb < 2 ^ 10) (himm : FieldSum fields imm) :
    FieldSum (wordFields op pm fs tga tgb fields) (packWord op pm fs tga tgb imm) :=
  .add (.add (.add (.add (.add (.value 56 8 hop) (.value 54 2 hpm)) (.value 52 2 hfs)) (.value 42 10 hta)) (.value 32 10 htb)) himm

/-- The six fields of an instruction word lie apart where those of the immediate do. -/
theorem layout_wordFields {op pm fs tga tgb : Nat} {imm : List BitField} (h : layout 32 imm = true) :
    layout 64 (wordFields op pm fs tga tgb imm) = true := by
  have apart {lo : Nat} (le : 32 ≤ lo) (n : Nat) : imm.all (BitField.apart lo n) = true := (layout_below h le).2 n
  simp only [wordFields, layout, List.all_cons, apart (show 32 ≤ 56 by decide), apart (show 32 ≤ 54 by decide),
    apart (show 32 ≤ 52 by decide), apart (show 32 ≤ 42 by decide), apart (le_refl 32), (layout_below h (show 32 ≤ 64 by decide)).1]
  rfl

/-- The word of an instruction with two targets. -/
theorem PackedFields.of_targets {w op pm fs imm : Nat} {ta tb : Target} {fields : List BitField}
    (enc : some (packWord op pm fs ta.code tb.code imm) = some w) (hop : op < 2 ^ 8) (hpm : pm < 2 ^ 2) (hfs : fs < 2 ^ 2)
    (himm : FieldSum fields imm) (fit : layout 32 fields = true) : PackedFields 64 (wordFields op pm fs ta.code tb.code fields) w :=
  .of_some enc (.packWord hop hpm hfs ta.code_lt tb.code_lt himm) (layout_wordFields fit)

section
variable {w op pm fs tga tgb : Nat} {imm : List BitField} (word : PackedFields 64 (wordFields op pm fs tga tgb imm) w)
include word

/-- The opcode names the row and the column of its cell of the opcode map. -/
theorem PackedFields.cell_eq {row col : Nat} (hrow : fld w 60 4 = row) (hcol : fld w 56 4 = col) : op / 16 = row ∧ op % 16 = col := by
  have code : fld w 56 8 = op := word.fld_eq rfl
  unfold fld at code hrow hcol
  omega

theorem PackedFields.pm_eq : fld w 54 2 = pm := word.fld_eq rfl

theorem PackedFields.fs_eq : fld w 52 2 = fs := word.fld_eq rfl

theorem PackedFields.ta_eq : fld w 42 10 = tga := word.fld_eq rfl

theorem PackedFields.tb_eq : fld w 32 10 = tgb := word.fld_eq rfl

end

/-! What stands in a cell of the opcode map builds the instruction. -/

/-- An instruction that is well formed passes the shared checks. -/
theorem checked_wellFormed {gaps : Bool} {i : Instr} (hg : gaps = true) (wf : i.wellFormed = true) : checked gaps i = .ok i := by
  simp only [Instr.wellFormed, Bool.and_eq_true] at wf
  obtain ⟨⟨⟨target, imm⟩, name⟩, -⟩ := wf
  simp only [checked, target, imm, name, hg, Bool.not_true, Bool.or_self, Bool.false_eq_true, ↓reduceIte]

section
variable {w op fs : Nat} {imm : List BitField} {p : Pred} {ta tb : Target} {gaps : Bool} {i : Instr}

theorem buildQ_word {α : Type} {q : Option α} {a : α} {mk : Pred → α → Target → Target → Instr}
    (word : PackedFields 64 (wordFields op p.code fs ta.code tb.code imm) w) (hq : q = some a) (hg : gaps = true) (hi : mk p a ta tb = i)
    (wf : i.wellFormed = true) : buildQ w q gaps mk = .ok i := by
  simp only [buildQ, word.pm_eq, word.ta_eq, word.tb_eq, decodePred_code, decodeTarget_code, hq, hi]
  exact checked_wellFormed hg wf

theorem fsZero_word {pm tga tgb : Nat} (word : PackedFields 64 (wordFields op pm 0 tga tgb imm) w) : fsZero w = some () := by
  rw [fsZero, word.fs_eq, if_pos rfl]

theorem fsSlot_word {pm tga tgb : Nat} {fs : BitVec 2} (word : PackedFields 64 (wordFields op pm fs.toNat tga tgb imm) w) :
    fsSlot w = some fs := by
  rw [fsSlot, word.ofNat_eq rfl]

theorem loadQual_word {pm tga tgb : Nat} {q : LoadQual} (word : PackedFields 64 (wordFields op pm q.code tga tgb imm) w) :
    decodeLoadQual (fld w 52 2) = some q := by
  rw [word.fs_eq, decodeLoadQual_code]

theorem storeQual_word {pm tga tgb : Nat} {q : StoreQual} (word : PackedFields 64 (wordFields op pm q.code tga tgb imm) w) :
    decodeStoreQual (fld w 52 2) = some q := by
  rw [word.fs_eq, decodeStoreQual_code]

theorem globalQual_word {pm tga tgb : Nat} {q : GlobalQual} (word : PackedFields 64 (wordFields op pm q.code tga tgb imm) w) :
    some (decodeGlobalQual (fld w 52 2)) = some q := by
  rw [word.fs_eq, decodeGlobalQual_code]

theorem buildC_word {mk : Pred → Target → Target → Instr} (word : PackedFields 64 (wordFields op p.code 0 ta.code tb.code imm) w)
    (hg : gaps = true) (hi : mk p ta tb = i) (wf : i.wellFormed = true) : buildC w gaps mk = .ok i :=
  buildQ_word word (fsZero_word word) hg hi wf

theorem buildS_word {mk : Target → Target → Instr} (word : PackedFields 64 (wordFields op 0 0 ta.code tb.code imm) w) (hg : gaps = true)
    (hi : mk ta tb = i) (wf : i.wellFormed = true) : buildS w gaps mk = .ok i := by
  rw [buildS, word.pm_eq, if_neg (by decide)]
  exact buildQ_word (p := .always) word (fsZero_word word) hg hi wf

theorem buildN_word {mk : Pred → Instr} (word : PackedFields 64 (wordFields op p.code 0 0x200 0x200 imm) w) (hg : gaps = true)
    (hi : mk p = i) (wf : i.wellFormed = true) : buildN w gaps mk = .ok i := by
  simp only [buildN, word.pm_eq, word.fs_eq, word.ta_eq, word.tb_eq, decodePred_code, ne_eq, not_true_eq_false, or_self, ↓reduceIte, hi]
  exact checked_wellFormed hg wf

end

theorem decodeTileNat_encodeTile {i : Instr} {w : Nat} (wf : i.wellFormed = true) (enc : encodeTile i = some w) :
    w < 2 ^ 64 ∧ decodeTileNat w = .ok i := by
  unfold decodeTileNat decodeRow0 decodeRow1 decodeRow2 decodeRow3 decodeRow4 decodeRow5 decodeRow6 decodeRow7 decodeRow8 decodeRow9
    decodeRowA decodeRowB decodeRowC decodeRowD decodeRowE
  generalize hrow : fld w 60 4 = row
  generalize hcol : fld w 56 4 = col
  cases i
  case nop | exit | exitx | halt | yield | ctxend | trap | brk =>
    have word := PackedFields.of_some (width := 64) enc (.packWord (by decide) (Pred.code_lt _) (by decide) (by decide) (by decide)
      (by repeat' with_reducible constructor)) (layout_wordFields rfl)
    obtain ⟨rfl, rfl⟩ := word.cell_eq hrow hcol
    refine ⟨word.lt, buildN_word word (word.gap_eq rfl) ?_ wf⟩
    congr 1 <;> exact word.ofNat_eq rfl
  case pset | pnot | pand | por | pxor | tstz | tstnz | tstneg | tstbit | add | sub | mul | mulhs | mulhu | divs | divu | rems | remu
     | and | or | xor | shl | shr | sar | rol | ceq | cne | clt | cle | cltu | cleu | mins | maxs | minu | maxu | abs | neg | not | copy
     | shli | shri | sari | popc | clz | ctz | bfx | bfi | lea | feset | feclr | fetst | krd | kwr | acrd | acwr | acclr | wick | wadv
     | fence | ordj | bell | bella | abstn | qpush | qpop | qlen | lnch | sigc | waitc | bmwait | lgen | lgen2 | spscn | rptc | rpte
     | emstp | tkind | itgate | take | cnttk | seqrd | wgtrd | wgtwr | isgap | gaprd | emgap | voidr | wsel | adrn | azero | dtag | xreq
     | drvk | gtatt | gtdet | gtfld | ctlrd | ctlwr | cntrd | rand | seed | fwsvc =>
    have word := PackedFields.of_targets enc (by decide) (Pred.code_lt _) (by decide) (by repeat' with_reducible constructor) rfl
    obtain ⟨rfl, rfl⟩ := word.cell_eq hrow hcol
    refine ⟨word.lt, buildC_word word (word.gap_eq rfl) ?_ wf⟩
    congr 1 <;> exact word.ofNat_eq rfl
  case addi | muli | movi | movhi | andi | ori | xori | ceqi | timer =>
    have word := PackedFields.of_targets enc (by decide) (Pred.code_lt _) (by decide) (by repeat' with_reducible constructor) rfl
    obtain ⟨rfl, rfl⟩ := word.cell_eq hrow hcol
    refine ⟨word.lt, buildC_word word rfl ?_ wf⟩
    congr 1
    exact word.ofNat_eq rfl
  case sel =>
    have word := PackedFields.of_targets enc (by decide) (by decide) (by decide) (by repeat' with_reducible constructor) rfl
    obtain ⟨rfl, rfl⟩ := word.cell_eq hrow hcol
    exact ⟨word.lt, buildS_word word (word.gap_eq rfl) rfl wf⟩
  case vadd | vsub | vmul | vmad | vmin | vmax | vabs | vneg | vand | vor | vxor | vshl | vshr | vsar | vadds | vsubs | vfadd | vfsub
     | vfmul | vfma | vfms | vfnma | vfmin | vfmax | vfabs | vfneg | vfcmp | vsel | vfrcp | vfrsq | vfcls | vfscl | vcvt | vrint | vfexp
     | vflog | vxexp | vred | vscan | vshuf | vsplat | vextr | vinsl | vpack | vunpk | vqnt | vdqnt | vprune | wacc | wincl | joink | wld
     | wlds | arow | xfwd | xinv | cmac | cmul | cconj =>
    have word := PackedFields.of_targets enc (by decide) (Pred.code_lt _) (BitVec.isLt _) (by repeat' with_reducible constructor) rfl
    obtain ⟨rfl, rfl⟩ := word.cell_eq hrow hcol
    refine ⟨word.lt, buildQ_word word (fsSlot_word word) (word.gap_eq rfl) ?_ wf⟩
    congr 1 <;> exact word.ofNat_eq rfl
  case lds | ldsx =>
    have word := PackedFields.of_targets enc (by decide) (Pred.code_lt _) (LoadQual.code_lt _) (by repeat' with_reducible constructor) rfl
    obtain ⟨rfl, rfl⟩ := word.cell_eq hrow hcol
    refine ⟨word.lt, buildQ_word word (loadQual_word word) (and_true_intro (word.gap_eq rfl) (word.gap_eq rfl)) ?_ wf⟩
    congr 1 <;> exact word.ofNat_eq rfl
  case ldsv =>
    have word := PackedFields.of_targets enc (by decide) (Pred.code_lt _) (LoadQual.code_lt _) (by repeat' with_reducible constructor) rfl
    obtain ⟨rfl, rfl⟩ := word.cell_eq hrow hcol
    refine ⟨word.lt, buildQ_word word (loadQual_word word) (word.gap_eq rfl) ?_ wf⟩
    congr 1
    exact word.ofNat_eq rfl
  case sts | stsx =>
    have word := PackedFields.of_targets enc (by decide) (Pred.code_lt _) (StoreQual.code_lt _) (by repeat' with_reducible constructor) rfl
    obtain ⟨rfl, rfl⟩ := word.cell_eq hrow hcol
    refine ⟨word.lt, buildQ_word word (storeQual_word word) (and_true_intro (word.gap_eq rfl) (word.gap_eq rfl)) ?_ wf⟩
    congr 1 <;> exact word.ofNat_eq rfl
  case stsv =>
    have word := PackedFields.of_targets enc (by decide) (Pred.code_lt _) (StoreQual.code_lt _) (by repeat' with_reducible constructor) rfl
    obtain ⟨rfl, rfl⟩ := word.cell_eq hrow hcol
    refine ⟨word.lt, buildQ_word word (storeQual_word word) (word.gap_eq rfl) ?_ wf⟩
    congr 1
    exact word.ofNat_eq rfl
  case gld | gldv | gst | gstv | aadd | aand | aor | axor | amin | amax | aminu | amaxu | axch =>
    have word := PackedFields.of_targets enc (by decide) (Pred.code_lt _) (GlobalQual.code_lt _) (by repeat' with_reducible constructor) rfl
    obtain ⟨rfl, rfl⟩ := word.cell_eq hrow hcol
    refine ⟨word.lt, buildQ_word word (globalQual_word word) (word.gap_eq rfl) ?_ wf⟩
    congr 1 <;> exact word.ofNat_eq rfl
  case acas =>
    have word := PackedFields.of_targets enc (by decide) (Pred.code_lt _) (GlobalQual.code_lt _) (by repeat' with_reducible constructor) rfl
    obtain ⟨rfl, rfl⟩ := word.cell_eq hrow hcol
    refine ⟨word.lt, buildQ_word word (globalQual_word word) rfl ?_ wf⟩
    congr 1 <;> exact word.ofNat_eq rfl
  case afadd | atas =>
    have word := PackedFields.of_targets enc (by decide) (Pred.code_lt _) (GlobalQual.code_lt _)
      (.add (.add (.bits 29 _) (.low _)) (.value 27 2 (by decide))) rfl
    obtain ⟨rfl, rfl⟩ := word.cell_eq hrow hcol
    refine ⟨word.lt, buildQ_word word (globalQual_word word) (and_true_intro (word.gap_eq rfl) (beq_iff_eq.mpr (word.fld_eq rfl))) ?_ wf⟩
    congr 1 <;> exact word.ofNat_eq rfl
  all_goals cases enc

end Sys2Proof

namespace Sys2Proof.Machine

/-- Settles O6: the word is a sum of fields laid out apart, so its opcode selects the cell of the opcode map that builds the instruction, and
each field reads back as the operand that was put there. -/
theorem tileEncodeDecode : Obligations.TileEncodeDecode := by
  unfold Obligations.TileEncodeDecode
  intro i w wf enc
  exact decodeTileNat_encodeTile wf enc

end Sys2Proof.Machine
end

section

-- One proof at a time: the whole text then stays within the memory of a check.
set_option Elab.async false

namespace Sys2Proof.Machine

/-! Every step keeps the invariant: each thing that the machine may do next starts at a state with canonical memory, or is a committed
state already. -/

/-- An act that a step may take from canonical memory: a row is run at a state with canonical memory, and a silent act ends in a state
that meets the invariant. -/
def Act.Safe : Act → Prop
  | .run _ t => Mem.wf t.mem = true
  | .silent t => StateInv t
  | .illegal => True

/-- Whatever act stands in the option is safe. -/
def SafeOpt (o : Option Act) : Prop := ∀ a : Act, o = some a → a.Safe

namespace SafeOpt

theorem none : SafeOpt none := fun _ h => nomatch h

theorem some {a : Act} (h : a.Safe) : SafeOpt (some a) := by
  intro b hb
  cases hb
  exact h

theorem orElse {o : Option Act} {p : Unit → Option Act} (ho : SafeOpt o) (hp : SafeOpt (p ())) : SafeOpt (o.orElse p) := by
  cases o with
  | none => exact hp
  | some a => exact ho

theorem map {α : Type} {f : α → Act} {o : Option α} (h : ∀ x, (f x).Safe) : SafeOpt (o.map f) := by
  cases o with
  | none => exact .none
  | some x => exact .some (h x)

theorem ite {c : Prop} [Decidable c] {o p : Option Act} (ho : SafeOpt o) (hp : SafeOpt p) : SafeOpt (if c then o else p) := by
  split
  · exact ho
  · exact hp

theorem findSome? {α : Type} {f : α → Option Act} {l : List α} (h : ∀ x, SafeOpt (f x)) : SafeOpt (l.findSome? f) := by
  intro a ha
  obtain ⟨x, _, hx⟩ := List.exists_of_findSome?_eq_some ha
  exact h x a hx

end SafeOpt

variable {s : State}

theorem stateInv_commit (h : Mem.wf s.mem = true) (t : State) : StateInv (s.commit t) := ⟨State.wf_commit t h, rfl⟩

theorem Act.silent_commit_safe (h : Mem.wf s.mem = true) (t : State) : (Act.silent (s.commit t)).Safe := stateInv_commit h t

section
variable (h : Mem.wf s.mem = true)
include h

theorem inputAct_safe : SafeOpt s.inputAct := by
  unfold State.inputAct
  split
  · exact .none
  · exact .some h

theorem firmwareAct_safe : SafeOpt s.firmwareAct := by
  unfold State.firmwareAct
  refine .ite (.some (Act.silent_commit_safe h _)) (.ite ?command (.ite (.some h) .none))
  case command =>
    dsimp only
    split
    · exact .some h
    · exact .some (Act.silent_commit_safe h _)

theorem listAct_safe (d : DroverSt) (c : DCtx) : SafeOpt (s.listAct d c) := by
  unfold State.listAct
  refine .ite .none (.ite (.ite (.some h) .none) ?command)
  case command =>
    split
    · exact .some (Act.silent_commit_safe h _)
    · split
      · exact .some (Act.silent_commit_safe h _)
      · exact .ite .none (.some (State.wf_commit _ h))

theorem droverAct_safe : SafeOpt s.droverAct := by
  refine .findSome? fun d => ?_
  split
  · exact listAct_safe h d _
  · exact .ite (.some h) .none

theorem copyAct_safe : SafeOpt s.copyAct := by
  refine .findSome? fun b => .findSome? fun c => ?_
  split
  · exact .none
  · exact .ite (.some h) (.ite (.some h) .none)

theorem timedAct_safe (k : Kiln) : SafeOpt (s.timedAct k) := by
  have row (i : Instr) (o : Option Nat) : SafeOpt (o.map fun n => s.doAt i (.kiln k.id n)) := .map fun _ => h
  unfold State.timedAct
  exact .ite .none (.orElse (row _ _) (.orElse (row _ _) (.orElse (.ite (.some h) .none) (.orElse (row _ _) (.orElse (row _ _) (row _ _))))))

theorem earlyAct_safe : SafeOpt s.earlyAct := by
  unfold State.earlyAct
  refine .orElse (inputAct_safe h) (.orElse (firmwareAct_safe h) (.orElse ?move (.orElse ?access (.orElse (droverAct_safe h)
    (.orElse (copyAct_safe h) (.orElse ?fold (.findSome? (timedAct_safe h))))))))
  case move => exact .map fun _ => h
  case access => exact .map fun _ => h
  case fold => exact .map fun _ => h

theorem issueAct_safe (plane : Bool) : SafeOpt (s.issueAct plane) := by
  refine .findSome? fun x => ?_
  unfold State.tileIssue
  refine .ite .none ?_
  split
  · exact .none
  · exact .some h
  · exact .some trivial

/-- The results of the STUs are rows at this state. -/
theorem stuResults_safe {x : Nat × Act} (hx : x ∈ s.stuResults) : x.2.Safe := by
  unfold State.stuResults at hx
  obtain ⟨k, _, hk⟩ := List.mem_flatMap.1 hx
  split at hk
  · cases hk
  · obtain ⟨_, _, rfl⟩ := List.mem_map.1 hk
    exact h

omit h in
/-- The least of a list is one of its elements. -/
theorem leastBy_mem {α : Type} (key : α → Nat) (xs : List α) {x : α} (hx : leastBy key xs = some x) : x ∈ xs := by
  suffices fold : ∀ (ys : List α) (b : Option α),
      ys.foldl (fun b x => match b with
        | some y => if key x < key y then some x else b
        | none => some x) b = some x → x ∈ ys ∨ b = some x by
    simpa using fold xs none hx
  intro ys
  induction ys with
  | nil => intro b hb; exact .inr hb
  | cons y r ih =>
    intro b hb
    rw [List.foldl_cons] at hb
    rcases ih _ hb with hmem | hhead
    · exact .inl (.tail _ hmem)
    · split at hhead
      · split at hhead
        · cases hhead; exact .inl (.head _)
        · exact .inr hhead
      · cases hhead; exact .inl (.head _)

theorem waitAct_safe : SafeOpt s.waitAct := by
  have pick (o : Option Where) : SafeOpt (o.map (s.doWhere .waitSatisfied)) := .map fun _ => h
  unfold State.waitAct
  refine .orElse (pick _) (.orElse (pick _) (.orElse (pick _) (.orElse (pick _) (.orElse ?step3 (pick _)))))
  case step3 =>
    intro a ha
    obtain ⟨x, hx, rfl⟩ := Option.map_eq_some_iff.1 ha
    rcases List.mem_append.1 (leastBy_mem _ _ hx) with hw | hr
    · obtain ⟨w, _, rfl⟩ := List.mem_map.1 hw
      exact h
    · exact stuResults_safe h hr

theorem completeAct_safe : SafeOpt s.completeAct := by
  have row (i : Instr) (o : Option Where) : SafeOpt (o.map (s.doWhere i)) := .map fun _ => h
  unfold State.completeAct
  exact .orElse (row _ _) (.orElse (row _ _) (row _ _))

theorem stuAct_safe : SafeOpt s.stuAct :=
  .findSome? fun _ => .ite .none (.map fun _ => h)

theorem fabricAct_safe : SafeOpt s.fabricAct := by
  refine .findSome? fun k => ?_
  exact .ite .none (.orElse (.map fun _ => h) (.orElse (.map fun _ => h) (.orElse (.map fun _ => h) (.map fun _ => h))))

theorem portAct_safe : SafeOpt s.portAct :=
  .findSome? fun _ => .ite (.some h) (.ite (.some h) .none)

theorem saveAct_safe : SafeOpt s.saveAct :=
  .findSome? fun _ => .ite .none (.ite (.map fun _ => h) (.ite (.some h) .none))

theorem kilnAct_safe : SafeOpt s.kilnAct := by
  refine .findSome? fun k => ?_
  have row (b : Bool) (i : Instr) : SafeOpt (if b then some (s.doAt i (.kiln k.id 0)) else none) := .ite (.some h) .none
  exact .orElse (.ite (.map fun _ => h) .none)
    (.orElse (row _ _) (.orElse (row _ _) (.orElse (row _ _) (.orElse (row _ _) (.orElse (row _ _) (row _ _))))))

theorem launchAct_safe : SafeOpt s.launchAct :=
  .orElse (.map fun _ => h) (.findSome? fun _ => .map fun _ => h)

theorem upkeepAct_safe : SafeOpt s.upkeepAct :=
  .orElse (.map fun _ => h) (.orElse (.findSome? fun _ => .map fun _ => h) (.ite (.some h) .none))

theorem lateAct_safe : SafeOpt s.lateAct := by
  unfold State.lateAct
  refine .orElse ?fire (.orElse (stuAct_safe h) (.orElse (waitAct_safe h) (.orElse ?arow (.orElse (completeAct_safe h) (.orElse ?ends
    (.orElse (portAct_safe h) (.orElse (saveAct_safe h) (.orElse ?refill (.orElse (fabricAct_safe h) (.orElse ?unit
      (.orElse (kilnAct_safe h) (.orElse (launchAct_safe h) (.orElse (upkeepAct_safe h) ?freeze)))))))))))))
  case fire => exact .findSome? fun _ => .map fun _ => h
  case arow => exact .map fun _ => h
  case ends => exact .findSome? fun _ => .map fun _ => h
  case refill => exact .map fun _ => h
  case unit => exact .map fun _ => h
  case freeze => exact .map fun _ => Act.silent_commit_safe h _

theorem act_safe : s.act.Safe := by
  have all := SafeOpt.orElse (p := fun _ => _) (earlyAct_safe h)
    (SafeOpt.orElse (p := fun _ => _) (issueAct_safe h false) (SafeOpt.orElse (p := fun _ => _) (issueAct_safe h true) (lateAct_safe h)))
  unfold State.act
  cases hopt : s.earlyAct.orElse fun _ => (s.issueAct false).orElse fun _ => (s.issueAct true).orElse fun _ => s.lateAct with
  | none => exact Act.silent_commit_safe h _
  | some a => exact all a hopt

/-- However a step ends, its memory is what the state it came to holds or a commit to what it began with. -/
theorem endStep_inv {t : State} (ht : StateInv t) : StateInv (s.endStep t) := by
  rcases State.endStep_cases s t with he | he | ⟨m, _, he⟩
  · rw [he]; exact ht
  · rw [he]; exact ht
  · rw [he]; exact stateInv_commit h _

/-- A row run at canonical memory, settled, answers a state that meets the invariant. -/
theorem settled_exec_inv {i : Instr} {u t : State} (hu : Mem.wf u.mem = true) (ht : s.settled (exec i u) = .next t) : StateInv t := by
  cases hx : exec i u with
  | next v =>
    rw [hx] at ht
    cases ht
    obtain ⟨w, rfl⟩ := exec_commits i u v hx
    exact endStep_inv h (stateInv_commit hu w)
  | fault r => rw [hx] at ht; cases ht
  | refused r => rw [hx] at ht; cases ht

end

/-- Settles O3: what the machine may do next is safe (`act_safe`), a row's next state commits its stores to canonical memory
(`exec_commits`), and the end of a step keeps that. -/
theorem stepKeepsInvariant : Obligations.StepKeepsInvariant := by
  unfold Obligations.StepKeepsInvariant
  rintro s t ⟨hwf, _⟩ hstep
  have safe := act_safe hwf
  unfold step at hstep
  split at hstep
  next i u hact =>
    rw [hact] at safe
    exact settled_exec_inv hwf safe hstep
  next u hact =>
    rw [hact] at safe
    cases hstep
    exact endStep_inv hwf safe
  next => cases hstep

/-- Settles O2. -/
theorem resetInvariant : Obligations.ResetInvariant := ⟨State.wf_reset, rfl⟩

end Sys2Proof.Machine
end

section

-- One proof at a time: the whole text then stays within the memory of a check.
set_option Elab.async false

/-! Lookups after the updates of a tile, an execution and a task, and what recording an issue changes: the proofs of O11, O12 and
O13. -/

namespace Sys2Proof.Machine

/-! Kilns and tiles. -/

/-- A kiln with one of its tiles changed. -/
def Kiln.modTile (k : Kiln) (t : Nat) (f : TileSt → TileSt) : Kiln := k.setTile (f (k.tileD t))

theorem Kiln.tile?_id {k : Kiln} {t : Nat} {tl : TileSt} (h : k.tile? t = some tl) : tl.id = t := by
  simpa using List.find?_some h

@[simp] theorem Kiln.tileD_id (k : Kiln) (t : Nat) : (k.tileD t).id = t := by
  unfold Kiln.tileD
  cases h : k.tile? t with
  | none => rfl
  | some tl => exact Kiln.tile?_id h

theorem Kiln.tileD_eq {k : Kiln} {t : Nat} {tl : TileSt} (h : k.tile? t = some tl) : k.tileD t = tl := by
  simp [Kiln.tileD, h]

@[simp] theorem Kiln.modTile_id (k : Kiln) (t : Nat) (f : TileSt → TileSt) : (k.modTile t f).id = k.id := Kiln.setTile_id _ _

theorem Kiln.modTile_eq (k : Kiln) (t : Nat) (f : TileSt → TileSt) : k.modTile t f = { k with tiles := (k.modTile t f).tiles } :=
  Kiln.setTile_eq _ _

section
variable {f : TileSt → TileSt} (hf : ∀ x, (f x).id = x.id)
include hf

theorem Kiln.tile?_modTile (k : Kiln) (t : Nat) : (k.modTile t f).tile? t = some (f (k.tileD t)) := by
  have h := Kiln.tile?_setTile k (f (k.tileD t))
  rwa [hf, Kiln.tileD_id] at h

/-- A tile that the kiln holds, after its change. -/
theorem Kiln.tile?_modTile_some {k : Kiln} {t : Nat} {tl : TileSt} (h : k.tile? t = some tl) :
    (k.modTile t f).tile? t = some (f tl) := by
  rw [Kiln.tile?_modTile hf, Kiln.tileD_eq h]

theorem Kiln.tileD_modTile (k : Kiln) (t : Nat) : (k.modTile t f).tileD t = f (k.tileD t) :=
  Kiln.tileD_eq (Kiln.tile?_modTile hf k t)

theorem Kiln.tile?_modTile_ne (k : Kiln) {t n : Nat} (h : n ≠ t) : (k.modTile t f).tile? n = k.tile? n :=
  Kiln.tile?_setTile_ne k _ n (by rwa [hf, Kiln.tileD_id])

end

theorem State.kiln?_modKiln_some {s : State} {k : Nat} {kl : Kiln} (h : s.kiln? k = some kl) (f : Kiln → Kiln)
    (hf : ∀ x, (f x).id = x.id) : (s.modKiln k f).kiln? k = some (f kl) := by
  rw [State.kiln?_modKiln s k f hf, h]; rfl

theorem State.kiln?_modTile (s : State) (k t : Nat) (f : TileSt → TileSt) :
    (s.modTile k t f).kiln? k = (s.kiln? k).map fun kl => kl.modTile t f :=
  State.kiln?_modKiln s k _ fun x => Kiln.modTile_id x t f

theorem State.kiln?_modTile_some {s : State} {k : Nat} {kl : Kiln} (h : s.kiln? k = some kl) (t : Nat) (f : TileSt → TileSt) :
    (s.modTile k t f).kiln? k = some (kl.modTile t f) := by
  rw [State.kiln?_modTile, h]; rfl

theorem State.kiln?_modTile_ne (s : State) {k n : Nat} (t : Nat) (f : TileSt → TileSt) (h : n ≠ k) :
    (s.modTile k t f).kiln? n = s.kiln? n :=
  State.kiln?_modKiln_ne s k n _ (fun x => Kiln.modTile_id x t f) h

theorem State.modTile_eq (s : State) (k t : Nat) (f : TileSt → TileSt) :
    s.modTile k t f = { s with kilns := (s.modTile k t f).kilns } := rfl

/-! Tasks and executions of a tile. -/

/-- A tile with one of its block executions changed. -/
def TileSt.modExec (t : TileSt) (task : Nat) (f : Exec → Exec) : TileSt :=
  { t with execs := updateWhere (fun x => x.task == task) f t.execs }

@[simp] theorem TileSt.modExec_id (t : TileSt) (task : Nat) (f : Exec → Exec) : (t.modExec task f).id = t.id := rfl

theorem TileSt.task_setTask_ne (t : TileSt) {i n : Nat} (h : n ≠ i) (x : TaskSt) : (t.setTask i x).task n = t.task n := by
  simp [TileSt.task, TileSt.setTask, List.getD_eq_getElem?_getD, List.getElem?_set_ne (Ne.symm h)]

section
variable {f : Exec → Exec} (hf : ∀ x, (f x).task = x.task)
include hf

theorem TileSt.exec?_modExec (t : TileSt) (task : Nat) : (t.modExec task f).exec? task = (t.exec? task).map f :=
  find?_updateWhere_eq _ f t.execs fun x h => by simpa [hf x] using h

theorem TileSt.exec?_modExec_some {t : TileSt} {task : Nat} {x : Exec} (h : t.exec? task = some x) :
    (t.modExec task f).exec? task = some (f x) := by
  rw [TileSt.exec?_modExec hf, h]; rfl

theorem TileSt.exec?_modExec_ne (t : TileSt) {task n : Nat} (h : n ≠ task) : (t.modExec task f).exec? n = t.exec? n :=
  find?_updateWhere_ne _ _ f t.execs (fun x hx => by simp_all) (fun x hx => by simp_all [hf x]; exact fun e => h e.symm)

end

theorem State.modExec_eq_modTile (s : State) (k t task : Nat) (f : Exec → Exec) :
    s.modExec k t task f = s.modTile k t fun tl => tl.modExec task f := rfl

/-! Recording an issue. -/

/-- The tile that an issue leaves, but for its executions. -/
def Ctx.tileIssued (c : Ctx) (plane : Bool) (i : Issue) (tl : TileSt) : TileSt :=
  { (tl.setTask c.task { i.tsk with stopped := (tl.task c.task).stopped }) with
    ctlIssued := tl.ctlIssued || !plane
    dataIssued := tl.dataIssued || plane
    nextNo := tl.nextNo + 1
    bank := i.bank
    divFree := i.divFree }

/-- The execution that an issue leaves. -/
def Ctx.execIssued (c : Ctx) (ta tb : Target) (i : Issue) (x : Exec) : Exec :=
  { x with
    issued := x.issued ++ [c.slot]
    pend := if i.stays then x.pend ++ [c.pending ta tb i] else x.pend
    exit := match x.exit with
      | some e => some e
      | none => i.exit.map fun e => (c.slot, e) }

/-- The state that an issue leaves before its stop cause is taken. -/
def State.recorded (s : State) (c : Ctx) (plane : Bool) (ta tb : Target) (i : Issue) : State :=
  (s.modTile c.k.id c.t.id (c.tileIssued plane i)).modTile c.k.id c.t.id fun tl => tl.modExec c.task (c.execIssued ta tb i)

theorem State.issued_of_none {i : Issue} (h : i.cause = none) (s : State) (c : Ctx) (plane : Bool) (ta tb : Target) :
    s.issued c plane ta tb i = s.recorded c plane ta tb i := by
  simp only [State.issued, h]; rfl

theorem State.issued_of_some {i : Issue} {f : Cause} (h : i.cause = some f) (s : State) (c : Ctx) (plane : Bool) (ta tb : Target) :
    s.issued c plane ta tb i = (s.recorded c plane ta tb i).stopKiln c.k.id
      (c.k.faultReq c.t.id c.task c.x.block c.slot f.code 0 f.w6 f.w7) c.t.id c.task c.slot 0 := by
  simp only [State.issued, h]; rfl

section
variable (c : Ctx) (plane : Bool) (ta tb : Target) (i : Issue)

theorem Ctx.tileIssued_id (tl : TileSt) : (c.tileIssued plane i tl).id = tl.id := rfl
theorem Ctx.execIssued_task (x : Exec) : (c.execIssued ta tb i x).task = x.task := rfl

/-- The kiln that an issue leaves. -/
def Ctx.kilnIssued (kl : Kiln) : Kiln :=
  (kl.modTile c.t.id (c.tileIssued plane i)).modTile c.t.id fun tl => tl.modExec c.task (c.execIssued ta tb i)

/-- The tile that an issue leaves. -/
def Ctx.tileRecorded (tl : TileSt) : TileSt := (c.tileIssued plane i tl).modExec c.task (c.execIssued ta tb i)

theorem State.recorded_eq (s : State) : s.recorded c plane ta tb i = { s with kilns := (s.recorded c plane ta tb i).kilns } := rfl

theorem State.kiln?_recorded {s : State} {kl : Kiln} (h : s.kiln? c.k.id = some kl) :
    (s.recorded c plane ta tb i).kiln? c.k.id = some (c.kilnIssued plane ta tb i kl) := by
  simp only [State.recorded, State.kiln?_modTile, h, Option.map_some]; rfl

theorem State.kiln?_recorded_ne (s : State) {n : Nat} (h : n ≠ c.k.id) : (s.recorded c plane ta tb i).kiln? n = s.kiln? n := by
  simp only [State.recorded, State.kiln?_modTile_ne _ _ _ h]

theorem Ctx.kilnIssued_eq (kl : Kiln) : c.kilnIssued plane ta tb i kl = { kl with tiles := (c.kilnIssued plane ta tb i kl).tiles } := by
  rw [Ctx.kilnIssued, Kiln.modTile_eq, Kiln.modTile_eq kl]

theorem Ctx.tile?_kilnIssued {kl : Kiln} {tl : TileSt} (h : kl.tile? c.t.id = some tl) :
    (c.kilnIssued plane ta tb i kl).tile? c.t.id = some (c.tileRecorded plane ta tb i tl) := by
  rw [Ctx.kilnIssued, Kiln.tile?_modTile (fun x => TileSt.modExec_id x c.task _), Kiln.tileD_modTile (c.tileIssued_id plane i),
    Kiln.tileD_eq h]
  rfl

theorem Ctx.tile?_kilnIssued_ne (kl : Kiln) {n : Nat} (h : n ≠ c.t.id) : (c.kilnIssued plane ta tb i kl).tile? n = kl.tile? n := by
  rw [Ctx.kilnIssued, Kiln.tile?_modTile_ne (fun x => TileSt.modExec_id x c.task _) _ h, Kiln.tile?_modTile_ne (c.tileIssued_id plane i) _ h]

theorem Ctx.exec?_tileRecorded (tl : TileSt) :
    (c.tileRecorded plane ta tb i tl).exec? c.task = (tl.exec? c.task).map (c.execIssued ta tb i) :=
  TileSt.exec?_modExec (c.execIssued_task ta tb i) _ _

theorem Ctx.exec?_tileRecorded_ne (tl : TileSt) {n : Nat} (h : n ≠ c.task) : (c.tileRecorded plane ta tb i tl).exec? n = tl.exec? n :=
  TileSt.exec?_modExec_ne (c.execIssued_task ta tb i) _ h

theorem Ctx.task_tileRecorded {tl : TileSt} (h : c.task < tl.tasks.length) :
    (c.tileRecorded plane ta tb i tl).task c.task = { i.tsk with stopped := (tl.task c.task).stopped } :=
  TileSt.task_setTask_same h _

theorem Ctx.task_tileRecorded_ne (tl : TileSt) {n : Nat} (h : n ≠ c.task) : (c.tileRecorded plane ta tb i tl).task n = tl.task n :=
  TileSt.task_setTask_ne tl h _

theorem State.commit_of_wlog_nil {s t : State} (hw : t.wlog = []) (hm : t.mem = s.mem) : s.commit t = t := by
  rw [State.commit, hw, ← hm, ← hw]
  cases t; simp_all [Mem.apply]

/-- Where the instruction stored nothing, committing a recorded issue leaves memory as it was. -/
theorem State.issuedFrom_of_none {s s1 : State} {i : Issue} (hw : s1.wlog = []) (hm : s1.mem = s.mem) (h : i.cause = none) :
    s.issuedFrom s1 c plane ta tb i = s1.recorded c plane ta tb i := by
  rw [State.issuedFrom, State.issued_of_none h]
  exact State.commit_of_wlog_nil (t := s1.recorded c plane ta tb i) hw hm

theorem State.kiln?_issuedFrom_of_none {i : Issue} (h : i.cause = none) (s s1 : State) (n : Nat) :
    (s.issuedFrom s1 c plane ta tb i).kiln? n = (s1.recorded c plane ta tb i).kiln? n := by
  rw [State.issuedFrom, State.issued_of_none h]; rfl

end

/-- Settles O11: recording an issue changes its tile in its kiln, and there its task and its execution. -/
theorem issueFrame : Obligations.IssueFrame := by
  intro s s1 c plane ta tb i hs hw hm hc
  simp only [State.issuedFrom_of_none c plane ta tb hw hm hc]
  refine ⟨State.recorded_eq .., fun a => ?_, fun k hk => State.kiln?_recorded_ne _ _ _ _ _ _ hk, fun kl hkl => ?_⟩
  · have hl : s.wlog = s1.wlog := hs.2.trans hw.symm
    rw [State.recorded_eq]
    simp only [State.byte, hm, hl]
  · refine ⟨_, State.kiln?_recorded _ _ _ _ _ hkl, Ctx.kilnIssued_eq .., fun n hn => Ctx.tile?_kilnIssued_ne _ _ _ _ _ _ hn,
      fun tl htl => ⟨_, Ctx.tile?_kilnIssued _ _ _ _ _ htl, rfl, fun n hn => Ctx.task_tileRecorded_ne _ _ _ _ _ _ hn,
        fun n hn => Ctx.exec?_tileRecorded_ne _ _ _ _ _ _ hn, fun h => Ctx.task_tileRecorded _ _ _ _ _ h⟩⟩

/-! Completing. -/

/-- What a completing instruction leaves of its task's flags. -/
def Pending.orFlags (p : Pending) (y : TaskSt) : TaskSt := { y with fpflags := y.fpflags ||| p.flags, satflag := y.satflag || p.sat }

/-- The execution without what a slot left pending. -/
def Exec.without (x : Exec) (slot : Nat) : Exec := { x with pend := x.pend.filter fun q => q.slot != slot }

/-- The execution with the results of a slot's pending instruction replaced. -/
def Exec.setSends (x : Exec) (slot : Nat) (rest : List Send) : Exec :=
  { x with pend := updateWhere (fun q => q.slot == slot) (fun q => { q with sends := rest }) x.pend }

theorem Exec.pend?_setSends (x : Exec) (slot : Nat) (rest : List Send) :
    (x.setSends slot rest).pend? slot = (x.pend? slot).map fun q => { q with sends := rest } :=
  find?_updateWhere_eq _ _ x.pend fun _ h => h

theorem Exec.pend?_setSends_of_nil {x : Exec} {slot : Nat} {p : Pending} (h : x.pend? slot = some p) (hs : p.sends = []) :
    (x.setSends slot []).pend? slot = some p := by
  rw [Exec.pend?_setSends, h]
  cases p; simp_all

/-- What is replaced under a slot's number does not show once that number is dropped. -/
theorem Exec.without_setSends (x : Exec) (slot : Nat) (rest : List Send) : (x.setSends slot rest).without slot = x.without slot := by
  suffices h : ∀ l : List Pending, (updateWhere (fun q => q.slot == slot) (fun q => { q with sends := rest }) l).filter
      (fun q => q.slot != slot) = l.filter fun q => q.slot != slot by
    simp only [Exec.without, Exec.setSends, h]
  intro l
  induction l with
  | nil => rfl
  | cons q r ih =>
    simp only [updateWhere, List.map_cons] at ih ⊢
    by_cases hq : q.slot = slot
    · simpa [hq] using ih
    · simpa [hq] using ih

section
variable {s : State} {k t task slot : Nat} {kl : Kiln} {tl : TileSt} {x : Exec} {p : Pending}
  (hk : s.kiln? k = some kl) (ht : kl.tile? t = some tl) (hx : tl.exec? task = some x) (hp : x.pend? slot = some p)
include hk ht hx hp

/-- A completing instruction ORs its flags, leaves the pending ones and gives its signal writes to the kiln. -/
theorem State.tryComplete_completes (hc : p.completes tl.cyc = true) :
    s.tryComplete k t task slot =
      ((s.modTask k t task p.orFlags).modExec k t task fun x => x.without slot).modKiln k fun kl =>
        { kl with sigWrites := kl.sigWrites ++ (signalWrites p.sends).map fun w => (t, tl.cyc + 16, w) } := by
  simp only [State.tryComplete, hk, ht, hx, hp, Option.bind_some, Option.map_some, hc, ↓reduceIte]
  rfl

theorem State.settle_of_sends_nil (hs : p.sends = []) :
    s.settle k t task slot = (s.modExec k t task fun x => x.setSends slot []).tryComplete k t task slot := by
  simp only [State.settle, hk, ht, hx, hp, Option.bind_some, Option.map_some, hs, State.sendDue]
  rfl

/-- The tile that completing leaves. -/
theorem State.tile?_tryComplete (hc : p.completes tl.cyc = true) :
    ∃ kl' : Kiln, (s.tryComplete k t task slot).kiln? k = some kl' ∧
      kl'.tile? t = some ((tl.setTask task (p.orFlags (tl.task task))).modExec task fun x => x.without slot) := by
  rw [State.tryComplete_completes hk ht hx hp hc]
  exact ⟨_, State.kiln?_modKiln_some (State.kiln?_modTile_some (State.kiln?_modTile_some hk t _) t _) _ (fun _ => rfl),
    Kiln.tile?_modTile_some (f := fun tl => tl.modExec task fun x => x.without slot) (fun _ => rfl)
      (Kiln.tile?_modTile_some (f := fun tl => tl.setTask task (p.orFlags (tl.task task))) (fun _ => rfl) ht)⟩

end

/-- Settles O12: the execution that an issue leaves, and what completing makes of the flags and the pending ones. -/
theorem issueRecord : Obligations.IssueRecord := by
  refine ⟨fun s s1 c plane ta tb i kl tl x hc hk ht hx => ?_, fun s k t task slot kl tl x p hk ht hx hp hlt hc hs => ?_⟩
  · refine ⟨_, _, (State.kiln?_issuedFrom_of_none c plane ta tb hc s s1 _).trans (State.kiln?_recorded _ _ _ _ _ hk),
      Ctx.tile?_kilnIssued _ _ _ _ _ ht, ?_, rfl, rfl⟩
    rw [Ctx.exec?_tileRecorded, hx]
    cases he : x.exit <;> simp [Ctx.execIssued, he]
  · have hk' := State.kiln?_modTile_some hk t fun tl => tl.modExec task fun x => x.setSends slot []
    have ht' := Kiln.tile?_modTile_some (f := fun tl => tl.modExec task fun x => x.setSends slot []) (fun _ => rfl) ht
    have hx' := TileSt.exec?_modExec_some (f := fun x => x.setSends slot []) (fun _ => rfl) hx
    rw [State.settle_of_sends_nil hk ht hx hp hs]
    obtain ⟨kl', hkl', htl'⟩ := State.tile?_tryComplete hk' ht' hx' (Exec.pend?_setSends_of_nil hp hs) hc
    refine ⟨kl', _, hkl', htl', TileSt.task_setTask_same (t := tl.modExec task _) hlt _,
      fun n hn => TileSt.task_setTask_ne _ hn _, ?_⟩
    exact (TileSt.exec?_modExec_some (f := fun x => x.without slot) (fun _ => rfl)
      (t := TileSt.setTask (tl.modExec task _) task _) hx').trans
      (congrArg some (Exec.without_setSends x slot []))

/-! Stop causes. -/

theorem State.kiln?_eq_of_kilns {s t : State} (h : t.kilns = s.kilns) (k : Nat) : t.kiln? k = s.kiln? k := by
  simp only [State.kiln?, h]

theorem State.kiln?_postFault (s : State) (f : FaultReq) (k : Nat) : (s.postFault f).2.kiln? k = s.kiln? k :=
  State.kiln?_eq_of_kilns (by rw [State.postFault_frame]) k

/-- The kiln that a stop cause leaves. -/
def Kiln.stopped (kl : Kiln) (now uid : Nat) (f : FaultReq) (t task slot aux : Nat) : Kiln :=
  { kl with
    stops := kl.stops ++ [⟨uid, f.cause, t, task, slot, aux⟩]
    switchLeft := kl.leftOver now
    stat := match kl.stat with
      | .freezing since _ => .freezing since .stop
      | _ => .freezing now .stop }

theorem State.stopBy_eq (s : State) (k : Nat) (f : FaultReq) (t task slot aux : Nat) :
    s.stopBy k f t task slot aux = (s.postFault f).2.modKiln k fun kl => kl.stopped s.now s.nextId f t task slot aux := by
  have hu := State.postFault_uid s f
  have hn : (s.postFault f).2.now = s.now := by rw [State.postFault_frame]
  simp only [State.stopBy, hu, hn]
  rfl

theorem State.kiln?_stopBy {s : State} {k : Nat} {kl : Kiln} (h : s.kiln? k = some kl) (f : FaultReq) (t task slot aux : Nat) :
    (s.stopBy k f t task slot aux).kiln? k = some (kl.stopped s.now s.nextId f t task slot aux) := by
  rw [State.stopBy_eq]
  exact State.kiln?_modKiln_some ((State.kiln?_postFault s f k).trans h) _ fun _ => rfl

section
variable (kl : Kiln) (now uid : Nat) (f : FaultReq) (t task slot aux : Nat)

theorem Kiln.tile?_stopped (n : Nat) : (kl.stopped now uid f t task slot aux).tile? n = kl.tile? n := rfl

theorem Kiln.stopped_of_running (h : kl.stat = .running) :
    (kl.stopped now uid f t task slot aux).stat = .freezing now .stop ∧
    (kl.stopped now uid f t task slot aux).switchLeft = kl.switchLeft := by
  simp [Kiln.stopped, Kiln.leftOver, h]

theorem Kiln.stopped_of_freezing {since : Nat} {why : FreezeWhy} (h : kl.stat = .freezing since why) :
    (kl.stopped now uid f t task slot aux).stat = .freezing since .stop := by
  simp [Kiln.stopped, h]

end

/-- A tile whose task issues nothing further. -/
def TileSt.stopTask (tl : TileSt) (task : Nat) : TileSt := tl.setTask task { tl.task task with stopped := true }

theorem TileSt.stopTask_id (tl : TileSt) (task : Nat) : (tl.stopTask task).id = tl.id := rfl

theorem TileSt.stopped_stopTask {tl : TileSt} {task : Nat} (h : task < tl.tasks.length) : ((tl.stopTask task).task task).stopped = true := by
  rw [TileSt.stopTask, TileSt.task_setTask_same h]

theorem State.kiln?_stopKiln {s : State} {k : Nat} {kl : Kiln} (h : s.kiln? k = some kl) (f : FaultReq) (t task slot aux : Nat) :
    (s.stopKiln k f t task slot aux).kiln? k =
      some ((kl.stopped s.now s.nextId f t task slot aux).modTile t fun tl => tl.stopTask task) :=
  State.kiln?_modTile_some (State.kiln?_stopBy h f t task slot aux) t _

/-- What a fault posts does not depend on the kilns, but for the die and the messages that stand as they are. -/
theorem State.postFault_congr {s t : State} (h : t = { s with kilns := t.kilns }) (f : FaultReq) :
    (t.postFault f).2.dies = (s.postFault f).2.dies ∧ (t.postFault f).2.msix = (s.postFault f).2.msix := by
  rw [h]
  unfold State.postFault State.fresh State.event State.pushCpl
  dsimp only [State.timeNs, State.die, State.modDie]
  split
  · exact ⟨rfl, rfl⟩
  · dsimp only
    split
    · split <;> exact ⟨rfl, rfl⟩
    · exact ⟨rfl, rfl⟩

section
variable (s : State) {s1 : State} {c : Ctx} (plane : Bool) (ta tb : Target) {i : Issue} {cause : Cause} (hc : i.cause = some cause)
include hc

/-- An issue that raises a cause posts the fault that the shared operation posts. -/
theorem State.postFault_of_issuedFrom :
    let f := c.k.faultReq c.t.id c.task c.x.block c.slot cause.code 0 cause.w6 cause.w7
    (s.issuedFrom s1 c plane ta tb i).dies = (s1.postFault f).2.dies ∧
      (s.issuedFrom s1 c plane ta tb i).msix = (s1.postFault f).2.msix := by
  intro f
  have hp := State.postFault_congr (State.recorded_eq c plane ta tb i s1) f
  rw [State.issuedFrom, State.issued_of_some hc, State.stopKiln, State.stopBy_eq]
  simp only [State.commit_dies, State.commit_msix, State.modTask, State.modTile, State.modKiln_dies, State.modKiln_msix]
  exact hp

/-- The kiln that an issue with a stop cause leaves. -/
theorem State.kiln?_issuedFrom_of_some {kl : Kiln} (hk : s1.kiln? c.k.id = some kl) :
    let f := c.k.faultReq c.t.id c.task c.x.block c.slot cause.code 0 cause.w6 cause.w7
    (s.issuedFrom s1 c plane ta tb i).kiln? c.k.id =
      some (((c.kilnIssued plane ta tb i kl).stopped s1.now s1.nextId f c.t.id c.task c.slot 0).modTile c.t.id
        fun tl => tl.stopTask c.task) := by
  intro f
  rw [State.issuedFrom, State.issued_of_some hc]
  exact State.kiln?_stopKiln (State.kiln?_recorded c plane ta tb i hk) f c.t.id c.task c.slot 0

end

/-- Settles O13: the shared operation, then the issue that raises a cause. -/
theorem stopCauseTaken : Obligations.StopCauseTaken := by
  refine ⟨fun s k kl f t task slot aux hk => ?_, fun s s1 c plane ta tb i code w6 w7 kl tl hc hk ht hlt => ?_⟩
  · refine ⟨_, State.kiln?_stopBy hk f t task slot aux, fun h => (Kiln.stopped_of_running _ _ _ _ _ _ _ _ h).1,
      fun since why h => Kiln.stopped_of_freezing _ _ _ _ _ _ _ _ h, rfl, rfl,
      fun h => (Kiln.stopped_of_running _ _ _ _ _ _ _ _ h).2, ?_, ?_⟩ <;> rw [State.stopBy_eq] <;> rfl
  · intro f u
    obtain ⟨hdies, hmsix⟩ := State.postFault_of_issuedFrom s (s1 := s1) (c := c) plane ta tb hc
    have hkiln := State.kiln?_issuedFrom_of_some s plane ta tb hc hk
    have he := c.kilnIssued_eq plane ta tb i kl
    have htile := Ctx.tile?_kilnIssued c plane ta tb i ht
    generalize c.kilnIssued plane ta tb i kl = kr at hkiln he htile
    refine ⟨hdies, hmsix, _, (c.tileRecorded plane ta tb i tl).stopTask c.task, hkiln, ?_, fun h => ?_, fun since why h => ?_, ?_, ?_⟩
    · refine Kiln.tile?_modTile_some (f := fun tl => tl.stopTask c.task) (fun x => TileSt.stopTask_id x c.task) ?_
      rw [Kiln.tile?_stopped, htile]
    · rw [Kiln.modTile_eq]
      exact (Kiln.stopped_of_running kr s1.now s1.nextId f c.t.id c.task c.slot 0 (by rw [he]; exact h)).1
    · rw [Kiln.modTile_eq]
      exact Kiln.stopped_of_freezing kr s1.now s1.nextId f c.t.id c.task c.slot 0 (by rw [he]; exact h)
    · rw [Kiln.modTile_eq, Kiln.stopped, he]; rfl
    · exact TileSt.stopped_stopTask ((List.length_set ..).trans_gt hlt)

end Sys2Proof.Machine
end

section

-- One proof at a time: the whole text then stays within the memory of a check.
set_option Elab.async false

/-! The number that a fault record takes, and the record that stands last: the proof of O14. -/

namespace Sys2Proof.Machine

theorem DieSt.recno_lt (d : DieSt) : ∀ fuel n : Nat, d.recno fuel n < 4096
  | 0, n => Nat.mod_lt _ (by decide)
  | fuel + 1, n => by
    unfold DieSt.recno
    split
    · exact DieSt.recno_lt d fuel (n + 1)
    · exact Nat.mod_lt _ (by decide)

/-- The search ends at a number that is free, or every number that it tried is held. -/
theorem DieSt.recno_free (d : DieSt) : ∀ fuel n : Nat,
    (∀ o ∈ d.outstanding, o.recno ≠ d.recno fuel n) ∨ ∀ j < fuel, ∃ o ∈ d.outstanding, o.recno = (n + j) % 4096
  | 0, n => .inr fun j hj => absurd hj (Nat.not_lt_zero j)
  | fuel + 1, n => by
    unfold DieSt.recno
    split
    next h =>
      rcases DieSt.recno_free d fuel (n + 1) with hfree | hheld
      · exact .inl hfree
      · refine .inr fun j hj => ?_
        cases j with
        | zero => simpa using h
        | succ j => rw [show n + (j + 1) = n + 1 + j by omega]; exact hheld j (by omega)
    next h => exact .inl fun o ho he => h (List.any_eq_true.2 ⟨o, ho, by simpa using he⟩)

/-- With fewer than 4,096 outstanding, the number that the search answers is held by none. -/
theorem DieSt.recno_not_held {d : DieSt} (h : d.outstanding.length < 4096) (n : Nat) :
    ∀ o ∈ d.outstanding, o.recno ≠ d.recno 4096 n := by
  rcases DieSt.recno_free d 4096 n with hfree | hheld
  · exact hfree
  · exfalso
    have hsub : Finset.range 4096 ⊆ (d.outstanding.map OutRec.recno).toFinset := by
      intro r hr
      obtain ⟨o, ho, he⟩ := hheld ((r + 4096 - n % 4096) % 4096) (Nat.mod_lt _ (by decide))
      have hr' := Finset.mem_range.1 hr
      refine List.mem_toFinset.2 (List.mem_map.2 ⟨o, ho, ?_⟩)
      omega
    have hcard := (Finset.card_le_card hsub).trans (List.toFinset_card_le _)
    simp only [Finset.card_range, List.length_map] at hcard
    omega

theorem recClass_toRec (f : FaultReq) (time : Nat) : recClass (f.toRec time) = f.cls % 16 := by
  simp only [recClass, FaultReq.toRec, fld, BitVec.toNat_ofNat]
  omega

/-- A die's queue with room: the record, its number and its entry among the outstanding ones. -/
theorem DieSt.post_toRec (d : DieSt) (uid : Nat) (f : FaultReq) (time : Nat) :
    d.post uid (f.toRec time) = { d with
      faults := d.faults ++ [{ f.toRec time with w4 := BitVec.ofNat 64 (time % 2 ^ 52 + d.recno 4096 d.nextRec * 2 ^ 52) }]
      newFaults := d.newFaults + 1
      nextRec := (d.recno 4096 d.nextRec + 1) % 4096
      outstanding := d.outstanding ++ [⟨d.recno 4096 d.nextRec, uid, f.cls % 16, false⟩] } := by
  have hw : (f.toRec time).w4.toNat % 2 ^ 52 = time % 2 ^ 52 := by
    simp only [FaultReq.toRec, BitVec.toNat_ofNat]
    omega
  simp only [DieSt.post, hw, recClass_toRec]

theorem State.die_eq {s : State} {n : Nat} {d : DieSt} (h : s.dies.find? (fun x => x.index == n) = some d) : s.die n = d := by
  simp [State.die, h]

theorem State.die_modDie {s : State} {n : Nat} {d : DieSt} (h : s.dies.find? (fun x => x.index == n) = some d) (f : DieSt → DieSt)
    (hf : ∀ x, (f x).index = x.index) : (s.modDie n f).die n = f d := by
  have hu := find?_updateWhere_eq (fun x : DieSt => x.index == n) f s.dies fun x hx => by simpa [hf x] using hx
  rw [h] at hu
  exact State.die_eq hu

/-- Posting where the queue has room. -/
theorem State.postFault_room {s : State} {f : FaultReq} {d : DieSt} (hd : s.dies.find? (fun x => x.index == f.die) = some d)
    (hl : d.faults.length < 512) (he : d.deferred = []) :
    s.postFault f = (s.nextId, { ({ s with nextId := s.nextId + 1 } : State).modDie f.die (fun d => d.post s.nextId (f.toRec s.timeNs)) with
      msix := s.msix ++ [f.vec] }) := by
  have hdie : ({ s with nextId := s.nextId + 1 } : State).die f.die = d := State.die_eq hd
  simp only [State.postFault, State.fresh, hdie, he, List.isEmpty_nil, hl, decide_true, Bool.and_self, ↓reduceIte]
  rfl

/-- Settles O14: a free number below 4,096, and the die that `DieSt.post` leaves. -/
theorem faultPosted : Obligations.FaultPosted := by
  intro s f d hd hl he ho
  refine ⟨d.recno 4096 d.nextRec, d.recno_lt _ _, DieSt.recno_not_held ho _, State.postFault_uid s f, ?_, ?_⟩
  · rw [State.postFault_room hd hl he]
  · rw [State.postFault_room hd hl he, ← DieSt.post_toRec]
    exact State.die_modDie (s := { s with nextId := s.nextId + 1 }) hd _ fun _ => rfl

end Sys2Proof.Machine
end

section

-- One proof at a time: the whole text then stays within the memory of a check.
set_option Elab.async false

/-! The scalar functions as operations on bit vectors, and the instructions of rows 0x0_ to 0x3_ and 0xE_: the proofs of O15 to O22
and O24. -/

namespace Sys2Proof.Machine

/-! A tile instruction that acts, its issue or its token given by an equal. -/

section
variable {s : State} {c : Ctx} {p : Pred} {ta tb : Target} (h : s.Acts c p)
include h

theorem onTile_issues {plane : Bool} {f : Ctx → Issue} {i : Issue} (e : f c = i) :
    onTile s plane p ta tb f = .next (s.issuing c plane ta tb i) := by
  rw [onTile_acts h, e]

theorem onTileS_issues {plane : Bool} {o : OrderTo} {f : State → Ctx → State × Issue} {s1 : State} {i : Issue}
    (e : f s.begun c = (s1, i)) : onTileS s plane p o ta tb f = .next (s.issuedFrom s1 c plane ta tb i) := by
  rw [onTileS_acts h, e]

theorem onTile_sends {lat : Nat} {f : Ctx → Tok} {x : Tok} (e : f c = x) :
    onTile s false p ta tb (fun c => c.emit lat ta tb (f c)) = .next (s.sends c lat ta tb x) := by
  rw [onTile_acts h, e]; rfl

theorem onTile_sendsVal {lat : Nat} {f : Ctx → Word} {x : Word} (e : f c = x) :
    onTile s false p ta tb (fun c => c.emit lat ta tb (Tok.val (f c))) = .next (s.sends c lat ta tb (Tok.val x)) :=
  onTile_sends h (congrArg Tok.val e)

theorem onTile_sendsPred {lat : Nat} {f : Ctx → Bool} {x : Bool} (e : f c = x) :
    onTile s false p ta tb (fun c => c.emit lat ta tb (Tok.pred (f c))) = .next (s.sends c lat ta tb (Tok.pred x)) :=
  onTile_sends h (congrArg Tok.pred e)

end

/-! Products, shifts and rotations. -/

theorem mulhs_eq (a b : Word) :
    intWord (signed a * signed b / 2 ^ 64) = BitVec.extractLsb' 64 64 (a.signExtend 128 * b.signExtend 128) := by
  have hx : a.signExtend 128 * b.signExtend 128 = BitVec.ofInt 128 (a.toInt * b.toInt) := by
    rw [BitVec.ofInt_mul]; rfl
  apply BitVec.eq_of_toNat_eq
  rw [hx]
  simp only [intWord, signed, BitVec.toNat_ofInt, BitVec.extractLsb'_toNat, Nat.shiftRight_eq_div_pow]
  generalize a.toInt * b.toInt = z
  omega

theorem mulhu_eq (a b : Word) :
    BitVec.ofNat 64 (a.toNat * b.toNat / 2 ^ 64) = BitVec.extractLsb' 64 64 (a.setWidth 128 * b.setWidth 128) := by
  have hlt : a.toNat * b.toNat < 2 ^ 64 * 2 ^ 64 := Nat.mul_lt_mul'' a.isLt b.isLt
  apply BitVec.eq_of_toNat_eq
  simp only [BitVec.toNat_ofNat, BitVec.extractLsb'_toNat, BitVec.toNat_mul, BitVec.toNat_setWidth, Nat.shiftRight_eq_div_pow]
  rw [Nat.mod_eq_of_lt (show a.toNat < 2 ^ 128 by omega), Nat.mod_eq_of_lt (show b.toNat < 2 ^ 128 by omega),
    Nat.mod_eq_of_lt (show a.toNat * b.toNat < 2 ^ 128 by omega)]

theorem rol64_eq (a b : Word) : rol64 a b = a.rotateLeft (b.toNat % 64) := by
  rw [BitVec.rotateLeft_def, Nat.mod_mod, rol64, shAmt]
  split
  next h =>
    have h0 : b.toNat % 64 = 0 := by simpa using h
    rw [h0, BitVec.shiftLeft_zero, BitVec.ushiftRight_eq_zero (Nat.le_refl 64), BitVec.or_zero]
  next => rfl

/-- Settles O15: each instruction by its equation, the products and the rotation by theirs. -/
theorem scalarArithmetic : Obligations.ScalarArithmetic := by
  intro s c p ta tb h
  exact ⟨onTile_sendsVal h rfl, onTile_sendsVal h rfl, onTile_sendsVal h rfl, onTile_sendsVal h (mulhs_eq _ _),
    onTile_sendsVal h (mulhu_eq _ _), onTile_sendsVal h rfl, onTile_sendsVal h rfl, onTile_sendsVal h rfl, onTile_sendsVal h rfl,
    onTile_sendsVal h rfl, onTile_sendsVal h rfl, onTile_sendsVal h (rol64_eq _ _)⟩

/-! Division. -/

section
variable {a b : Word}

theorem divu64_of_ne (hb : b ≠ 0) : divu64 a b = a / b := by
  apply BitVec.eq_of_toNat_eq
  simp only [divu64, beq_false_of_ne hb, Bool.false_eq_true, ↓reduceIte, BitVec.toNat_ofNat, BitVec.toNat_udiv]
  exact Nat.mod_eq_of_lt (Nat.lt_of_le_of_lt (Nat.div_le_self _ _) a.isLt)

theorem remu64_of_ne (hb : b ≠ 0) : remu64 a b = a % b := by
  apply BitVec.eq_of_toNat_eq
  simp only [remu64, beq_false_of_ne hb, Bool.false_eq_true, ↓reduceIte, BitVec.toNat_ofNat, BitVec.toNat_umod]
  exact Nat.mod_eq_of_lt (Nat.lt_of_le_of_lt (Nat.mod_le _ _) a.isLt)

theorem divs64_zero (a : Word) : divs64 a 0 = if a.msb then 1 else -1 := by
  simp only [divs64, signed, BitVec.msb_eq_toInt]
  by_cases h : a.toInt < 0
  · simp [h]
  · simp [h, Int.not_lt.1 h, intWord]

theorem divs64_overflow : divs64 0x8000000000000000 (-1) = 0x8000000000000000 := by decide

theorem rems64_overflow : rems64 0x8000000000000000 (-1) = 0 := by decide

theorem divs64_of_ne (hb : b ≠ 0) : divs64 a b = a.sdiv b := by
  have hq : intWord (a.toInt.tdiv b.toInt) = a.sdiv b :=
    BitVec.eq_of_toInt_eq (by rw [intWord, BitVec.toInt_ofInt, BitVec.toInt_sdiv])
  by_cases ho : a = minWord ∧ b = BitVec.allOnes 64
  · obtain ⟨rfl, rfl⟩ := ho
    decide
  · have ho' : (a == minWord && b == BitVec.allOnes 64) = false := by simpa using ho
    simp only [divs64, beq_false_of_ne hb, ho', Bool.false_eq_true, ↓reduceIte]
    exact hq

theorem rems64_of_ne (hb : b ≠ 0) : rems64 a b = a.srem b := by
  have hr : intWord (a.toInt - a.toInt.tdiv b.toInt * b.toInt) = a.srem b := by
    rw [Int.mul_comm, ← Int.tmod_def, ← BitVec.toInt_srem]
    exact BitVec.ofInt_toInt
  by_cases ho : a = minWord ∧ b = BitVec.allOnes 64
  · obtain ⟨rfl, rfl⟩ := ho
    decide
  · have ho' : (a == minWord && b == BitVec.allOnes 64) = false := by simpa using ho
    simp only [rems64, beq_false_of_ne hb, ho', Bool.false_eq_true, ↓reduceIte]
    exact hr

theorem udiv_mul_add_umod (a b : Word) : a = a / b * b + a % b := by
  apply BitVec.eq_of_toNat_eq
  rw [BitVec.toNat_add, BitVec.toNat_mul, BitVec.toNat_udiv, BitVec.toNat_umod, Nat.mod_add_mod, Nat.div_add_mod',
    Nat.mod_eq_of_lt a.isLt]

theorem sdiv_mul_add_srem (a b : Word) : a = a.sdiv b * b + a.srem b := by
  have hq : a.sdiv b = BitVec.ofInt 64 (a.toInt.tdiv b.toInt) :=
    BitVec.eq_of_toInt_eq (by rw [BitVec.toInt_ofInt, BitVec.toInt_sdiv])
  have hr : a.srem b = BitVec.ofInt 64 (a.toInt.tmod b.toInt) := by rw [← BitVec.toInt_srem, BitVec.ofInt_toInt]
  have hb : b = BitVec.ofInt 64 b.toInt := BitVec.ofInt_toInt.symm
  calc a = BitVec.ofInt 64 (a.toInt.tdiv b.toInt * b.toInt + a.toInt.tmod b.toInt) := by
        rw [Int.mul_comm, Int.mul_tdiv_add_tmod, BitVec.ofInt_toInt]
    _ = a.sdiv b * b + a.srem b := by rw [BitVec.ofInt_add, BitVec.ofInt_mul, ← hq, ← hr, ← hb]

end

/-- Settles O16: the model's four quotients and remainders are those of bit vectors where the divisor is not 0. -/
theorem scalarDivision : Obligations.ScalarDivision := by
  intro s c p ta tb h
  refine ⟨divu64 c.av c.bv, remu64 c.av c.bv, divs64 c.av c.bv, rems64 c.av c.bv, onTile_issues h rfl, onTile_issues h rfl,
    onTile_issues h rfl, onTile_issues h rfl, fun hb => ?_, fun hb => ?_, fun hb ho => ?_, fun hb => ?_, fun ha hb => ?_⟩
  · rw [hb]
    exact ⟨rfl, rfl, rfl, divs64_zero _⟩
  · exact ⟨divu64_of_ne hb, remu64_of_ne hb, divs64_of_ne hb, rems64_of_ne hb⟩
  · rw [divs64_of_ne hb, rems64_of_ne hb]
    exact ⟨BitVec.toInt_sdiv_of_ne_or_ne _ _ ho, BitVec.toInt_srem _ _⟩
  · rw [divu64_of_ne hb, remu64_of_ne hb, divs64_of_ne hb, rems64_of_ne hb]
    exact ⟨udiv_mul_add_umod _ _, sdiv_mul_add_srem _ _⟩
  · rw [ha, hb]
    exact ⟨divs64_overflow, rems64_overflow⟩

/-! Predicates, compares, minima and maxima. -/

theorem bne_eq_decide_ne (a b : Word) : (a != b) = decide (a ≠ b) := by
  rw [bne, decide_not]; rfl

theorem bne_bne_eq_decide (a b : Word) : ((a != 0) != (b != 0)) = decide (¬ (a ≠ 0 ↔ b ≠ 0)) := by
  rw [bne_eq_decide_ne, bne_eq_decide_ne]
  by_cases ha : a = 0
  · by_cases hb : b = 0
    · simp only [ha, hb, ne_eq, not_true_eq_false, decide_false, not_true_eq_false, decide_false, iff_self]; rfl
    · simp only [ha, hb, ne_eq, not_true_eq_false, decide_false, not_false_eq_true, decide_true, false_iff]; rfl
  · by_cases hb : b = 0
    · simp only [ha, hb, ne_eq, not_true_eq_false, decide_false, not_false_eq_true, decide_true, iff_false]; rfl
    · simp only [ha, hb, ne_eq, not_true_eq_false, not_false_eq_true, decide_true, iff_self, decide_false]; rfl

theorem bit_eq_one (v : BitVec 1) : (v == 1) = v.getLsbD 0 := by
  revert v; decide

theorem min_signed (a b : Word) : (if signed a ≤ signed b then a else b) = if b.slt a then b else a := by
  rw [BitVec.slt_eq_decide]
  by_cases h : a.toInt ≤ b.toInt
  · simp [signed, h, Int.not_lt.2 h]
  · simp [signed, h, Int.not_le.1 h]

theorem max_signed (a b : Word) : (if signed a ≤ signed b then b else a) = if a.slt b then b else a := by
  rw [BitVec.slt_eq_decide]
  rcases lt_trichotomy a.toInt b.toInt with h | h | h
  · simp [signed, h, h.le]
  · simp [BitVec.eq_of_toInt_eq h]
  · simp [signed, h.not_ge, h.not_gt]

theorem min_unsigned (a b : Word) : (if a.toNat ≤ b.toNat then a else b) = if b < a then b else a := by
  by_cases h : a.toNat ≤ b.toNat
  · rw [if_pos h, if_neg (show ¬ b < a from Nat.not_lt.2 h)]
  · rw [if_neg h, if_pos (show b < a from Nat.not_le.1 h)]

theorem max_unsigned (a b : Word) : (if a.toNat ≤ b.toNat then b else a) = if a < b then b else a := by
  rcases lt_trichotomy a.toNat b.toNat with h | h | h
  · rw [if_pos h.le, if_pos (show a < b from h)]
  · rw [BitVec.eq_of_toNat_eq h, ite_self, ite_self]
  · rw [if_neg h.not_ge, if_neg (show ¬ a < b from h.not_gt)]

/-- Settles O17: each instruction by its equation. -/
theorem predicatesAndCompares : Obligations.PredicatesAndCompares := by
  intro s c p ta tb v n h
  exact ⟨onTile_sendsPred h (bit_eq_one v), onTile_sendsPred h rfl, onTile_sendsPred h (by simp only [bne_eq_decide_ne, Bool.decide_and]),
    onTile_sendsPred h (by simp only [bne_eq_decide_ne, Bool.decide_or]), onTile_sendsPred h (bne_bne_eq_decide _ _), onTile_sendsPred h rfl,
    onTile_sendsPred h (bne_eq_decide_ne _ _), onTile_sendsPred h BitVec.msb_eq_toInt.symm, onTile_sendsPred h rfl, onTile_sendsPred h rfl,
    onTile_sendsPred h (bne_eq_decide_ne _ _), onTile_sendsPred h BitVec.slt_eq_decide.symm, onTile_sendsPred h BitVec.sle_eq_decide.symm,
    onTile_sendsPred h rfl, onTile_sendsPred h rfl, onTile_sendsVal h (min_signed _ _), onTile_sendsVal h (max_signed _ _),
    onTile_sendsVal h (min_unsigned _ _), onTile_sendsVal h (max_unsigned _ _)⟩

/-! Immediates and moves. -/

theorem abs_eq (a : Word) : (if signed a < 0 then -a else a) = if a.msb then -a else a := by
  rw [BitVec.msb_eq_toInt]
  by_cases h : a.toInt < 0 <;> simp [signed, h]

theorem movhi_eq (imm : BitVec 32) (a : Word) : ((imm.setWidth 64 <<< 32) ||| (a &&& 0xFFFFFFFF)) = imm ++ a.setWidth 32 := by
  apply BitVec.eq_of_toNat_eq
  have hi : imm.toNat < 2 ^ 32 := imm.isLt
  have hl : a.toNat &&& BitVec.toNat (0xFFFFFFFF : Word) = a.toNat % 2 ^ 32 := Nat.and_two_pow_sub_one_eq_mod _ 32
  simp only [BitVec.toNat_or, BitVec.toNat_shiftLeft, BitVec.toNat_setWidth, BitVec.toNat_and, BitVec.toNat_append,
    Nat.reducePow, hl]
  rw [Nat.mod_eq_of_lt (show imm.toNat < 18446744073709551616 by omega), Nat.mod_eq_of_lt]
  rw [Nat.shiftLeft_eq]
  omega

theorem lea64_eq (a b : Word) (sh : BitVec 3) (off : Word) :
    lea64 a b sh.toNat off = a + BitVec.ofNat 64 (b.toNat * 2 ^ sh.toNat) + off := by
  rw [lea64, BitVec.shiftLeft_eq_mul_twoPow, BitVec.ofNat_mul, BitVec.ofNat_toNat, BitVec.setWidth_eq]
  congr 3
  exact BitVec.eq_of_toNat_eq (by rw [BitVec.toNat_twoPow, BitVec.toNat_ofNat])

/-- Settles O18: each instruction by its equation; COPY and SEL have the tokens they wait for. -/
theorem immediatesAndMoves : Obligations.ImmediatesAndMoves := by
  intro s c p ta tb imm sh sc off h
  refine ⟨onTile_sendsVal h rfl, onTile_sendsVal h rfl, onTile_sendsVal h rfl, onTile_sendsVal h rfl, onTile_sendsVal h rfl,
    onTile_sendsVal h rfl, onTile_sendsVal h rfl, onTile_sendsVal h rfl, onTile_sendsPred h rfl, onTile_sendsVal h rfl,
    onTile_sendsVal h (movhi_eq _ _), onTile_sendsVal h (abs_eq _), onTile_sendsVal h rfl, onTile_sendsVal h rfl,
    onTile_sendsVal h (lea64_eq _ _ _ _), fun x hx => onTile_sends h (by rw [hx]; rfl), fun x y hx hy => ?_⟩
  have hs : s.Acts c .always := ⟨h.1, rfl⟩
  refine onTile_sends hs ?_
  rw [bne_eq_decide_ne, decide_not, hx, hy]
  by_cases hp : c.pv = 0
  · simp only [hp, decide_true, Bool.not_true, Bool.false_eq_true, ↓reduceIte, Option.getD_some]
  · simp only [hp, decide_false, Bool.not_false, ↓reduceIte, Option.getD_some]

/-! Counts and fields of bits. -/

theorem countP_eq_sum_toNat (f : Nat → Bool) : ∀ l : List Nat, l.countP f = (l.map fun i => (f i).toNat).sum
  | [] => rfl
  | x :: r => by
    rw [List.countP_cons, countP_eq_sum_toNat f r, List.map_cons, List.sum_cons]
    cases f x <;> simp [Nat.add_comm]

/-- The first index below `n` at which `f` holds, `n` where there is none. -/
theorem find_range_getD_spec (f : Nat → Bool) (n : Nat) :
    let k := ((List.range n).find? f).getD n
    k ≤ n ∧ (∀ i < k, f i = false) ∧ (k < n → f k = true) := by
  cases h : (List.range n).find? f with
  | none =>
    refine ⟨Nat.le_refl n, fun i hi => ?_, fun hn => absurd hn (Nat.lt_irrefl n)⟩
    simpa using List.find?_eq_none.1 h i (List.mem_range.2 hi)
  | some k =>
    obtain ⟨hk, hmem, hbefore⟩ := List.find?_range_eq_some.1 h
    exact ⟨(List.mem_range.1 hmem).le, fun i hi => by simpa using hbefore i hi, fun _ => hk⟩

theorem getLsbD_ones (w i : Nat) (hi : i < 64) : (ones w).getLsbD i = decide (i < w) := by
  rw [ones, BitVec.getLsbD_ofNat, Nat.testBit_two_pow_sub_one, decide_eq_true hi, Bool.true_and]

theorem getLsbD_bfx64 (a : Word) {lo w i : Nat} (sx : Bool) (hf : lo + w + 1 ≤ 64) (hi : i < 64) :
    (bfx64 a lo (w + 1) sx).getLsbD i = if i ≤ w then a.getLsbD (lo + i) else sx && a.getLsbD (lo + w) := by
  have htop : ((a >>> lo) &&& ones (w + 1)).getLsbD w = a.getLsbD (lo + w) := by
    rw [BitVec.getLsbD_and, BitVec.getLsbD_ushiftRight, getLsbD_ones _ _ (by omega)]
    simp
  simp only [bfx64, Nat.add_sub_cancel, htop]
  have hones := getLsbD_ones (w + 1) i hi
  have hfield : ((a >>> lo) &&& ones (w + 1)).getLsbD i = (a.getLsbD (lo + i) && decide (i < w + 1)) := by
    rw [BitVec.getLsbD_and, BitVec.getLsbD_ushiftRight, hones]
  have hsign : ((sx && a.getLsbD (lo + w)) = true ∧ BitVec.getLsbD (((a >>> lo) &&& ones (w + 1)) ||| ~~~ones (w + 1)) i =
      (a.getLsbD (lo + i) && decide (i < w + 1) || !decide (i < w + 1))) ∨ (sx && a.getLsbD (lo + w)) = false := by
    cases hs : sx && a.getLsbD (lo + w)
    · exact .inr rfl
    · rw [BitVec.getLsbD_or, hfield, BitVec.getLsbD_not, hones, decide_eq_true hi, Bool.true_and]
      exact .inl ⟨rfl, rfl⟩
  rcases hsign with ⟨hs, hbit⟩ | hs
  · rw [if_pos hs, hbit, hs]
    by_cases hw : i ≤ w <;> simp [hw]
  · rw [hs, if_neg Bool.false_ne_true, hfield]
    by_cases hw : i ≤ w <;> simp [hw]

theorem getLsbD_bfi64 (a b : Word) {lo w i : Nat} (hf : lo + w + 1 ≤ 64) (hi : i < 64) :
    (bfi64 a b lo (w + 1)).getLsbD i = if lo ≤ i ∧ i ≤ lo + w then b.getLsbD (i - lo) else a.getLsbD i := by
  have hm : (ones (w + 1) <<< lo).getLsbD i = decide (lo ≤ i ∧ i ≤ lo + w) := by
    rw [BitVec.getLsbD_shiftLeft, getLsbD_ones _ _ (by omega)]
    by_cases h1 : i < lo
    · simp [h1, Nat.not_le.2 h1]
    · rw [decide_eq_true hi, decide_eq_false h1, Bool.not_false, Bool.true_and, Bool.true_and]
      exact decide_eq_decide.2 (by omega)
  simp only [bfi64, BitVec.getLsbD_or, BitVec.getLsbD_and, BitVec.getLsbD_not, hm, BitVec.getLsbD_shiftLeft, hi]
  by_cases h : lo ≤ i ∧ i ≤ lo + w
  · simp [h, Nat.not_lt.2 h.1]
  · simp [h]

/-- Settles O19: the counts by the list functions that define them, the fields bit by bit. -/
theorem scalarBits : Obligations.ScalarBits := by
  refine ⟨fun s c p ta tb h => ?_, fun s c p ta tb lo w sx h hf => ?_⟩
  · obtain ⟨hl, hlz, hlo⟩ := find_range_getD_spec (fun i => c.av.getLsbD (63 - i)) 64
    obtain ⟨htl, htz, hto⟩ := find_range_getD_spec (fun i => c.av.getLsbD i) 64
    exact ⟨popc64 c.av, clz64 c.av, ctz64 c.av, onTile_sendsVal h rfl, onTile_sendsVal h rfl, onTile_sendsVal h rfl,
      countP_eq_sum_toNat _ _, hl, hlz, hlo, htl, htz, hto⟩
  · refine ⟨bfx64 c.av lo.toNat (w.toNat + 1) (sx == 1), bfi64 c.av c.bv lo.toNat (w.toNat + 1), onTile_sendsVal h rfl,
      onTile_sendsVal h rfl, fun i hi => ⟨?_, getLsbD_bfi64 _ _ hf hi⟩⟩
    rw [getLsbD_bfx64 _ _ hf hi, bit_eq_one]

/-! Exits, traps and breakpoints. -/

theorem Ctx.exits_first {c : Ctx} (h : c.x.exit = none) (e : ExitKind) : c.exits e = { c.nothing with exit := some e } := by
  simp only [Ctx.exits, h]

theorem Ctx.exits_again {c : Ctx} {first : Nat} {e : ExitKind} (h : c.x.exit = some (first, e)) (e' : ExitKind) :
    c.exits e' = c.stop 0x03 (c.x.block + first * 2 ^ 8) c.slot := by
  simp only [Ctx.exits, h]

/-- Settles O20: a first exit, a second one, and what a task does after its block execution. -/
theorem exits : Obligations.Exits := by
  refine ⟨fun s c p block dly h hx => ?_, fun s c p block dly first e h hx => ?_, fun x cyc b d => ⟨rfl, rfl, rfl, rfl, rfl, rfl⟩⟩
  · refine ⟨onTile_issues h rfl, onTile_issues h (Ctx.exits_first hx _), onTile_issues h (Ctx.exits_first hx _),
      onTile_issues h (Ctx.exits_first hx _), onTile_issues h (Ctx.exits_first hx _), fun hr => ?_, fun hr => ?_⟩
    all_goals show execExitx p s = _; refine onTileS_issues h ?_
    · simp only [hr, hx, Option.isNone_none, Bool.not_true, Bool.and_false, Bool.false_eq_true, ↓reduceIte, Ctx.exits_first]
    · simp only [hr, hx, Option.isNone_none, Bool.not_false, Bool.and_self, ↓reduceIte]
  · refine ⟨onTile_issues h (Ctx.exits_again hx _), ?_, onTile_issues h (Ctx.exits_again hx _),
      onTile_issues h (Ctx.exits_again hx _), onTile_issues h (Ctx.exits_again hx _)⟩
    show execExitx p s = _
    refine onTileS_issues h ?_
    simp only [hx, Option.isNone_some, Bool.false_and, Bool.false_eq_true, ↓reduceIte, Ctx.exits_again hx]

/-- Settles O21: BRK's paddock is found, and its breakpoints decide. -/
theorem trapAndBreak : Obligations.TrapAndBreak := by
  intro s c p code pd h hp
  have hb : s.begun.paddock? c.k.paddock = some pd := hp
  refine ⟨onTile_issues h rfl, fun ht => ?_, fun hf => ?_⟩
  all_goals show execBrk p code s = _; refine onTileS_issues h ?_
  · simp only [hb, Option.map_some, Option.getD_some, ht, ↓reduceIte]
  · simp only [hb, Option.map_some, Option.getD_some, hf, Bool.false_eq_true, ↓reduceIte]

/-! Control registers and the system instructions. -/

theorem genCtr_halves (x : BitVec 128) : ((x >>> 64).setWidth 64 ++ x.setWidth 64 : BitVec 128) = x := by
  apply BitVec.eq_of_toNat_eq
  have hx : x.toNat < 2 ^ 128 := x.isLt
  simp only [BitVec.toNat_append, BitVec.toNat_setWidth, BitVec.toNat_ushiftRight, Nat.shiftRight_eq_div_pow]
  rw [← Nat.shiftLeft_add_eq_or_of_lt (Nat.mod_lt _ (Nat.two_pow_pos 64)), Nat.shiftLeft_eq]
  omega

theorem genCtr_low (x : BitVec 128) (v : Word) :
    BitVec.ofNat 128 (x.toNat / 2 ^ 64 * 2 ^ 64 + v.toNat) = ((x >>> 64).setWidth 64 ++ v : BitVec 128) := by
  apply BitVec.eq_of_toNat_eq
  have hx : x.toNat < 2 ^ 128 := x.isLt
  have hv : v.toNat < 2 ^ 64 := v.isLt
  simp only [BitVec.toNat_append, BitVec.toNat_setWidth, BitVec.toNat_ushiftRight, Nat.shiftRight_eq_div_pow, BitVec.toNat_ofNat]
  rw [← Nat.shiftLeft_add_eq_or_of_lt hv, Nat.shiftLeft_eq]
  omega

theorem genCtr_high (x : BitVec 128) (v : Word) :
    BitVec.ofNat 128 (v.toNat * 2 ^ 64 + x.toNat % 2 ^ 64) = (v ++ x.setWidth 64 : BitVec 128) := by
  apply BitVec.eq_of_toNat_eq
  have hv : v.toNat < 2 ^ 64 := v.isLt
  simp only [BitVec.toNat_append, BitVec.toNat_setWidth, BitVec.toNat_ofNat]
  rw [← Nat.shiftLeft_add_eq_or_of_lt (Nat.mod_lt _ (Nat.two_pow_pos 64)), Nat.shiftLeft_eq]
  omega

/-- Settles O22: the registers one by one, by `taskReg` and `TaskSt.writeReg`. -/
theorem controlRegisters : Obligations.ControlRegisters := by
  intro s c p ta tb idx n h hn
  have hoff : 0x040 + n - 0x040 = n := Nat.add_sub_cancel_left ..
  refine ⟨onTile_sendsVal h rfl, execCtlwr_acts h ta tb idx, rfl, rfl, rfl, rfl, rfl, rfl, genCtr_halves _, rfl, ?_, rfl,
    congrArg (fun g => { c.tsk with genCtr := g }) (genCtr_low _ _), congrArg (fun g => { c.tsk with genCtr := g }) (genCtr_high _ _),
    ?_⟩
  · rw [Ctx.ctlReg, taskReg_stall _ _ _ _ (by omega) (by omega), hoff]
  · rw [TaskSt.writeReg_stall _ _ (by omega) (by omega), hoff]

theorem Ctx.stall_eq (c : Ctx) (task n : Nat) :
    BitVec.ofNat 64 (if (c.t.task task).stat == .absent then 0 else (c.t.task task).stalls.getD n 0) = c.stall task n := by
  unfold Ctx.stall
  split <;> rfl

theorem zero_append (v : Word) : ((0 : Word) ++ v : BitVec 128) = v.setWidth 128 := by
  apply BitVec.eq_of_toNat_eq
  rw [BitVec.toNat_append, BitVec.toNat_setWidth, Nat.mod_eq_of_lt (Nat.lt_trans v.isLt (by decide))]
  exact (congrArg (· ||| v.toNat) (Nat.zero_shiftLeft 64)).trans (Nat.zero_or _)

/-- What firmware leaves free of the 20 us of R249 is more than nothing: a tile's period is at most 1,260 ticks. -/
theorem Kiln.period_lt (k : Kiln) (t : TileSt) : 2 * k.period t < 20 * tUs := by
  have hs : min 7 (k.spineOf t) ≤ 7 := Nat.min_le_left ..
  have hp : k.period t ≤ 2520 := Nat.div_le_self ..
  simp only [tUs]
  omega

section
variable {s : State} {c : Ctx} {p : Pred} {ta tb : Target} {cnt task : BitVec 3} (h : s.Acts c p)
include h

/-- CNTRD that keeps the counter. -/
theorem execCntrd_keeps (other : BitVec 1) :
    execCntrd p ta tb cnt task other 0 s =
      .next (s.sends c 1 ta tb (Tok.val (c.stall (if other == 1 then task.toNat else c.task) cnt.toNat))) := by
  refine onTileS_issues h ?_
  simp only [beq_self_eq_true, ↓reduceIte, Ctx.stall_eq]

/-- CNTRD that clears a counter of its own task. -/
theorem execCntrd_clears_own {other : BitVec 1} (ho : (if other == 1 then task.toNat else c.task) = c.task) :
    execCntrd p ta tb cnt task other 1 s =
      .next (s.issuing c false ta tb { c.emit 1 ta tb (Tok.val (c.stall c.task cnt.toNat)) with
        tsk := { c.tsk with stalls := c.tsk.stalls.set cnt.toNat 0 } }) := by
  refine onTileS_issues h ?_
  have h10 : ((1 : BitVec 1) == 0) = false := rfl
  simp only [ho, h10, Bool.false_eq_true, beq_self_eq_true, ↓reduceIte, Ctx.stall_eq]
  rfl

/-- CNTRD that clears a counter of another task. -/
theorem execCntrd_clears_other (ho : task.toNat ≠ c.task) :
    execCntrd p ta tb cnt task 1 1 s =
      .next (s.issuedFrom (s.begun.modTask c.k.id c.t.id task.toNat fun _ =>
          { c.t.task task.toNat with stalls := (c.t.task task.toNat).stalls.set cnt.toNat 0 })
        c false ta tb (c.emit 1 ta tb (Tok.val (c.stall task.toNat cnt.toNat)))) := by
  refine onTileS_issues h ?_
  have h10 : ((1 : BitVec 1) == 0) = false := rfl
  simp only [h10, beq_false_of_ne ho, Bool.false_eq_true, beq_self_eq_true, ↓reduceIte, Ctx.stall_eq]

end

/-- Settles O24: CNTRD by the task it names, TIMER by its operand; FWSVC's delay lies below what R249 leaves of the 20 us. -/
theorem systemInstructions : Obligations.SystemInstructions := by
  intro s c p ta tb cnt task imm svc h
  refine ⟨execCntrd_keeps h 0, execCntrd_keeps h 1, execCntrd_clears_own h rfl,
    fun ht => (execCntrd_clears_own h (other := 1) ht).trans (execCntrd_clears_own h (other := 0) rfl).symm,
    execCntrd_clears_other h, onTile_issues h rfl, onTile_issues h (by rw [zero_append]), fun ha => onTile_issues h (by rw [ha]),
    fun x ha => onTile_issues h (by rw [ha]; rfl), ?_⟩
  have hd := Nat.mod_lt (Config.freeDelay s.freeCount) (Nat.sub_pos_of_lt (c.k.period_lt c.t))
  refine ⟨s.now + Config.freeDelay s.freeCount % (20 * tUs - 2 * c.k.period c.t), Nat.le_add_right .., by omega, ?_⟩
  show execFwsvc p ta tb svc s = _
  exact onTileS_issues h rfl

end Sys2Proof.Machine
end

section

-- One proof at a time: the whole text then stays within the memory of a check.
set_option Elab.async false

/-! Lane-wise results, lane by lane and flag by flag, the reading of integer lanes, and the values of
floating formats: the proofs of O25, O26 and O29. -/

namespace Sys2Proof.Machine

/-! Lanes of a packed number. -/

theorem packLanes_lt (w : Nat) : ∀ xs : List Nat, packLanes w xs < 2 ^ (w * xs.length)
  | [] => Nat.one_pos
  | x :: r => by
    have ih := packLanes_lt w r
    have hx := Nat.mod_lt x (Nat.two_pow_pos w)
    calc packLanes w (x :: r) < 2 ^ w + 2 ^ w * packLanes w r := Nat.add_lt_add_right hx _
      _ = 2 ^ w * (packLanes w r + 1) := by ring
      _ ≤ 2 ^ w * 2 ^ (w * r.length) := Nat.mul_le_mul_left _ ih
      _ = 2 ^ (w * (x :: r).length) := by rw [← Nat.pow_add, List.length_cons, Nat.mul_add, Nat.mul_one, Nat.add_comm]

/-- Lane `i` of a packed list is its element `i`, modulo the lane's width. -/
theorem fld_packLanes (w : Nat) : ∀ (xs : List Nat) (i : Nat), fld (packLanes w xs) (w * i) w = xs.getD i 0 % 2 ^ w
  | [], i => by simp [packLanes, fld]
  | x :: r, 0 => by simp [packLanes, fld]
  | x :: r, i + 1 => by
    have ih := fld_packLanes w r i
    have hx := Nat.mod_lt x (Nat.two_pow_pos w)
    have hdiv : packLanes w (x :: r) / 2 ^ w = packLanes w r := by
      rw [packLanes, Nat.add_mul_div_left _ _ (Nat.two_pow_pos w), Nat.div_eq_of_lt hx, Nat.zero_add]
    rw [fld, Nat.mul_succ, Nat.add_comm, Nat.pow_add, ← Nat.div_div_eq_div_mul, hdiv]
    exact ih

/-- The payload of lanes that fill 128 bits, lane by lane. -/
theorem lane_ofLanes {w : Nat} {xs : List Nat} (h : w * xs.length ≤ 128) (i : Nat) : lane w (ofLanes w xs) i = xs.getD i 0 % 2 ^ w := by
  have hlt := Nat.lt_of_lt_of_le (packLanes_lt w xs) (Nat.pow_le_pow_right (by decide) h)
  rw [lane, ofLanes, BitVec.toNat_ofNat, Nat.mod_eq_of_lt hlt, fld_packLanes]

/-! Flags. -/

/-- One of the flags: it is ORed when flags are. -/
def Fl.Ors (flag : Fl → Bool) : Prop := ∀ a b : Fl, flag (a.or b) = (flag a || flag b)

theorem Fl.ors_of_mem {flag : Fl → Bool} (h : flag ∈ [Fl.inv, Fl.dz, Fl.ovf, Fl.unf, Fl.inx, Fl.sat]) :
    Fl.Ors flag ∧ flag {} = false := by
  simp only [List.mem_cons, List.not_mem_nil, or_false] at h
  rcases h with rfl | rfl | rfl | rfl | rfl | rfl <;> exact ⟨fun _ _ => rfl, rfl⟩

theorem foldl_or_flag {flag : Fl → Bool} (h : Fl.Ors flag) : ∀ (rs : List (Nat × Fl)) (acc : Fl),
    flag (rs.foldl (fun acc r => acc.or r.2) acc) = (flag acc || rs.any fun r => flag r.2)
  | [], acc => by simp
  | r :: rs, acc => by rw [List.foldl_cons, foldl_or_flag h rs, h, List.any_cons, Bool.or_assoc]

theorem foldFlags_flag {flag : Fl → Bool} (h : Fl.Ors flag) (h0 : flag {} = false) (rs : List (Nat × Fl)) :
    flag (foldFlags rs).2 = true ↔ ∃ r ∈ rs, flag r.2 = true := by
  simp only [foldFlags, foldl_or_flag h, h0, Bool.false_or, List.any_eq_true]

/-! Lane-wise results. -/

/-- The lane-wise result whose lane `j` is `g j`. -/
def byLanes (w : Nat) (g : Nat → Nat × Fl) : Payload × Fl :=
  (ofLanes w (foldFlags ((List.range (128 / w)).map g)).1, (foldFlags ((List.range (128 / w)).map g)).2)

section
variable (w : Nat) (a b c : Payload)

theorem map1_eq (f : Nat → Nat × Fl) : map1 w a f = byLanes w fun j => f (lane w a j) := by
  simp only [map1, byLanes, lanes, List.map_map]; rfl

theorem map2_eq (f : Nat → Nat → Nat × Fl) : map2 w a b f = byLanes w fun j => f (lane w a j) (lane w b j) := by
  simp only [map2, byLanes, lanes, List.zip_map', List.map_map]; rfl

theorem map3_eq (f : Nat → Nat → Nat → Nat × Fl) : map3 w a b c f = byLanes w fun j => f (lane w a j) (lane w b j) (lane w c j) := by
  simp only [map3, byLanes, lanes, List.zip_map', List.map_map]; rfl

end

theorem lane_byLanes {w i : Nat} (g : Nat → Nat × Fl) (h : i < 128 / w) : lane w (byLanes w g).1 i = (g i).1 % 2 ^ w := by
  have hlen : w * (foldFlags ((List.range (128 / w)).map g)).1.length ≤ 128 := by
    simp only [foldFlags, List.length_map, List.length_range]
    exact Nat.mul_div_le 128 w
  rw [byLanes, lane_ofLanes hlen]
  simp [foldFlags, List.getD_eq_getElem?_getD, h]

theorem flag_byLanes {flag : Fl → Bool} (hf : flag ∈ [Fl.inv, Fl.dz, Fl.ovf, Fl.unf, Fl.inx, Fl.sat]) (w : Nat) (g : Nat → Nat × Fl) :
    flag (byLanes w g).2 = true ↔ ∃ j : Nat, j < 128 / w ∧ flag (g j).2 = true := by
  obtain ⟨hor, h0⟩ := Fl.ors_of_mem hf
  simp only [byLanes, foldFlags_flag hor h0, List.mem_map, List.mem_range, exists_exists_and_eq_and]

/-- Settles O25: one, two and three operands alike, by the lane-wise result of a function of the lane. -/
theorem laneWise : Obligations.LaneWise := by
  intro w i a b c f1 f2 f3 _ hi
  rw [map1_eq, map2_eq, map3_eq]
  exact ⟨lane_byLanes _ hi, lane_byLanes _ hi, lane_byLanes _ hi,
    fun flag hf => ⟨flag_byLanes hf w _, flag_byLanes hf w _, flag_byLanes hf w _⟩⟩

/-! Integer lanes. -/

theorem intClamp_eq {fmt : Nat} {lo hi : Int} (h : intBounds fmt = some (lo, hi)) (hle : lo ≤ hi) (v : Int) :
    intClamp fmt v = (max lo (min hi v), decide (v < lo ∨ hi < v)) := by
  simp only [intClamp, h]
  by_cases h1 : v < lo
  · rw [if_pos h1, min_eq_right (by omega), max_eq_left h1.le, decide_eq_true (.inl h1)]
  · by_cases h2 : hi < v
    · rw [if_neg h1, if_pos h2, min_eq_left h2.le, max_eq_right hle, decide_eq_true (.inr h2)]
    · rw [if_neg h1, if_neg h2, min_eq_right (by omega), max_eq_right (by omega), decide_eq_false (by omega)]

/-- A signed lane is the signed number of its bits. -/
theorem sextInt_mod {w : Nat} (hw : 0 < w) (n : Nat) : sextInt w (n % 2 ^ w) = (BitVec.ofNat w n).toInt := by
  obtain ⟨v, rfl⟩ := Nat.exists_eq_succ_of_ne_zero hw.ne'
  rw [BitVec.toInt_eq_toNat_cond, BitVec.toNat_ofNat, sextInt, Nat.mod_mod, Nat.succ_sub_one]
  have hiff : n % 2 ^ (v + 1) < 2 ^ v ↔ 2 * (n % 2 ^ (v + 1)) < 2 ^ (v + 1) := by
    rw [Nat.pow_succ, Nat.mul_comm (2 ^ v) 2]
    omega
  simp only [Nat.succ_eq_add_one, hiff]

/-- Settles O26: the four formats one by one, the clamping by its bounds. -/
theorem integerLaneReading : Obligations.IntegerLaneReading := by
  intro n v
  refine ⟨sextInt_mod (by decide) n, ?_, sextInt_mod (by decide) n, sextInt_mod (by decide) n,
    fun w => (BitVec.toNat_ofInt v).symm, intClamp_eq rfl (by decide) v, intClamp_eq rfl (by decide) v,
    intClamp_eq rfl (by decide) v, intClamp_eq rfl (by decide) v⟩
  exact congrArg Nat.cast (Nat.mod_mod n 256)

/-! Floating formats. -/

/-- A format with infinities whose sign stands above the exponent and the fraction, as the three scalar formats are. -/
structure FF.Ieee (F : FF) : Prop where
  ieee : F.ieee = true
  width : F.width = F.eb + F.fb + 1
  exps : 0 < F.eb

theorem FF.ieee_of_mem {F : FF} (h : F ∈ [FF.fp16, FF.bf16, FF.fp32]) : F.Ieee := by
  simp only [List.mem_cons, List.not_mem_nil, or_false] at h
  rcases h with rfl | rfl | rfl <;> exact ⟨rfl, rfl, by decide⟩

/-- Rounding RNE to the unit that a value already has changes nothing. -/
theorem truncAt_self (m : Nat) (e : Int) : truncAt m e e false = (m, 0, 0) := by
  simp [truncAt]

theorem roundsUp_exact (s : Bool) (t : Nat) : roundsUp 0 s t 0 0 0 = false := rfl

section
variable {F : FF} (s : Bool)

theorem FF.rne_zero (e : Int) : F.rne s 0 e = (F.sbit s, {}) := rfl

/-- A value whose exponent is the format's unit in the last place there is rounded to its own bits. -/
theorem FF.rne_exact {m : Nat} {e : Int} (hm : m ≠ 0) (hu : F.ulp ((Nat.log2 m : Int) + e) = e) {bits : Nat}
    (hsub : (Nat.log2 m : Int) + e < 1 - (F.bias : Int) → bits = m)
    (hnorm : ¬ (Nat.log2 m : Int) + e < 1 - (F.bias : Int) → Nat.log2 m = F.fb ∧
      bits = ((Nat.log2 m : Int) + e + F.bias).toNat * 2 ^ F.fb + (m - 2 ^ F.fb))
    (hmax : bits ≤ F.maxMag) : F.rne s m e = (F.sbit s + bits, {}) := by
  have hm0 : (m == 0) = false := beq_false_of_ne hm
  have hbits : (if (Nat.log2 m : Int) + e < 1 - (F.bias : Int) then m
      else ((Nat.log2 m : Int) + e + F.bias).toNat * 2 ^ F.fb +
        ((if F.fb ≤ Nat.log2 m then m / 2 ^ (Nat.log2 m - F.fb) else m * 2 ^ (F.fb - Nat.log2 m)) - 2 ^ F.fb)) = bits := by
    by_cases h : (Nat.log2 m : Int) + e < 1 - (F.bias : Int)
    · rw [if_pos h, hsub h]
    · obtain ⟨hl, hb⟩ := hnorm h
      rw [if_neg h, hb, if_pos hl.ge, hl, Nat.sub_self, Nat.pow_zero, Nat.div_one]
  simp only [FF.rne, FF.round, hm0, Bool.false_and, Bool.false_eq_true, ↓reduceIte, hu, truncAt_self, roundsUp_exact, hbits,
    Nat.not_lt.2 hmax, bne_self_eq_false, Bool.and_false]

end

/-- The fields of a bit pattern. -/
theorem FF.bits_eq {F : FF} (h : F.Ieee) {n : Nat} (hn : n < 2 ^ F.width) :
    F.sbit (n / 2 ^ (F.width - 1) % 2 == 1) + (n / 2 ^ F.fb % 2 ^ F.eb * 2 ^ F.fb + n % 2 ^ F.fb) = n := by
  have hw : F.width - 1 = F.fb + F.eb := by rw [h.width, Nat.add_sub_cancel, Nat.add_comm]
  have htop : n / 2 ^ (F.fb + F.eb) < 2 := by
    rw [Nat.div_lt_iff_lt_mul (Nat.two_pow_pos _), ← Nat.pow_succ']
    rwa [h.width, Nat.add_comm F.eb] at hn
  have hs : F.sbit (n / 2 ^ (F.width - 1) % 2 == 1) = 2 ^ (F.fb + F.eb) * (n / 2 ^ (F.fb + F.eb)) := by
    rw [FF.sbit, hw]
    generalize n / 2 ^ (F.fb + F.eb) = q at htop ⊢
    interval_cases q <;> simp
  have hlow : n / 2 ^ F.fb % 2 ^ F.eb * 2 ^ F.fb + n % 2 ^ F.fb = n % 2 ^ (F.fb + F.eb) := by
    rw [Nat.pow_add, Nat.mod_mul, Nat.mul_comm, Nat.add_comm]
  rw [hs, hlow, Nat.div_add_mod]

/-- A subnormal value is rounded to its fraction. -/
theorem FF.rne_subnormal {F : FF} (h : F.Ieee) (s : Bool) {fr : Nat} (hfr : fr < 2 ^ F.fb) :
    F.rne s fr (1 - (F.bias : Int) - F.fb) = (F.sbit s + fr, {}) := by
  by_cases h0 : fr = 0
  · rw [h0, FF.rne_zero, Nat.add_zero]
  have hlog : Nat.log2 fr < F.fb := (Nat.log2_lt h0).2 hfr
  have hexp : 1 ≤ 2 ^ F.eb - 1 := Nat.le_sub_of_add_le (Nat.pow_le_pow_right (n := 2) (by decide) h.exps)
  refine FF.rne_exact s h0 ?_ (fun _ => rfl) (fun hn => absurd (by omega) hn) ?_
  · rw [FF.ulp]; omega
  · rw [FF.maxMag, if_pos h.ieee]
    have := Nat.mul_le_mul_right (2 ^ F.fb) hexp
    omega

/-- A normal value is rounded to its exponent and its fraction. -/
theorem FF.rne_normal {F : FF} (h : F.Ieee) (s : Bool) {ex fr : Nat} (h0 : ex ≠ 0) (hex : ex < 2 ^ F.eb - 1) (hfr : fr < 2 ^ F.fb) :
    F.rne s (2 ^ F.fb + fr) ((ex : Int) - F.bias - F.fb) = (F.sbit s + (ex * 2 ^ F.fb + fr), {}) := by
  have hm : 2 ^ F.fb + fr ≠ 0 := (Nat.add_pos_left (Nat.two_pow_pos _) _).ne'
  have hlog : Nat.log2 (2 ^ F.fb + fr) = F.fb :=
    (Nat.log2_eq_iff hm).2 ⟨Nat.le_add_right _ _, by rw [Nat.pow_succ]; omega⟩
  refine FF.rne_exact s hm ?_ (fun hn => absurd hn ?_) (fun _ => ⟨hlog, ?_⟩) ?_
  · rw [hlog, FF.ulp]; omega
  · rw [hlog]; omega
  · rw [hlog, Nat.add_sub_cancel_left]
    congr 2
    omega
  · rw [FF.maxMag, if_pos h.ieee]
    have := Nat.mul_le_mul_right (2 ^ F.fb) (show ex + 1 ≤ 2 ^ F.eb - 1 from hex)
    rw [Nat.succ_mul] at this
    omega

/-- A value that a format with infinities represents is rounded to its own bits. -/
theorem FF.ofFV_read {F : FF} (h : F.Ieee) {n : Nat} (hn : n < 2 ^ F.width) (hnan : (F.read n).isNan = false) :
    F.ofFV (F.read n) = (n, {}) := by
  have hbits := FF.bits_eq h hn
  have hfr : n % 2 ^ F.fb < 2 ^ F.fb := Nat.mod_lt _ (Nat.two_pow_pos _)
  have hex : n / 2 ^ F.fb % 2 ^ F.eb < 2 ^ F.eb := Nat.mod_lt _ (Nat.two_pow_pos _)
  simp only [FF.read, h.ieee, Bool.true_and, Bool.not_true, Bool.false_and, Bool.false_eq_true, ↓reduceIte, beq_iff_eq] at hnan ⊢
  generalize (n / 2 ^ (F.width - 1) % 2 == 1) = s at *
  generalize n / 2 ^ F.fb % 2 ^ F.eb = ex at *
  generalize n % 2 ^ F.fb = fr at *
  by_cases htop : ex = 2 ^ F.eb - 1
  · by_cases h0 : fr = 0
    · rw [if_pos htop, if_pos h0, FF.ofFV, h.ieee, if_pos rfl, FF.infBits, ← hbits, htop, h0, Nat.add_zero]
    · rw [if_pos htop, if_neg h0] at hnan
      cases hnan
  · rw [if_neg htop]
    by_cases h0 : ex = 0
    · rw [if_pos h0, FF.ofFV, FF.rne_subnormal h s hfr, ← hbits, h0, Nat.zero_mul, Nat.zero_add]
    · rw [if_neg h0, FF.ofFV, FF.rne_normal h s h0 (by omega) hfr, hbits]

/-- Settles O29: the three formats are alike, and the invalid operations are evaluated. -/
theorem floatValues : Obligations.FloatValues :=
  ⟨fun _ _ hF hn hnan => FF.ofFV_read (FF.ieee_of_mem hF) hn hnan, by decide⟩

end Sys2Proof.Machine
end

section

-- One proof at a time: the whole text then stays within the memory of a check.
set_option Elab.async false

/-! Atomics as operations on bit vectors, the tokens that generators send, and what a data token's fields say: the proofs of O38, O42
and O44. -/

namespace Sys2Proof.Machine

/-! Atomics. -/

theorem sextInt_toNat {w : Nat} (hw : 0 < w) (x : BitVec w) : sextInt w x.toNat = x.toInt := by
  have h := sextInt_mod hw x.toNat
  rwa [Nat.mod_eq_of_lt x.isLt, BitVec.ofNat_toNat, BitVec.setWidth_eq] at h

theorem toNat_ite {w : Nat} (p : Prop) [Decidable p] (a b : BitVec w) : (if p then a else b).toNat = if p then a.toNat else b.toNat := by
  split <;> rfl

section
variable {n : Nat} (old : BitVec (8 * n)) (x m : Word)

/-- A choice by the signed order of lanes, whatever is chosen. -/
theorem toNat_slt_ite (hn : 0 < 8 * n) (a b c d : BitVec (8 * n)) :
    (if sextInt (8 * n) a.toNat < sextInt (8 * n) b.toNat then c.toNat else d.toNat) = (if a.slt b then c else d).toNat := by
  rw [sextInt_toNat hn, sextInt_toNat hn, toNat_ite, BitVec.slt_eq_decide]
  simp only [decide_eq_true_eq]

theorem min_toNat_eq (a b : BitVec (8 * n)) : min a.toNat b.toNat = (if b.ult a then b else a).toNat := by
  rw [toNat_ite, BitVec.ult]
  simp only [decide_eq_true_eq]
  split <;> omega

theorem max_toNat_eq (a b : BitVec (8 * n)) : max a.toNat b.toNat = (if a.ult b then b else a).toNat := by
  rw [toNat_ite, BitVec.ult]
  simp only [decide_eq_true_eq]
  split <;> omega

end

/-- Settles O38: the operand is what its width leaves of it, and each operation is that of bit vectors. -/
theorem atomicFunctions : Obligations.AtomicFunctions := by
  refine ⟨fun n old x m hn => ?_, fun old x m => ?_, fun old x m => ⟨?_, ?_⟩, fun op old x hop => ?_⟩
  · intro b
    have hw : 0 < 8 * n := by omega
    have hb : x.toNat % 2 ^ (8 * n) = b.toNat := (BitVec.toNat_setWidth (8 * n) x).symm
    have hm : m.toNat % 2 ^ (8 * n) = (m.setWidth (8 * n)).toNat := (BitVec.toNat_setWidth (8 * n) m).symm
    refine ⟨?_, ?_, ?_, ?_, ?_, ?_, ?_, ?_, ?_, ?_⟩
    · show (old.toNat + x.toNat % 2 ^ (8 * n)) % 2 ^ (8 * n) = _
      rw [hb, BitVec.toNat_add]
    · show old.toNat &&& x.toNat % 2 ^ (8 * n) = _
      rw [hb, BitVec.toNat_and]
    · show old.toNat ||| x.toNat % 2 ^ (8 * n) = _
      rw [hb, BitVec.toNat_or]
    · show old.toNat ^^^ x.toNat % 2 ^ (8 * n) = _
      rw [hb, BitVec.toNat_xor]
    · show (if sextInt (8 * n) (x.toNat % 2 ^ (8 * n)) < sextInt (8 * n) old.toNat then x.toNat % 2 ^ (8 * n) else old.toNat) = _
      rw [hb, toNat_slt_ite hw]
    · show (if sextInt (8 * n) old.toNat < sextInt (8 * n) (x.toNat % 2 ^ (8 * n)) then x.toNat % 2 ^ (8 * n) else old.toNat) = _
      rw [hb, toNat_slt_ite hw]
    · show min old.toNat (x.toNat % 2 ^ (8 * n)) = _
      rw [hb, min_toNat_eq]
    · show max old.toNat (x.toNat % 2 ^ (8 * n)) = _
      rw [hb, max_toNat_eq]
    · exact hb
    · show (if old.toNat == m.toNat % 2 ^ (8 * n) then x.toNat % 2 ^ (8 * n) else old.toNat) = _
      rw [hb, hm, toNat_ite]
      simp only [beq_iff_eq, BitVec.toNat_inj]
  · show (FF.fp32.add false old.toNat (x.toNat % 2 ^ 32)).1 = _
    rw [BitVec.toNat_setWidth]
  · show old.toNat ||| 2 ^ (x.toNat % 64) = _
    rw [BitVec.toNat_or, BitVec.toNat_shiftLeft]
    have hk : x.toNat % 64 < 64 := Nat.mod_lt _ (by decide)
    have hp : 2 ^ (x.toNat % 64) < 2 ^ 64 := Nat.pow_lt_pow_right (by decide) hk
    rw [show (1#64).toNat = 1 from rfl, Nat.one_shiftLeft, Nat.mod_eq_of_lt hp]
  · rfl
  · simp only [atomicTok, beq_false_of_ne hop, Bool.false_eq_true, ↓reduceIte, BitVec.ofNat_toNat, BitVec.setWidth_eq]

/-! Generators. -/

/-- One action of a generator that sends. -/
theorem Work.stream_send {w rest : Work} {x : Tok} (h : w.genStep = some (.send x rest)) (fuel : Nat) :
    Work.stream (fuel + 1) w = (Work.stream fuel rest).map fun r => (x :: r.1, r.2) := by
  rw [Work.stream, h]

/-- The last action of a generator. -/
theorem Work.stream_done {w : Work} {x : Tok} (h : w.genStep = some (.done x)) (fuel : Nat) :
    Work.stream (fuel + 1) w = some ([], x) := by
  rw [Work.stream, h]

section
variable (lv : BitVec 3) (dpl : Bool)

/-- LGEN from token `i` on, with `k` tokens to go. -/
theorem stream_lgen (b st : Word) : ∀ k i n : Nat, i + k = n →
    Work.stream (k + 2) (.lgen i n b st lv dpl) =
      some ((List.range' i k).map (fun j => genTok dpl (b + BitVec.ofNat 64 j * st)) ++ [Tok.stop dpl lv], Tok.val (BitVec.ofNat 64 n))
  | 0, i, n, h => by
    obtain rfl : i = n := h
    rw [Work.stream_send (x := Tok.stop dpl lv) (rest := .lgen (i + 1) i b st lv dpl) (by simp [Work.genStep]),
      Work.stream_done (x := Tok.val (BitVec.ofNat 64 i)) (by simp [Work.genStep])]
    rfl
  | k + 1, i, n, h => by
    have hi : i < n := by omega
    rw [Work.stream_send (x := genTok dpl (b + BitVec.ofNat 64 i * st)) (rest := .lgen (i + 1) n b st lv dpl) (by simp [Work.genStep, hi]),
      stream_lgen b st k (i + 1) n (by omega)]
    rfl

section
variable (n1 n0 : Nat) (b s1 s0 : Word)

/-- The tokens of one row of LGEN2, its stop included. -/
def rowToks (i : Nat) : List Tok :=
  (List.range n0).map (fun j => genTok dpl (b + BitVec.ofNat 64 i * s1 + BitVec.ofNat 64 j * s0)) ++
    [Tok.stop dpl (if i + 1 = n1 then lv + 1 else lv)]

/-- A row of LGEN2 from its token `i0` on, with `k` tokens to go: its tokens, its stop, then what the next row sends. -/
theorem stream_lgen2_row {i1 : Nat} (h1 : i1 < n1) (fuel : Nat) : ∀ k i0 : Nat, i0 + k = n0 →
    Work.stream (fuel + 1 + k) (.lgen2 i1 i0 n1 n0 b s1 s0 lv dpl) =
      (Work.stream fuel (.lgen2 (i1 + 1) 0 n1 n0 b s1 s0 lv dpl)).map fun r =>
        ((List.range' i0 k).map (fun j => genTok dpl (b + BitVec.ofNat 64 i1 * s1 + BitVec.ofNat 64 j * s0)) ++
          Tok.stop dpl (if i1 + 1 = n1 then lv + 1 else lv) :: r.1, r.2)
  | 0, i0, h => by
    have hi : ¬ i0 < n0 := by omega
    rw [Nat.add_zero, Work.stream_send (x := Tok.stop dpl (if i1 + 1 = n1 then lv + 1 else lv))
      (rest := .lgen2 (i1 + 1) 0 n1 n0 b s1 s0 lv dpl) (by simp [Work.genStep, h1, hi])]
    rfl
  | k + 1, i0, h => by
    have hi : i0 < n0 := by omega
    rw [← Nat.add_assoc, Work.stream_send (x := genTok dpl (b + BitVec.ofNat 64 i1 * s1 + BitVec.ofNat 64 i0 * s0))
      (rest := .lgen2 i1 (i0 + 1) n1 n0 b s1 s0 lv dpl) (by simp [Work.genStep, h1, hi]), stream_lgen2_row h1 fuel k (i0 + 1) (by omega),
      Option.map_map]
    rfl

/-- LGEN2 from row `i1` on, with `k` rows to go. -/
theorem stream_lgen2 (h0 : 0 < n1) : ∀ k i1 : Nat, i1 + k = n1 →
    Work.stream (k * (n0 + 1) + 1) (.lgen2 i1 0 n1 n0 b s1 s0 lv dpl) =
      some ((List.range' i1 k).flatMap (rowToks lv dpl n1 n0 b s1 s0), Tok.val (BitVec.ofNat 64 (n1 * n0)))
  | 0, i1, h => by
    obtain rfl : i1 = n1 := h
    rw [Work.stream_done (x := Tok.val (BitVec.ofNat 64 (i1 * n0))) (by simp [Work.genStep, h0.ne'])]
    rfl
  | k + 1, i1, h => by
    rw [show (k + 1) * (n0 + 1) + 1 = k * (n0 + 1) + 1 + 1 + n0 by ring, stream_lgen2_row lv dpl n1 n0 b s1 s0 (by omega) _ n0 0 (by omega),
      stream_lgen2 h0 k (i1 + 1) (by omega), List.range'_succ, List.flatMap_cons, rowToks, List.range_eq_range', List.append_assoc]
    rfl

end

section
variable (m b : Word)

theorem genStep_spscn_hit {i : Nat} (cnt : Nat) (hi : i < 64) (hm : m.getLsbD i = true) :
    (Work.spscn i cnt m b lv dpl).genStep =
      some (.send (genTok dpl (b + BitVec.ofNat 64 i)) (.spscn (i + 1) (cnt + 1) m b lv dpl)) := by
  have hf : ((List.range 64).find? fun j => i ≤ j && m.getLsbD j) = some i :=
    List.find?_range_eq_some.2 ⟨by simp [hm], List.mem_range.2 hi, fun j hj => by simp [Nat.not_le.2 hj]⟩
  simp only [Work.genStep, hf]

/-- A bit that is 0 is passed over. -/
theorem genStep_spscn_miss {i : Nat} (cnt : Nat) (hi : i < 64) (hm : m.getLsbD i = false) :
    (Work.spscn i cnt m b lv dpl).genStep = (Work.spscn (i + 1) cnt m b lv dpl).genStep := by
  have hp : (fun j => decide (i ≤ j) && m.getLsbD j) = fun j => decide (i + 1 ≤ j) && m.getLsbD j := by
    funext j
    rcases Nat.lt_trichotomy i j with h | rfl | h
    · simp [h.le, Nat.succ_le_of_lt h]
    · simp [hm]
    · simp [Nat.not_le.2 h, Nat.not_le.2 (Nat.lt_succ_of_lt h)]
  simp only [Work.genStep, hp, hi.le, Nat.succ_le_of_lt hi]

theorem genStep_spscn_end (cnt : Nat) :
    (Work.spscn 64 cnt m b lv dpl).genStep = some (.send (Tok.stop dpl lv) (.spscn 65 cnt m b lv dpl)) ∧
    (Work.spscn 65 cnt m b lv dpl).genStep = some (.done (Tok.val (BitVec.ofNat 64 cnt))) := by
  have hf : ∀ i : Nat, 64 ≤ i → ((List.range 64).find? fun j => i ≤ j && m.getLsbD j) = none := fun i hi =>
    List.find?_eq_none.2 fun j hj => by simp [Nat.not_le.2 (Nat.lt_of_lt_of_le (List.mem_range.1 hj) hi)]
  simp only [Work.genStep, hf 64 (by decide), hf 65 (by decide)]
  exact ⟨rfl, rfl⟩

/-- SPSCN from bit `i` on, with `k` bits to go. -/
theorem stream_spscn : ∀ k i cnt : Nat, i + k = 64 →
    Work.stream (((List.range' i k).filter fun j => m.getLsbD j).length + 2) (.spscn i cnt m b lv dpl) =
      some (((List.range' i k).filter fun j => m.getLsbD j).map (fun j => genTok dpl (b + BitVec.ofNat 64 j)) ++ [Tok.stop dpl lv],
        Tok.val (BitVec.ofNat 64 (cnt + ((List.range' i k).filter fun j => m.getLsbD j).length)))
  | 0, i, cnt, h => by
    obtain rfl : i = 64 := h
    obtain ⟨hstop, hdone⟩ := genStep_spscn_end lv dpl m b cnt
    exact (Work.stream_send hstop 1).trans (congrArg (Option.map _) (Work.stream_done hdone 0))
  | k + 1, i, cnt, h => by
    rw [List.range'_succ]
    cases hm : m.getLsbD i
    · rw [List.filter_cons_of_neg (by simp [hm]), ← stream_spscn k (i + 1) cnt (by omega), Work.stream, Work.stream,
        genStep_spscn_miss lv dpl m b cnt (by omega) hm]
    · rw [List.filter_cons_of_pos hm, List.length_cons, Nat.add_right_comm,
        Work.stream_send (genStep_spscn_hit lv dpl m b cnt (by omega) hm), stream_spscn k (i + 1) (cnt + 1) (by omega),
        Nat.add_assoc cnt 1, Nat.add_comm 1]
      rfl

end

end

/-- Settles O42: each generator from its first token on. -/
theorem generatedStreams : Obligations.GeneratedStreams := by
  refine ⟨fun n b st lv dpl => ?_, fun n1 n0 b s1 s0 lv dpl h => ?_, fun n0 b s1 s0 lv dpl => ?_, fun m b lv dpl => ?_⟩
  · rw [List.range_eq_range']
    exact stream_lgen lv dpl b st n 0 n (Nat.zero_add n)
  · rw [List.range_eq_range' (n := n1)]
    exact stream_lgen2 lv dpl n1 n0 b s1 s0 h n1 0 (Nat.zero_add n1)
  · have hsend : (Work.lgen2 0 0 0 n0 b s1 s0 lv dpl).genStep = some (.send (Tok.stop dpl (lv + 1)) (.lgen2 1 0 0 n0 b s1 s0 lv dpl)) := rfl
    have hdone : (Work.lgen2 1 0 0 n0 b s1 s0 lv dpl).genStep = some (.done (Tok.val (BitVec.ofNat 64 (0 * n0)))) := rfl
    rw [Work.stream_send hsend, Work.stream_done hdone, Nat.zero_mul]
    rfl
  · intro is
    have h := stream_spscn lv dpl m b 64 0 0 rfl
    rw [← List.range_eq_range', Nat.zero_add] at h
    exact h

/-! Data tokens. -/

theorem DTok.gapFields_gap (lost wlost first last : Nat) :
    (DTok.gap ⟨lost, wlost, first, last⟩).gapFields =
      ⟨min lost (2 ^ 32 - 1), min wlost (2 ^ 32 - 1), first % 2 ^ 23, last % 2 ^ 23⟩ := by
  have hl : min lost (2 ^ 32 - 1) < 2 ^ 32 := Nat.lt_of_le_of_lt (Nat.min_le_right ..) (by decide)
  have hw : min wlost (2 ^ 32 - 1) < 2 ^ 32 := Nat.lt_of_le_of_lt (Nat.min_le_right ..) (by decide)
  have hf : first % 2 ^ 23 < 2 ^ 23 := Nat.mod_lt _ (by decide)
  have ha : last % 2 ^ 23 < 2 ^ 23 := Nat.mod_lt _ (by decide)
  simp only [DTok.gapFields, DTok.gap, BitVec.toNat_ofNat, fld]
  generalize min lost (2 ^ 32 - 1) = l at *
  generalize min wlost (2 ^ 32 - 1) = w at *
  generalize first % 2 ^ 23 = f at *
  generalize last % 2 ^ 23 = a at *
  congr 1 <;> omega

/-- The sideband's fields, each below the next. -/
theorem DTok.side_fields (x : DTok) : x.side < 2 ^ 48 ∧ fld x.side 44 4 = x.kind.toNat ∧ fld x.side 41 3 = x.level.toNat ∧
    fld x.side 40 1 = x.narrow.toNat ∧ fld x.side 39 1 = x.domain.toNat ∧ fld x.side 23 16 = x.weight.toNat ∧
    x.side % 2 ^ 23 = x.seq.toNat := by
  have hk : x.kind.toNat < 2 ^ 4 := x.kind.isLt
  have hl : x.level.toNat < 2 ^ 3 := x.level.isLt
  have hn : x.narrow.toNat < 2 := x.narrow.toNat_lt
  have hd : x.domain.toNat < 2 := x.domain.toNat_lt
  have hw : x.weight.toNat < 2 ^ 16 := x.weight.isLt
  have hs : x.seq.toNat < 2 ^ 23 := x.seq.isLt
  simp only [DTok.side, fld]
  omega

theorem toNat_beq_one (b : Bool) : (b.toNat == 1) = b := by cases b <;> rfl

theorem DTok.ofSide_side (x : DTok) : DTok.ofSide x.pay x.side = { x with deps := [] } := by
  obtain ⟨-, hk, hl, hn, hd, hw, hs⟩ := x.side_fields
  have hseq : BitVec.ofNat 23 x.side = x.seq := BitVec.eq_of_toNat_eq (by rw [BitVec.toNat_ofNat, hs])
  simp only [DTok.ofSide, hk, hl, hn, hd, hw, hseq, BitVec.ofNat_toNat, BitVec.setWidth_eq, toNat_beq_one]

/-- Settles O44: the gap's fields and the sideband's. -/
theorem dataTokensRoundTrip : Obligations.DataTokensRoundTrip :=
  ⟨fun lost wlost first last => ⟨DTok.gapFields_gap lost wlost first last, rfl, rfl⟩, fun x => ⟨x.side_fields.1, x.ofSide_side⟩⟩

end Sys2Proof.Machine
end

section

-- One proof at a time: the whole text then stays within the memory of a check.
set_option Elab.async false

/-! The values at reset, the laws of memory in canonical form, what a step's end leaves of its stores, and words that the decoder
refuses or reads: the proofs of O1, O4, O5, O8 and O9. -/

namespace Sys2Proof.Machine

/-- Settles O1: the values stand in the state at reset. -/
theorem resetValues : Obligations.ResetValues :=
  ⟨rfl, rfl, rfl, rfl, by decide, rfl, rfl, rfl, rfl, rfl⟩

/-! Memory. -/

theorem Mem.read_cons (y : Nat) (v : Byte) (r : List Host.Cell) (x : Nat) : Mem.read ((y, v) :: r) x = if y = x then v else Mem.read r x := rfl

theorem Mem.read_write_from {m : List Host.Cell} {lo : Nat} (a : Nat) (b : Byte) (hm : Mem.wfFrom lo m = true) (x : Nat) :
    Mem.read (Mem.write m a b) x = if x = a then b else Mem.read m x := by
  induction m generalizing lo with
  | nil =>
    by_cases hb : b = 0
    · subst hb
      rw [Mem.write, if_pos rfl]
      exact (ite_self _).symm
    · rw [Mem.write, if_neg hb, Mem.read_cons]
      simp only [eq_comm]
  | cons c r ih =>
    obtain ⟨y, v⟩ := c
    have ⟨hlo, _, hr⟩ := (Mem.wfFrom_cons ..).1 hm
    by_cases ha : a < y
    · have hz : Mem.read ((y, v) :: r) a = 0 := Mem.read_below ha ((Mem.wfFrom_cons ..).2 ⟨Nat.le_refl y, (Mem.wfFrom_cons ..).1 hm |>.2⟩)
      rw [Mem.write, if_pos ha]
      by_cases hb : b = 0
      · rw [if_pos hb, hb]
        split
        · next h => rw [h, hz]
        · rfl
      · rw [if_neg hb, Mem.read_cons]
        simp only [eq_comm]
    · rw [Mem.write, if_neg ha]
      by_cases hy : a = y
      · subst hy
        rw [if_pos rfl, Mem.read_cons a v]
        by_cases hb : b = 0
        · rw [if_pos hb]
          by_cases hx : x = a
          · rw [if_pos hx, hx, Mem.read_below (Nat.lt_succ_self a) hr, hb]
          · rw [if_neg hx, if_neg (Ne.symm hx)]
        · rw [if_neg hb, Mem.read_cons]
          by_cases hx : x = a
          · rw [if_pos hx, if_pos hx.symm]
          · rw [if_neg hx, if_neg (Ne.symm hx), if_neg (Ne.symm hx)]
      · rw [if_neg hy, Mem.read_cons, Mem.read_cons, ih hr]
        by_cases hx : y = x
        · rw [if_pos hx, if_pos hx, if_neg (fun h => hy (h.symm.trans hx.symm))]
        · rw [if_neg hx, if_neg hx]

theorem Mem.read_write {m : List Host.Cell} (hm : Mem.wf m = true) (a : Nat) (b : Byte) (x : Nat) :
    Mem.read (Mem.write m a b) x = if x = a then b else Mem.read m x := Mem.read_write_from a b hm x

/-- The least entry of canonical memory is read where a memory that reads alike has no entry below. -/
theorem Mem.head_le {x : Nat} {v : Byte} {r n : List Host.Cell} {y : Nat} (hv : v ≠ 0) (hn : Mem.wfFrom y n = true)
    (h : ∀ a : Nat, Mem.read ((x, v) :: r) a = Mem.read n a) : y ≤ x := by
  refine Nat.not_lt.1 fun hlt => hv ?_
  rw [← Mem.read_below hlt hn, ← h x, Mem.read_cons, if_pos rfl]

theorem Mem.eq_of_read_eq {m n : List Host.Cell} {lo : Nat} (hm : Mem.wfFrom lo m = true) (hn : Mem.wfFrom lo n = true)
    (h : ∀ a : Nat, Mem.read m a = Mem.read n a) : m = n := by
  induction m generalizing lo n with
  | nil =>
    match n with
    | [] => rfl
    | (y, u) :: q =>
      have ⟨_, hu, _⟩ := (Mem.wfFrom_cons ..).1 hn
      exact absurd ((h y).symm.trans rfl) (by rwa [Mem.read_cons, if_pos rfl])
  | cons c r ih =>
    obtain ⟨x, v⟩ := c
    have ⟨_, hv, hr⟩ := (Mem.wfFrom_cons ..).1 hm
    match n with
    | [] => exact absurd (h x) (by rwa [Mem.read_cons, if_pos rfl])
    | (y, u) :: q =>
      have ⟨_, hu, hq⟩ := (Mem.wfFrom_cons ..).1 hn
      have hyx : y ≤ x := Mem.head_le hv ((Mem.wfFrom_cons ..).2 ⟨Nat.le_refl y, hu, hq⟩) h
      have hxy : x ≤ y := Mem.head_le hu ((Mem.wfFrom_cons ..).2 ⟨Nat.le_refl x, hv, hr⟩) fun a => (h a).symm
      obtain rfl : x = y := Nat.le_antisymm hxy hyx
      obtain rfl : v = u := by
        have := h x
        rwa [Mem.read_cons, Mem.read_cons, if_pos rfl, if_pos rfl] at this
      rw [ih hr hq fun a => ?_]
      by_cases ha : x = a
      · rw [← ha, Mem.read_below (Nat.lt_succ_self x) hr, Mem.read_below (Nat.lt_succ_self x) hq]
      · have := h a
        rwa [Mem.read_cons, Mem.read_cons, if_neg ha, if_neg ha] at this

/-- Settles O4, by induction on the listed cells, of one memory or of two. -/
theorem memoryLaws : Obligations.MemoryLaws :=
  ⟨fun _ a b h => Mem.read_write h a b, fun _ _ hm hn h => Mem.eq_of_read_eq hm hn h⟩

theorem Mem.read_apply {m : List Host.Cell} (hm : Mem.wf m = true) (l : List Host.Cell) (a : Nat) :
    Mem.read (Mem.apply m l) a = match l.find? (fun c => c.1 == a) with
      | some c => c.2
      | none => Mem.read m a := by
  induction l with
  | nil => rfl
  | cons c r ih =>
    rw [Mem.apply, Mem.read_write (Mem.wf_apply r hm), List.find?_cons]
    by_cases h : a = c.1
    · rw [if_pos h, h, beq_self_eq_true]
    · rw [if_neg h, ih, beq_false_of_ne (Ne.symm h)]

/-- After a step every byte is what the step saw at its end. -/
theorem State.byte_commit {s t : State} (hs : Mem.wf s.mem = true) (ht : t.mem = s.mem) (a : Nat) : (s.commit t).byte a = t.byte a := by
  rw [show t.byte a = match t.wlog.find? (fun c => c.1 == a) with
    | some c => c.2
    | none => Mem.read s.mem a by rw [← ht]; rfl]
  exact Mem.read_apply hs t.wlog a

/-- Settles O5. -/
theorem commitReadsAsStep : Obligations.CommitReadsAsStep := fun _ _ a hs ht => State.byte_commit hs ht a

/-- Before a step begins no store of its own hides memory. -/
theorem State.byte_begun {s : State} (h : StateInv s) (a : Nat) : s.begun.byte a = s.byte a := by
  simp only [State.byte, State.begun, h.2]

/-! Reserved opcodes (R220). -/

section
variable {w : Nat}

theorem decodeRow0_reserved (hr : fld w 60 4 = 0) (h : fld w 56 4 = 15) : decodeTileNat w = .error .opcodeReserved := by
  rw [decodeTileNat, hr]
  show decodeRow0 w = _
  rw [decodeRow0, h]
  rfl

theorem decodeRow9_reserved (hr : fld w 60 4 = 9) (h : 12 ≤ fld w 56 4) : decodeTileNat w = .error .opcodeReserved := by
  obtain ⟨n, e⟩ := Nat.exists_eq_add_of_le' h
  rw [decodeTileNat, hr]
  show decodeRow9 w = _
  rw [decodeRow9, e]
  rfl

theorem decodeRowA_reserved (hr : fld w 60 4 = 10) (h : 10 ≤ fld w 56 4) : decodeTileNat w = .error .opcodeReserved := by
  obtain ⟨n, e⟩ := Nat.exists_eq_add_of_le' h
  rw [decodeTileNat, hr]
  show decodeRowA w = _
  rw [decodeRowA, e]
  rfl

theorem decodeRowB_reserved (hr : fld w 60 4 = 11) (h : 10 ≤ fld w 56 4) : decodeTileNat w = .error .opcodeReserved := by
  obtain ⟨n, e⟩ := Nat.exists_eq_add_of_le' h
  rw [decodeTileNat, hr]
  show decodeRowB w = _
  rw [decodeRowB, e]
  rfl

theorem decodeRowC_reserved (hr : fld w 60 4 = 12) (h : 6 ≤ fld w 56 4) : decodeTileNat w = .error .opcodeReserved := by
  obtain ⟨n, e⟩ := Nat.exists_eq_add_of_le' h
  rw [decodeTileNat, hr]
  show decodeRowC w = _
  rw [decodeRowC, e]
  rfl

theorem decodeRowD_reserved (hr : fld w 60 4 = 13) (h : 11 ≤ fld w 56 4) : decodeTileNat w = .error .opcodeReserved := by
  obtain ⟨n, e⟩ := Nat.exists_eq_add_of_le' h
  rw [decodeTileNat, hr]
  show decodeRowD w = _
  rw [decodeRowD, e]
  rfl

theorem decodeRowE_reserved (hr : fld w 60 4 = 14) (h : 9 ≤ fld w 56 4) : decodeTileNat w = .error .opcodeReserved := by
  obtain ⟨n, e⟩ := Nat.exists_eq_add_of_le' h
  rw [decodeTileNat, hr]
  show decodeRowE w = _
  rw [decodeRowE, e]
  rfl

end

/-- Settles O8: the high digit of the OP byte names the row, and the low one an entry that the row does not have. -/
theorem reservedOpcodesRefused : Obligations.ReservedOpcodesRefused := by
  intro w op hw hop h
  have hrow : fld w 60 4 = op / 16 := by
    rw [fld]
    omega
  have hlow : fld w 56 4 = op % 16 := by
    rw [fld, hop]
    rfl
  have ho : op < 256 := by omega
  obtain h | h | h | h | h | h | h := h
  · subst h
    exact decodeRow0_reserved hrow hlow
  · exact decodeRow9_reserved (hrow.trans (show op / 16 = 9 by omega)) (by omega)
  · exact decodeRowA_reserved (hrow.trans (show op / 16 = 10 by omega)) (by omega)
  · exact decodeRowB_reserved (hrow.trans (show op / 16 = 11 by omega)) (by omega)
  · exact decodeRowC_reserved (hrow.trans (show op / 16 = 12 by omega)) (by omega)
  · exact decodeRowD_reserved (hrow.trans (show op / 16 = 13 by omega)) (by omega)
  · obtain he | he : op / 16 = 14 ∨ op / 16 = 15 := by omega
    · exact decodeRowE_reserved (hrow.trans he) (by omega)
    · rw [decodeTileNat, hrow.trans he]
      rfl

/-- Settles O9, by running the decoder on the four words. -/
theorem specWordsDecode : Obligations.SpecWordsDecode := ⟨rfl, rfl, rfl, rfl⟩

end Sys2Proof.Machine
end

section

-- One proof at a time: the whole text then stays within the memory of a check.
set_option Elab.async false

/-! Walks, what a drover's list does when it goes on, and the commands on registers, order, patterns and binding, and on
data: the proofs of O51, O52 and O53. -/

namespace Sys2Proof.Machine

/-! Walks. -/

theorem idxOf_cons {d : PatDim} {i : Nat} (r : List PatDim) (n : Nat) (h : i < d.count) :
    idxOf (d :: r) (i + d.count * n) = i :: idxOf r n := by
  have hm : max 1 d.count = d.count := Nat.max_eq_right (Nat.lt_of_le_of_lt (Nat.zero_le i) h)
  rw [idxOf, hm, Nat.add_mul_mod_self_left, Nat.mod_eq_of_lt h, Nat.add_mul_div_left _ _ (Nat.lt_of_le_of_lt (Nat.zero_le i) h),
    Nat.div_eq_of_lt h, Nat.zero_add]

/-- The indices of element `i0 + n0 (i1 + n1 (i2 + n2 i3))`. -/
theorem idxOf_four {d0 d1 d2 d3 : PatDim} {i0 i1 i2 i3 : Nat} (h0 : i0 < d0.count) (h1 : i1 < d1.count) (h2 : i2 < d2.count)
    (h3 : i3 < d3.count) :
    idxOf [d0, d1, d2, d3] (i0 + d0.count * (i1 + d1.count * (i2 + d2.count * i3))) = [i0, i1, i2, i3] := by
  have h := idxOf_cons [] 0 h3
  rw [Nat.mul_zero, Nat.add_zero] at h
  rw [idxOf_cons _ _ h0, idxOf_cons _ _ h1, idxOf_cons _ _ h2, h, idxOf]

theorem add_mul_lt_mul {i n m k : Nat} (hi : i < n) (hm : m < k) : i + n * m < n * k :=
  calc i + n * m < n + n * m := Nat.add_lt_add_right hi _
    _ = n * (m + 1) := by ring
    _ ≤ n * k := Nat.mul_le_mul_left n hm

/-- The coordinate of index `i` of a dimension (R164). -/
def PatDim.coord (d : PatDim) (i : Nat) : Int := if d.circ then (d.start + i) % (d.extent : Int) else d.start + i

theorem coordOf_inside {d : PatDim} {i : Nat} (h : 0 ≤ d.coord i ∧ d.coord i < d.extent) :
    coordOf d.start i d.extent d.circ = some (d.coord i).toNat :=
  if_pos (by rw [Bool.and_eq_true, decide_eq_true_eq, decide_eq_true_eq]; exact h)

theorem coordOf_outside {d : PatDim} {i : Nat} (h : ¬ (0 ≤ d.coord i ∧ d.coord i < d.extent)) :
    coordOf d.start i d.extent d.circ = none :=
  if_neg (by rw [Bool.and_eq_true, decide_eq_true_eq, decide_eq_true_eq]; exact h)

theorem allSome_eq_none {α : Type} : ∀ {l : List (Option α)}, none ∈ l → allSome l = none
  | none :: _, _ => rfl
  | some x :: r, h => by
    have hr : none ∈ r := (List.mem_cons.1 h).resolve_left (by simp)
    rw [allSome, allSome_eq_none hr, Option.map_none]

theorem toNat_add_ofInt (b : Word) (z : Int) : (b + BitVec.ofInt 64 z).toNat = ((b.toNat + z) % 2 ^ 64).toNat := by
  have h : b + BitVec.ofInt 64 z = BitVec.ofInt 64 (b.toNat + z) := by
    rw [BitVec.ofInt_add, BitVec.ofInt_natCast, BitVec.ofNat_toNat, BitVec.setWidth_eq]
  rw [h, BitVec.toNat_ofInt]
  rfl

/-- Settles O53: the indices are the digits of the element's number, and each dimension gives its coordinate or none. -/
theorem walkAddresses : Obligations.WalkAddresses := by
  intro d0 d1 d2 d3 base i0 i1 i2 i3 h0 h1 h2 h3 x e inside
  have hc : walkCoords [d0, d1, d2, d3] e = allSome [coordOf d0.start i0 d0.extent d0.circ, coordOf d1.start i1 d1.extent d1.circ,
      coordOf d2.start i2 d2.extent d2.circ, coordOf d3.start i3 d3.extent d3.circ] := by
    rw [walkCoords, idxOf_four h0 h1 h2 h3]
    rfl
  refine ⟨?_, fun h => ?_, fun j0 j1 j2 j3 => ?_⟩
  · have := add_mul_lt_mul h0 (add_mul_lt_mul h1 (add_mul_lt_mul h2 h3))
    simpa only [walkCount, List.foldl_cons, List.foldl_nil, Nat.one_mul, Nat.mul_assoc] using this
  · have hn : none ∈ [coordOf d0.start i0 d0.extent d0.circ, coordOf d1.start i1 d1.extent d1.circ,
        coordOf d2.start i2 d2.extent d2.circ, coordOf d3.start i3 d3.extent d3.circ] := by
      by_contra hs
      simp only [List.mem_cons, List.not_mem_nil, or_false, not_or] at hs
      obtain ⟨s0, s1, s2, s3⟩ := hs
      exact h ⟨not_not.1 fun k => s0 (coordOf_outside k).symm, not_not.1 fun k => s1 (coordOf_outside k).symm,
        not_not.1 fun k => s2 (coordOf_outside k).symm, not_not.1 fun k => s3 (coordOf_outside k).symm⟩
    rw [walkAt, hc, allSome_eq_none hn, Option.map_none]
  · have hs : ((((d0.coord i0).toNat, d0) :: ((d1.coord i1).toNat, d1) :: ((d2.coord i2).toNat, d2) :: [((d3.coord i3).toNat, d3)]).map
        fun (p : Nat × PatDim) => (p.1 : Int) * p.2.stride).sum =
        x d0 i0 * d0.stride + x d1 i1 * d1.stride + x d2 i2 * d2.stride + x d3 i3 * d3.stride := by
      have ht : ∀ (d : PatDim) (i : Nat), inside d i → ((d.coord i).toNat : Int) = x d i := fun d i hd => Int.toNat_of_nonneg hd.1
      simp only [List.map_cons, List.map_nil, List.sum_cons, List.sum_nil, ht _ _ j0, ht _ _ j1, ht _ _ j2, ht _ _ j3]
      ring
    rw [walkAt, hc, coordOf_inside j0, coordOf_inside j1, coordOf_inside j2, coordOf_inside j3]
    exact congrArg some ((congrArg (fun z : Int => ((base.toNat + z) % 2 ^ 64).toNat) hs).trans (toNat_add_ofInt base _).symm)

/-! The running list of a drover. -/

theorem State.drover_die_slice (s : State) (d n : Nat) : (s.drover d n).die = d ∧ (s.drover d n).slice = n := by
  rw [State.drover]
  cases h : s.drovers.find? fun x => x.die == d && x.slice == n with
  | none => exact ⟨rfl, rfl⟩
  | some x =>
    have hx := List.find?_some h
    rwa [Bool.and_eq_true, beq_iff_eq, beq_iff_eq] at hx

theorem State.drover_setDrover_ne (s : State) (x : DroverSt) {d n : Nat} (h : d ≠ x.die ∨ n ≠ x.slice) :
    (s.setDrover x).drover d n = s.drover d n := by
  have hx : (x.die == d && x.slice == n) = false := by
    rw [Bool.and_eq_false_iff, beq_eq_false_iff_ne, beq_eq_false_iff_ne]
    exact h.imp Ne.symm Ne.symm
  have hr : (s.drovers.filter fun y => !(y.die == x.die && y.slice == x.slice)).find? (fun y => y.die == d && y.slice == n) =
      s.drovers.find? fun y => y.die == d && y.slice == n := by
    rw [List.find?_filter]
    refine congrArg (fun p => List.find? p s.drovers) (funext fun y => ?_)
    cases hy : (y.die == d && y.slice == n) with
    | false => simp
    | true =>
      rw [Bool.and_eq_true, beq_iff_eq, beq_iff_eq] at hy
      obtain ⟨hd, hn⟩ := hy
      have hne : (y.die == x.die && y.slice == x.slice) = false := by
        rw [hd, hn, Bool.and_eq_false_iff, beq_eq_false_iff_ne, beq_eq_false_iff_ne]
        exact h
      rw [hne]
      rfl
  simp only [State.drover, State.setDrover]
  split
  · rw [hr]
  · rw [List.find?_append, hr, List.find?_singleton, hx, if_neg Bool.false_ne_true, Option.or_none]

theorem State.drover_setDrover_self (s : State) {x : DroverSt} (h : x.run.isSome = true) : (s.setDrover x).drover x.die x.slice = x := by
  have hx : (x.run.isNone && x.queue.isEmpty) = false := by
    rw [Option.isNone_eq_false_iff.2 h, Bool.false_and]
  have hr : (s.drovers.filter fun y => !(y.die == x.die && y.slice == x.slice)).find? (fun y => y.die == x.die && y.slice == x.slice) = none := by
    rw [List.find?_eq_none]
    intro y hy
    have hk := (List.mem_filter.1 hy).2
    rw [Bool.not_eq_true'] at hk
    rw [hk]
    exact Bool.false_ne_true
  simp only [State.drover, State.setDrover, hx, Bool.false_eq_true, if_false, List.find?_append, hr, List.find?_singleton, beq_self_eq_true,
    Bool.and_self, if_true, Option.none_or, Option.getD_some]

theorem State.putList_eq (s : State) (c : DCtx) (l : Option DList) :
    s.putList c l = { s with drovers := (s.putList c l).drovers } := rfl

theorem State.drover_putList_ne (s : State) (c : DCtx) (l : Option DList) {d n : Nat} (h : d ≠ c.die ∨ n ≠ c.slice) :
    (s.putList c l).drover d n = s.drover d n := by
  obtain ⟨hd, hn⟩ := s.drover_die_slice c.die c.slice
  refine s.drover_setDrover_ne _ (h.imp (fun k => ?_) fun k => ?_)
  · rwa [show ({ s.drover c.die c.slice with run := l } : DroverSt).die = c.die from hd]
  · rwa [show ({ s.drover c.die c.slice with run := l } : DroverSt).slice = c.slice from hn]

theorem State.drover_putList_self (s : State) (c : DCtx) (l : DList) :
    (s.putList c (some l)).drover c.die c.slice = { s.drover c.die c.slice with run := some l } := by
  obtain ⟨hd, hn⟩ := s.drover_die_slice c.die c.slice
  have h := s.drover_setDrover_self (x := { s.drover c.die c.slice with run := some l }) rfl
  rw [hd, hn] at h
  exact h

/-- A drove-list command with its drover there. -/
theorem onDrover_eq {s : State} {c : DCtx} (h : s.curDrover = some c) (f : State → DCtx → State) :
    onDrover s f = .next (s.commit (f s.begun c)) := by
  rw [onDrover, h]
  rfl

/-- Two effects that agree on the drover there make one next state. -/
theorem onDrover_goes {s : State} {c : DCtx} (h : s.curDrover = some c) {f : State → DCtx → State} {t : State} (e : f s.begun c = t) :
    onDrover s f = .next (s.commit t) := by
  rw [onDrover_eq h, e]

/-- A jump that is taken at zero: the Boolean test and the equation choose alike. -/
theorem beq_zero_ite (x : Word) (a b : Nat) : (if x == 0 then a else b) = if x = 0 then a else b := by
  simp only [beq_iff_eq]

theorem sub_one_ne_zero_ite (x : Word) (a b : Nat) : (if x - 1 != 0 then a else b) = if x = 1 then b else a := by
  by_cases h : x = 1
  · subst h
    rfl
  · rw [if_neg h, if_pos (bne_iff_ne.2 fun hz => h (BitVec.sub_eq_iff_eq_add.1 hz))]

theorem beq_one_ite {α : Type} (b : BitVec 1) (u v : α) (h : b ≠ 1) : (if b == 1 then u else v) = v := if_neg (by simpa using h)

/-- Settles O51: each command is its function of the running list, and going on sets the drover's entry. -/
theorem droverCommands : Obligations.DroverCommands := by
  constructor
  · intro s c gd ga gb imm tgt inc pr dim circ bind sat on count extent start stride tile wicket src dst mode scope ctr h
    refine ⟨onDrover_eq h _, onDrover_eq h _, onDrover_eq h _, onDrover_eq h _, onDrover_eq h _, onDrover_eq h _, ?_, ?_, ?_,
      onDrover_eq h _, ?_, onDrover_eq h _, onDrover_eq h _, fun hb => ?_, onDrover_eq h _, fun ho => ?_, onDrover_eq h _, onDrover_eq h _,
      onDrover_eq h _, fun hw => ?_, fun hw => ?_, fun hw => ?_, fun hw => ?_, Bool.or_false _, Bool.or_false _, rfl, rfl⟩
    · exact onDrover_goes h (congrArg (s.begun.listGo c _) (beq_zero_ite _ _ _))
    · exact onDrover_goes h (congrArg (s.begun.listGo c _) (beq_zero_ite _ _ _))
    · exact onDrover_goes h (congrArg (s.begun.listGo c _) (sub_one_ne_zero_ite _ _ _))
    · exact onDrover_goes h (congrArg (s.begun.listGo c _) (beq_zero_ite _ _ _))
    · exact onDrover_goes h (congrArg (fun b => s.begun.listNext c { c.l with binding := b }) (beq_one_ite bind _ _ hb))
    · exact onDrover_goes h (congrArg (fun b => s.begun.listNext c { c.l with conv := b }) (beq_one_ite on _ _ ho))
    · exact onDrover_goes h (if_pos (BitVec.le_def.1 hw))
    · exact onDrover_goes h (if_pos (BitVec.le_def.1 hw))
    · exact onDrover_goes h (if_neg (Nat.not_le.2 (BitVec.lt_def.1 hw)))
    · exact onDrover_goes h (if_neg (Nat.not_le.2 (BitVec.lt_def.1 hw)))
  · intro s c l n t
    let at_ := s.now + 1 + Config.freeDelay s.freeCount
    have hp := s.draw.2.drover_putList_self c { l with
      index := n, word := none, pos := 0, buf := [], row := none, entry := none, waits := false, held := none, retry := false, at_ := at_ }
    have ht : t.drover c.die c.slice = _ := hp
    refine ⟨rfl, fun die slice hne => State.drover_putList_ne _ c _ hne, ?_, at_,
      Nat.lt_of_lt_of_le (Nat.lt_succ_self _) (Nat.le_add_right _ _), ?_⟩
    · rw [ht]
      rfl
    · rw [ht]

/-- The destination of R344, by its bit DGEN. -/
theorem DList.dest_eq (l : DList) (dgen : BitVec 1) (gd : BitVec 4) (imm : Word) :
    l.dest dgen gd imm = (if dgen = 1 then imm + l.g.getD gd.toNat 0 else imm).toNat := by
  by_cases h : dgen = 1
  · rw [DList.dest, if_pos h, if_pos (beq_iff_eq.2 h)]
    rfl
  · rw [DList.dest, if_neg h, beq_one_ite _ _ _ h]
    exact congrArg BitVec.toNat (BitVec.add_zero imm)

/-- Settles O52: each command moves one part, to the destination of R344. -/
theorem droverTransfers : Obligations.DroverTransfers := by
  intro s c pr ga gb gd fmt srcoc dgen dom imm h G P D ends
  have hd : c.l.dest dgen gd imm = D := c.l.dest_eq dgen gd imm
  refine ⟨onDrover_goes h ?_, onDrover_goes h ?_, onDrover_goes h ?_, onDrover_goes h rfl, fun e he => onDrover_goes h ?_,
    fun e t he ht => onDrover_goes h ?_, fun t ht => onDrover_goes h ?_⟩
  · exact congrArg (fun d => s.begun.pushPart c (c.agent 0x0A) P (.push (G ga) fmt.toNat (srcoc == 1)) d (dom == 1)) hd
  · exact congrArg (fun d => s.begun.pullPart c (c.agent 0x0B) P (G ga) fmt.toNat d) hd
  · exact congrArg (fun d => s.begun.pushPart c (c.agent 0x0D) P (.gath (G ga) (G gb) fmt.toNat) d (dom == 1)) hd
  · rw [← hd, State.dataDo, he]
    rfl
  · have hg : s.begun.captureEntry (c.agent 0x0C) (c.l.get ga) = .ok e t := ht
    simp only [State.dataDo, he, hg]
  · have hf : s.begun.foldStart (c.agent 0x12) (c.l.get ga) (c.l.get gb) = .ok () t := ht
    simp only [hf]
    rfl

end Sys2Proof.Machine
end

section

-- One proof at a time: the whole text then stays within the memory of a check.
set_option Elab.async false

/-! Host commands: what an entry of a bad form or of an unknown paddock does, the completion entry, and the effect of each command:
the proofs of O54, O55 and O56. -/

namespace Sys2Proof.Machine

/-! Command entries. -/

section
variable {s : State} {e : Rec8} {m : List Nat}

theorem onCommand_bad (h : s.cursor = .command e) (hf : formOk e m = false) (f : State → Rec8 → State) :
    onCommand s m f = .next (s.commit (s.begun.badParam e)) := by
  rw [onCommand, h]
  simp only [hf, Bool.false_eq_true, if_false]
  rfl

theorem onCommand_ok (h : s.cursor = .command e) (hf : formOk e m = true) {f : State → Rec8 → State} {t : State} (ht : f s.begun e = t) :
    onCommand s m f = .next (s.commit t) := by
  rw [onCommand, h, ← ht]
  simp only [hf, if_true]
  rfl

theorem onPaddock_ok (h : s.cursor = .command e) (hf : formOk e m = true) {p : Paddock} (hp : s.paddock? (cmdPaddock e) = some p)
    {f : State → Rec8 → Paddock → State} {t : State} (ht : f s.begun e p = t) : onPaddock s m f = .next (s.commit t) := by
  have hb : s.begun.paddock? (cmdPaddock e) = some p := hp
  exact onCommand_ok h hf (by simp only [hb, ht])

/-- A command of a paddock that does not exist completes BADPARAM, whatever its form. -/
theorem onPaddock_none (h : s.cursor = .command e) (hp : s.paddock? (cmdPaddock e) = none) (f : State → Rec8 → Paddock → State) :
    onPaddock s m f = .next (s.commit (s.begun.badParam e)) := by
  cases hf : formOk e m with
  | false => exact onCommand_bad h hf _
  | true =>
    have hb : s.begun.paddock? (cmdPaddock e) = none := hp
    exact onCommand_ok h hf (by simp only [hb])

end

/-! Completions. -/

theorem getD_leBytes (n v i : Nat) (h : i < n) : (leBytes n v).getD i 0 = BitVec.ofNat 8 (v / 256 ^ i) := by
  induction n generalizing v i with
  | zero => exact absurd h (Nat.not_lt_zero i)
  | succ n ih =>
    match i with
    | 0 => rw [leBytes, Nat.pow_zero, Nat.div_one, List.getD_cons_zero]
    | i + 1 =>
      rw [leBytes, List.getD_cons_succ, ih _ _ (Nat.lt_of_succ_lt_succ h), Nat.div_div_eq_div_mul, Nat.pow_succ, Nat.mul_comm]

theorem length_leBytes (n v : Nat) : (leBytes n v).length = n := by
  induction n generalizing v with
  | zero => rfl
  | succ n ih => rw [leBytes, List.length_cons, ih]

/-- Byte `i` of a word as it stands in memory. -/
theorem getD_leBytes_word (w : Word) {i : Nat} (h : i < 8) : (leBytes 8 w.toNat).getD i 0 = BitVec.extractLsb' (8 * i) 8 w := by
  rw [getD_leBytes 8 _ _ h, BitVec.extractLsb', Nat.shiftRight_eq_div_pow, Nat.pow_mul]

theorem State.begun_eq {s : State} (h : StateInv s) : s.begun = s := by
  rw [State.begun, ← h.2]

theorem State.commit_fields {s : State} (h : s.wlog = []) (l : List Host.Cell) (p : List Nat) (c : Nat) (m : List Nat) :
    s.commit { s with wlog := l, poison := p, cplTail := c, msix := m } =
      { s with mem := Mem.apply s.mem l, poison := p, cplTail := c, msix := m } := by
  cases s
  cases h
  rfl

/-- The state after a completion entry that has its place: all that changes is memory, the tail and the messages. -/
theorem State.commit_pushCpl {s : State} (h : StateInv s) (hr : (s.cplTail + 2 ^ 16 - s.cplHead) % 2 ^ 16 < 2 ^ s.cplSize) (w0 w1 : Word)
    (vec : Nat) : s.commit (s.pushCpl w0 w1 vec) = { s with
      mem := (s.commit (s.pushCpl w0 w1 vec)).mem, poison := (s.commit (s.pushCpl w0 w1 vec)).poison
      cplTail := (s.cplTail + 1) % 2 ^ 16, msix := s.msix ++ [vec] } := by
  have hp := s.pokes_frame (hostPa (s.cplBase.toNat + 16 * (s.cplTail % 2 ^ s.cplSize))) (leBytes 8 w0.toNat ++ leBytes 8 w1.toNat)
  rw [State.pushCpl_room hr]
  generalize s.pokes _ _ = u at hp ⊢
  generalize u.wlog = l, u.poison = p at hp
  subst hp
  exact State.commit_fields h.2 l p _ _

/-- The bytes of a completion entry that has its place. -/
theorem State.byte_pushCpl {s : State} (hr : (s.cplTail + 2 ^ 16 - s.cplHead) % 2 ^ 16 < 2 ^ s.cplSize) (w0 w1 : Word) (vec x : Nat) :
    (s.pushCpl w0 w1 vec).byte x =
      (s.pokes (hostPa (s.cplBase.toNat + 16 * (s.cplTail % 2 ^ s.cplSize))) (leBytes 8 w0.toNat ++ leBytes 8 w1.toNat)).byte x := by
  rw [State.pushCpl_room hr]
  simp only [State.byte]

theorem State.pushCpl_mem (s : State) (w0 w1 : Word) (vec : Nat) : (s.pushCpl w0 w1 vec).mem = s.mem := by
  rw [State.pushCpl_frame]

/-- A command of the 29: with its masks, whatever the entry. -/
def CommandForm (s : State) (x : Instr × List Nat) : Prop := ∃ f, exec x.1 s = onCommand s x.2 f

/-- A command that names a paddock. -/
def PaddockForm (s : State) (x : Instr × List Nat) : Prop := ∃ f, exec x.1 s = onPaddock s x.2 f

theorem PaddockForm.command {s : State} {x : Instr × List Nat} (h : PaddockForm s x) : CommandForm s x := h.imp' _ fun _ e => e

/-- Settles O54: each command is of its form, and a completion entry stands at the tail's place. -/
theorem commandForms : Obligations.CommandForms := by
  intro s e h a n bad anyone owned
  have hany : ∀ x ∈ anyone, CommandForm s x := by
    simp only [anyone, List.forall_mem_cons]
    exact ⟨⟨_, rfl⟩, ⟨_, rfl⟩, ⟨_, rfl⟩, fun _ hx => nomatch hx⟩
  have hown : ∀ x ∈ owned, PaddockForm s x := by
    simp only [owned, List.forall_mem_cons]
    exact ⟨⟨_, rfl⟩, ⟨_, rfl⟩, ⟨_, rfl⟩, ⟨_, rfl⟩, ⟨_, rfl⟩, ⟨_, rfl⟩, ⟨_, rfl⟩, ⟨_, rfl⟩, ⟨_, rfl⟩, ⟨_, rfl⟩, ⟨_, rfl⟩, ⟨_, rfl⟩, ⟨_, rfl⟩,
      ⟨_, rfl⟩, ⟨_, rfl⟩, ⟨_, rfl⟩, ⟨_, rfl⟩, ⟨_, rfl⟩, ⟨_, rfl⟩, ⟨_, rfl⟩, ⟨_, rfl⟩, ⟨_, rfl⟩, ⟨_, rfl⟩, ⟨_, rfl⟩, ⟨_, rfl⟩, ⟨_, rfl⟩,
      fun _ hx => nomatch hx⟩
  refine ⟨fun x hx hf => ?_, fun x hx hp => ?_, fun tag code status r hi hr => ?_⟩
  · obtain ⟨f, hfx⟩ := (List.mem_append.1 hx).elim (hany x) fun ho => (hown x ho).command
    rw [hfx]
    exact onCommand_bad h hf f
  · obtain ⟨f, hfx⟩ := hown x hx
    rw [hfx]
    exact onPaddock_none h hp f
  · intro t at_ w0
    have hb (x : Nat) : t.byte x = (s.pokes at_ (leBytes 8 w0.toNat ++ leBytes 8 r.toNat)).byte x := by
      refine (State.byte_commit hi.1 (State.pushCpl_mem s.begun w0 r 0) x).trans ?_
      rw [State.begun_eq hi]
      exact State.byte_pushCpl hr w0 r 0 x
    have hlen : (leBytes 8 w0.toNat ++ leBytes 8 r.toNat).length = 16 := by
      rw [List.length_append, length_leBytes, length_leBytes]
    refine ⟨?_, fun x hx => ?_, fun i hlt => ⟨?_, ?_⟩⟩
    · have := State.commit_pushCpl hi hr w0 r 0
      simp only [t, State.begun_eq hi]
      exact this
    · rw [hb, State.byte_pokes, hlen, if_neg]
      omega
    · rw [hb, State.byte_pokes, hlen, if_pos (by omega), Nat.add_sub_cancel_left,
        List.getD_append _ _ _ _ (by rwa [length_leBytes]), getD_leBytes_word w0 hlt]
    · rw [hb, State.byte_pokes, hlen, if_pos (by omega), Nat.add_assoc, Nat.add_sub_cancel_left,
        List.getD_append_right _ _ _ _ (by rw [length_leBytes]; exact Nat.le_add_right 8 i), length_leBytes, Nat.add_sub_cancel_left,
        getD_leBytes_word r hlt]

end Sys2Proof.Machine
end

section

-- One proof at a time: the whole text then stays within the memory of a check.
set_option Elab.async false

/-! The effects of the host commands: the proofs of O55 and O56. -/

namespace Sys2Proof.Machine

/-! Paddocks, queues and counters. -/

theorem find?_range_first {p : Nat → Bool} {i n : Nat} (h : i < n) (hp : p i = true) (hj : ∀ j : Nat, j < i → p j = false) :
    (List.range n).find? p = some i :=
  List.find?_range_eq_some.2 ⟨hp, List.mem_range.2 h, fun j hji => by rw [hj j hji]; rfl⟩

theorem State.destroyPaddock_leaves (s : State) (p : Nat) {d : State} (hd : d = s.destroyPaddock p) :
    d.paddock? p = none ∧ (∀ x ∈ d.queues, x.paddock ≠ p) ∧ (∀ x ∈ d.charges, x.paddock ≠ p) ∧ ∀ x ∈ d.folds, x.paddock ≠ p := by
  rw [State.destroyPaddock] at hd
  generalize State.reap _ = u at hd
  subst hd
  refine ⟨List.find?_eq_none.2 fun x hx => ?_, fun x hx => ?_, fun x hx => ?_, fun x hx => ?_⟩
  · rw [beq_iff_eq]
    exact bne_iff_ne.1 (List.mem_filter.1 hx).2
  · exact bne_iff_ne.1 (List.mem_filter.1 hx).2
  · exact bne_iff_ne.1 (List.mem_filter.1 hx).2
  · exact bne_iff_ne.1 (List.mem_filter.1 hx).2

theorem Paddock.counter_setCounter (p : Paddock) (c c' : Nat) (v : Word) :
    (p.setCounter c v).counter c' = if c' = c then v else p.counter c' := by
  have hrest (h : c' ≠ c) : (p.counters.filter fun x => x.1 != c).find? (fun x => x.1 == c') = p.counters.find? fun x => x.1 == c' := by
    rw [List.find?_filter]
    refine congrArg (fun q => List.find? q p.counters) (funext fun x => ?_)
    cases hx : x.1 == c' with
    | false => simp
    | true => simp [beq_iff_eq.1 hx, h]
  have hgone : (p.counters.filter fun x => x.1 != c).find? (fun x => x.1 == c) = none := by
    refine List.find?_eq_none.2 fun x hx => ?_
    rw [beq_iff_eq]
    exact bne_iff_ne.1 (List.mem_filter.1 hx).2
  have hset : (p.setCounter c v).counters = if v = 0 then p.counters.filter fun x => x.1 != c else
      (p.counters.filter fun x => x.1 != c) ++ [(c, v)] := rfl
  have hadd (l : List (Nat × Word)) : (l ++ [(c, v)]).find? (fun x => x.1 == c') =
      (l.find? fun x => x.1 == c').or (if c == c' then some (c, v) else none) := by
    rw [List.find?_append, List.find?_singleton]
  rw [Paddock.counter, hset]
  by_cases h : c' = c
  · rw [if_pos h, h]
    by_cases hv : v = 0
    · rw [if_pos hv, hgone, hv]
      rfl
    · rw [h] at hadd
      rw [if_neg hv, hadd, hgone, beq_self_eq_true]
      rfl
  · rw [if_neg h]
    by_cases hv : v = 0
    · rw [if_pos hv, hrest h]
      rfl
    · rw [if_neg hv, hadd, hrest h, beq_false_of_ne (Ne.symm h), if_neg Bool.false_ne_true, Option.or_none]
      rfl

/-- Settles O55: each command with its bits and parameters in order comes to its effect. -/
theorem paddockCommands : Obligations.PaddockCommands := by
  intro s e h b ends
  refine ⟨fun hf hc => ⟨fun i hi hn hj => onCommand_ok h hf ?_, fun hn => onCommand_ok h hf ?_⟩, fun hf => onCommand_ok h hf rfl,
    fun hf hl hu => onCommand_ok h hf (if_neg ?_), fun p hp => ?_⟩
  · have hx : ((List.range 16).find? fun i => (b.paddock? i).isNone) = some i := by
      refine find?_range_first hi (Option.isNone_iff_eq_none.2 hn) fun j hji => ?_
      exact Option.isNone_eq_false_iff.2 (Option.isSome_iff_ne_none.2 (hj j hji))
    simp only [hc, Bool.not_true, Bool.false_eq_true, if_false]
    rw [hx]
    rfl
  · have hx : ((List.range 16).find? fun i => (b.paddock? i).isNone) = none := by
      refine List.find?_eq_none.2 fun j hj => ?_
      rw [Option.isNone_iff_eq_none]
      exact hn j (List.mem_range.1 hj)
    simp only [hc, Bool.not_true, Bool.false_eq_true, if_false]
    rw [hx]
  · rw [Bool.or_eq_true, decide_eq_true_eq, decide_eq_true_eq]
    omega
  · intro q n
    refine ⟨fun hf => onPaddock_ok h hf hp rfl, fun hf => onPaddock_ok h hf hp rfl, fun d hd => b.destroyPaddock_leaves p.index hd,
      fun hf => onPaddock_ok h hf hp rfl, fun hf => onPaddock_ok h hf hp rfl, fun hf => onPaddock_ok h hf hp rfl,
      fun hf => onPaddock_ok h hf hp rfl, fun c c' v => p.counter_setCounter c c' v, fun hf ha hl hu => ?_, fun x hf hx hq ho => ?_,
      fun hf ha => ⟨fun hz => onPaddock_ok h hf hp ?_, fun hb => onPaddock_ok h hf hp ?_⟩,
      fun hf => ⟨fun hi hm => onPaddock_ok h hf hp (if_neg ?_), fun hb => onPaddock_ok h hf hp (if_pos ?_)⟩,
      fun hf hi => onPaddock_ok h hf hp (if_neg (Nat.not_le.2 hi))⟩
    · intro x
      have hc (u : Bool) : (e.w2.toNat % 64 != 0 || decide (e.w3.toNat < 64) || decide (65536 < e.w3.toNat) || u) = u := by
        rw [ha, decide_eq_false (Nat.not_lt.2 hl), decide_eq_false (Nat.not_lt.2 hu)]
        rfl
      refine ⟨fun hq => onPaddock_ok h hf hp (if_neg ?_), fun hq => onPaddock_ok h hf hp (if_pos ?_)⟩
      · rw [hc, show b.queue? q = none from hq]
        exact Bool.false_ne_true
      · rw [hc]
        exact Option.isSome_iff_ne_none.2 hq
    · intro late
      have ht (abort : Bool) : b.teardown e p abort = late (if abort then (b.closeQueue q).abortQueue q else b.closeQueue q) := by
        rw [State.teardown, show b.queue? (fld e.w1.toNat 0 8) = some x from hx]
        simp only [hq, bne_self_eq_false, ho, Bool.false_eq_true, if_false]
        rfl
      exact ⟨onPaddock_ok h hf hp (ht false), onPaddock_ok h hf hp (ht true)⟩
    · have hbit : e.w3.getLsbD 4 = false := by
        rw [hz]
        rfl
      have hfld : fld e.w3.toNat 8 4 = 0 := by
        rw [hz]
        rfl
      simp only [ha, hbit, hfld, bne_self_eq_false, Bool.and_false, Bool.or_self, Bool.false_eq_true, if_false]
      rfl
    · simp only [ha, hb, bne_self_eq_false, Bool.not_true, Bool.false_and, Bool.or_self, Bool.false_eq_true, if_false, if_true]
      rfl
    · rw [hm, decide_eq_false (Nat.not_le.2 hi)]
      exact Bool.false_ne_true
    · rw [Bool.or_eq_true, decide_eq_true_eq, Bool.not_eq_true']
      exact hb

/-- The holder of a stop's record is of the kiln's paddock. -/
theorem State.holderPaddock_stop {s : State} {k : Kiln} {c : StopCause} {p : Nat} (h : k.paddock = p) :
    ((s.holderPaddock (.stop k c)).any fun x => x != p) = false := by
  show (k.paddock != p) = false
  rw [h, bne_self_eq_false]

theorem toNat_beq_zero (w : Word) : (w.toNat == 0) = decide (w = 0) := by
  rw [Bool.eq_iff_iff, beq_iff_eq, decide_eq_true_eq, BitVec.toNat_eq]
  rfl

/-- A snapshot that begins: its deadline is 50 us away where the command names none (R58). -/
theorem execSnapshot_begins {s : State} {e : Rec8} {p : Paddock} {k : Kiln} (h : s.cursor = .command e)
    (hf : formOk e [lowBits 32, lowBits 24, lowBits 48] = true) (hp : s.paddock? (cmdPaddock e) = some p)
    (hk : s.begun.kiln? e.w1.toNat = some k) (hkp : k.paddock = p.index) (hus : e.w2.toNat ≤ 10000) (ha : e.w3.toNat % 4096 = 0)
    (hs : k.snap = none) (hv : (s.begun.vaWrite p .outside e.w3.toNat (List.replicate 4096 0)).1 = .ok ()) :
    execSnapshot s = .next (s.commit (s.begun.snapBegin k
      ⟨cmdTag e, e.w3.toNat, s.now + (if e.w2 = 0 then 50 else e.w2.toNat) * 504000, [], [], [], [], []⟩)) := by
  refine onPaddock_ok h hf hp ?_
  cases hw : s.begun.vaWrite p .outside e.w3.toNat (List.replicate 4096 0) with
  | mk r u =>
    rw [hw] at hv
    cases hv
    simp only [hk, hkp, bne_self_eq_false, ha, hs, decide_eq_false (Nat.not_lt.2 hus), Option.isSome_none, Bool.or_self, Bool.false_eq_true,
      if_false, toNat_beq_zero, decide_eq_true_eq]
    rfl

/-- Settles O56: each command with its bits and parameters in order comes to its effect. -/
theorem serviceCommands : Obligations.ServiceCommands := by
  intro s e p h hp
  dsimp only
  refine ⟨fun hf => ⟨fun ho hr => onPaddock_ok h hf hp ?_, fun o ho => onPaddock_ok h hf hp ?_, onPaddock_ok h hf hp rfl⟩,
    fun hf bs w t u hr hw hu => onPaddock_ok h hf hp ?_,
    fun hf => ⟨fun v t ht => onPaddock_ok h hf hp ?_, fun u t ht => onPaddock_ok h hf hp ?_⟩,
    fun hf v t ht => onPaddock_ok h hf hp ?_, fun hf k hk hkp hus ha hs hv => execSnapshot_begins h hf hp hk hkp hus ha hs hv,
    fun hf bs t r kid time hr hs hc => onPaddock_ok h hf hp ?_,
    fun hf ha => ⟨onPaddock_ok h hf hp (if_neg ?_), onPaddock_ok h hf hp (if_neg ?_)⟩, fun hf => onPaddock_ok h hf hp ?_,
    fun hf ha hl hu => onPaddock_ok h hf hp (if_neg ?_),
    fun hf => ⟨fun hn => ⟨onPaddock_ok h hf hp ?_, onPaddock_ok h hf hp ?_⟩, fun o k c hn hh hk => ⟨fun hr => onPaddock_ok h hf hp ?_,
      fun hr => onPaddock_ok h hf hp ?_, onPaddock_ok h hf hp ?_⟩⟩⟩
  · simp only [ho, hr]
    rfl
  · simp only [ho, State.refuse, beq_iff_eq]
  · simp only [hr, Eng.next, hw, hu, State.cmdAnswer]
  · simp only [ht, State.cmdAnswer]
  · simp only [ht, State.cmdAnswer]
  · simp only [ht, State.cmdAnswer]
  · have hb : ((s.begun.charge? (recCharge r)).any fun c => c.paddock == p.index) = true := hc
    simp only [hr, hs, hb, if_true]
  · simp only [ha, bne_self_eq_false, Bool.false_eq_true, not_false_eq_true]
  · simp only [ha, bne_self_eq_false, Bool.false_eq_true, not_false_eq_true]
  · simp only [← Nat.not_le, ite_not]
  · rw [ha, decide_eq_false (Nat.not_lt.2 hu), beq_false_of_ne (Nat.ne_of_gt hl)]
    exact Bool.false_ne_true
  · simp only [State.faultResume, hn]
  · simp only [State.faultRetire, hn]
  · simp only [State.faultResume, hn, hh, State.holderPaddock_stop hk, Bool.false_eq_true, if_false, hr, if_true]
  · simp only [State.faultResume, hn, hh, State.holderPaddock_stop hk, Bool.false_eq_true, if_false, hr]
  · simp only [State.faultRetire, hn, hh, State.holderPaddock_stop hk, Bool.false_eq_true, if_false, State.holderKiln]

end Sys2Proof.Machine
end

section

-- One proof at a time: the whole text then stays within the memory of a check.
set_option Elab.async false

/-! Where stores land: scratchpad stores and loads as they perform, global writes at their owners, and writes of engines: the proof
of O60. -/

namespace Sys2Proof.Machine

/-! Bytes. -/

/-- A byte depends on memory and the step's own stores alone. -/
theorem State.byte_congr {s t : State} (hm : s.mem = t.mem) (hw : s.wlog = t.wlog) (x : Nat) : s.byte x = t.byte x := by
  simp only [State.byte, hm, hw]

theorem State.pokeAt_mem (s : State) (l : List (Nat × Byte)) : (s.pokeAt l).mem = s.mem := by
  rw [State.pokeAt_frame]

/-- Stores at listed addresses leave every other byte. -/
theorem State.byte_pokeAt_ne : ∀ (pas : List Nat) (bs : List Byte) (s : State) {x : Nat}, x ∉ pas → (s.pokeAt (pas.zip bs)).byte x = s.byte x
  | [], _, _, _, _ => rfl
  | _ :: _, [], _, _, _ => rfl
  | a :: pas, b :: bs, s, x, h => by
    obtain ⟨ha, hr⟩ := not_or.1 (mt List.mem_cons.2 h)
    rw [List.zip_cons_cons, State.pokeAt, State.byte_pokeAt_ne pas bs _ hr, State.byte_poke, if_neg ha]

/-- Stores at distinct addresses are read back. -/
theorem State.byte_pokeAt_get : ∀ (pas : List Nat) (bs : List Byte) (s : State), pas.length = bs.length → pas.Nodup →
    ∀ (i pa : Nat), pas[i]? = some pa → (s.pokeAt (pas.zip bs)).byte pa = bs.getD i 0
  | [], _, _, _, _, _, _, h => nomatch h
  | _ :: _, [], _, hl, _, _, _, _ => nomatch hl
  | a :: pas, b :: bs, s, hl, hd, i, pa, h => by
    obtain ⟨ha, hn⟩ := List.nodup_cons.1 hd
    rw [List.zip_cons_cons, State.pokeAt]
    match i with
    | 0 =>
      obtain rfl : a = pa := Option.some.inj h
      rw [State.byte_pokeAt_ne pas bs _ ha, State.byte_poke, if_pos rfl]
      rfl
    | i + 1 => exact State.byte_pokeAt_get pas bs _ (Nat.succ.inj hl) hn i pa h

section
variable (s : State) (ls : List Loc) (bs : List Byte)

theorem State.byte_locWrite_ne {x : Nat} (h : ∀ l ∈ ls, l.pa ≠ x) : (s.locWrite ls bs).byte x = s.byte x := by
  refine State.byte_pokeAt_ne (ls.map Loc.pa) bs s fun hx => ?_
  obtain ⟨l, hl, he⟩ := List.mem_map.1 hx
  exact h l hl he

theorem State.byte_locWrite_get (hl : ls.length = bs.length) (hd : (ls.map Loc.pa).Nodup) {i : Nat} {l : Loc} (h : ls[i]? = some l) :
    (s.locWrite ls bs).byte l.pa = bs.getD i 0 := by
  refine State.byte_pokeAt_get (ls.map Loc.pa) bs s (by rw [List.length_map, hl]) hd i l.pa ?_
  rw [List.getElem?_map, h]
  rfl

theorem State.locWrite_mem : (s.locWrite ls bs).mem = s.mem := s.pokeAt_mem _

end

/-- An event that is due. -/
theorem State.happen_due {s : State} {due : Bool} (h : due = true) (f : State → State) : s.happen due f = .next (s.commit (f s.begun)) := by
  rw [State.happen, if_pos h]
  rfl

/-! The instruction that the cursor names. -/

theorem State.where?_kiln {s : State} {k t task slot : Nat} {w : Where} (h : s.where? k t task slot = some w) : s.kiln? k = some w.k := by
  rw [State.where?] at h
  cases hk : s.kiln? k with
  | none => simp only [hk, reduceCtorEq] at h
  | some kl =>
    cases ht : kl.tile? t with
    | none => simp only [hk, ht, reduceCtorEq] at h
    | some tl =>
      cases hx : tl.exec? task with
      | none => simp only [hk, ht, hx, reduceCtorEq] at h
      | some x =>
        simp only [hk, ht, hx, Option.map_eq_some_iff] at h
        obtain ⟨p, _, rfl⟩ := h
        rfl

theorem State.kiln?_self {s : State} {k : Nat} {kl : Kiln} (h : s.kiln? k = some kl) : s.kiln? kl.id = some kl := by
  have hk := List.find?_some h
  rwa [beq_iff_eq.1 hk]

theorem State.curWhere_kiln {s : State} {w : Where} (h : s.curWhere = some w) : s.kiln? w.k.id = some w.k := by
  rw [State.curWhere] at h
  split at h
  · exact State.kiln?_self (State.where?_kiln h)
  · exact nomatch h

/-! Scratchpad accesses of a unit that the kiln owns. -/

section
variable {s : State} {kl : Kiln} {t ea : Nat} (hk : s.kiln? kl.id = some kl) (ho : s.owns kl t 0 ea = true)
include hk ho

theorem State.ensure_owned : s.ensure kl.id t 0 ea = s := by
  simp only [State.ensure, hk, ho, if_true]

theorem State.ocRead_owned (n : Nat) : s.ocRead kl.id t 0 ea n = (s.bytes (kl.pa t 0 ea) n, s) := by
  simp only [State.ocRead, State.ensure_owned hk ho, hk]

theorem State.ocWrite_owned (bs : List Byte) : s.ocWrite kl.id t 0 ea bs = { s.pokes (kl.pa t 0 ea) bs with
    units := updateWhere (fun u => u.pa == kl.pa t 0 (ea / 4096 * 4096)) (fun u => { u with dirty := true })
      (s.pokes (kl.pa t 0 ea) bs).units } := by
  simp only [State.ocWrite, State.ensure_owned hk ho, hk]

end

theorem State.pokes_mem (s : State) (a : Nat) (bs : List Byte) : (s.pokes a bs).mem = s.mem := by
  rw [State.pokes_frame]

/-- An aligned element lies in one granule. -/
theorem granulesOf_aligned {ea n : Nat} (hn : n ∈ [1, 2, 4, 8]) (ha : ea % n = 0) : granulesOf [ea] n = [ea / 16] := by
  have h : (ea + n - 1) / 16 = ea / 16 := by
    simp only [List.mem_cons, List.not_mem_nil, or_false] at hn
    obtain rfl | rfl | rfl | rfl := hn <;> omega
  show [ea / 16, (ea + n - 1) / 16].eraseDups = [ea / 16]
  rw [h]
  simp [List.eraseDups_cons]

theorem granule_unit (ea : Nat) : 16 * (ea / 16) / 4096 * 4096 = ea / 4096 * 4096 := by omega

/-- Of a granule in a unit that the kiln owns nothing is poisoned where nothing of the machine is. -/
theorem State.scratchPoison_owned {s : State} {w : Where} {ea : Nat} (hk : s.kiln? w.k.id = some w.k)
    (ho : s.owns w.k w.t.id 0 ea = true) (hp : s.poison = []) : s.scratchPoison w [ea / 16] = none := by
  have hg : s.owns w.k w.t.id 0 (16 * (ea / 16)) = true := by
    rw [State.owns, granule_unit]
    exact ho
  simp only [State.scratchPoison, List.foldl_cons, List.foldl_nil, State.ensure_owned hk hg, List.map_cons, List.map_nil, State.poisoned, hp,
    List.any_nil, List.find?_cons, List.find?_nil]

section
variable {s : State} {w : Where} {ea : Nat} {fs : BitVec 2} {deps : List Nat} {at_ : Nat}

/-- A scratchpad access that performs. -/
theorem State.waitSatisfied_scratch {op : ScratchOp} (hi : StateInv s) (hw : s.curWhere = some w) (hl : s.tileLive w.k w.t = true)
    (hp : w.p.work = .scratch [ea] op fs deps at_) (hr : s.workReady w = true) :
    exec .waitSatisfied s = .next (s.commit (s.scratchDo w [ea] op fs deps)) := by
  show execWaitSatisfied s = _
  have ha : (s.actsNow w && s.workReady w) = true := by
    rw [hr, Bool.and_true, State.actsNow, hp]
    exact hl
  rw [execWaitSatisfied, hw]
  dsimp only
  rw [State.happen_due ha, State.begun_eq hi, State.workDo, hp]

/-- A store that performs leaves the step's stores and memory as its write of on-chip bytes does. -/
theorem State.scratchDo_store (s : State) (w : Where) (ea : Nat) (fs : BitVec 2) (deps : List Nat) (bs : List Byte) :
    (s.scratchDo w [ea] (.store bs) fs deps).mem = (s.ocWrite w.k.id w.t.id 0 ea bs).mem ∧
      (s.scratchDo w [ea] (.store bs) fs deps).wlog = (s.ocWrite w.k.id w.t.id 0 ea bs).wlog := by
  simp only [State.scratchDo, List.headD_cons]
  generalize s.ocWrite w.k.id w.t.id 0 ea bs = u
  exact ⟨rfl, rfl⟩

/-- The bytes of a store that performs. -/
theorem State.byte_scratchDo_store {bs : List Byte} (hk : s.kiln? w.k.id = some w.k) (ho : s.owns w.k w.t.id 0 ea = true) (x : Nat) :
    (s.scratchDo w [ea] (.store bs) fs deps).byte x = (s.pokes (w.k.pa w.t.id 0 ea) bs).byte x := by
  obtain ⟨hm, hw⟩ := s.scratchDo_store w ea fs deps bs
  rw [State.byte_congr hm hw, State.ocWrite_owned hk ho]
  exact State.byte_congr rfl rfl x

theorem State.scratchDo_store_mem {bs : List Byte} (hk : s.kiln? w.k.id = some w.k) (ho : s.owns w.k w.t.id 0 ea = true) :
    (s.scratchDo w [ea] (.store bs) fs deps).mem = s.mem := by
  rw [(s.scratchDo_store w ea fs deps bs).1, State.ocWrite_owned hk ho]
  exact State.pokes_mem _ _ _

end

/-! Accesses at their owners. -/

theorem State.reply_mem_wlog (s : State) (a : Acc) (v : Option Tok) : (s.reply a v).mem = s.mem ∧ (s.reply a v).wlog = s.wlog := by
  rw [State.reply]
  split
  · dsimp only
    split <;> exact ⟨rfl, rfl⟩
  · split
    · exact ⟨rfl, rfl⟩
    · dsimp only
      split <;> exact ⟨rfl, rfl⟩

theorem State.byte_countFrame (s : State) (die shelf : Nat) (ls : List Loc) (x : Nat) : (s.countFrame die shelf ls).byte x = s.byte x :=
  State.byte_congr rfl rfl x

/-- A write at its owner: its bytes, whatever else the answer changes. -/
theorem State.performAt_write (s : State) {a : Acc} {bs : List Byte} (ha : a.req.op = .write bs) (ls : List Loc) :
    (s.performAt a ls).mem = s.mem ∧ ∀ x : Nat, (s.performAt a ls).byte x = ((s.countFrame a.die a.shelf ls).locWrite ls bs).byte x := by
  have h : s.performAt a ls = ((s.countFrame a.die a.shelf ls).locWrite ls bs).reply a none := by
    simp only [State.performAt, ha, GlobalOp.bytes]
  obtain ⟨hm, hw⟩ := ((s.countFrame a.die a.shelf ls).locWrite ls bs).reply_mem_wlog a none
  rw [h]
  exact ⟨hm.trans (State.locWrite_mem _ ls bs), State.byte_congr hm hw⟩

/-- Settles O60: scratchpad accesses in a unit that the kiln owns, writes at their owners, and writes of engines. -/
theorem storesLand : Obligations.StoresLand := by
  refine ⟨fun s w ea bs fs deps at_ hi hw hl hp hr ho => ?_, fun s w ea n sx deps at_ hi hn ha hw hl hp hr ho hpo => ?_,
    fun s a ls bs hi hc hf hr hst hop hlen hd hdown => ?_, fun s u g va ls bs hx hlen hd => ?_⟩
  · have hk := State.curWhere_kiln hw
    refine ⟨_, State.waitSatisfied_scratch hi hw hl hp hr, fun x => ?_⟩
    rw [State.byte_commit hi.1 (State.scratchDo_store_mem hk ho), State.byte_scratchDo_store hk ho, State.byte_pokes]
  · have hk := State.curWhere_kiln hw
    intro v
    rw [State.waitSatisfied_scratch hi hw hl hp hr, State.begun_eq hi]
    simp only [State.scratchDo, ScratchOp.size, granulesOf_aligned hn ha, State.scratchPoison_owned hk ho hpo, List.headD_cons,
      State.ocRead_owned hk ho]
    rfl
  · have hdo : exec .accessResponse s = .next (s.commit (s.performAt a ls)) := by
      show execAccessResponse s = _
      rw [execAccessResponse, hc]
      dsimp only
      rw [hf]
      dsimp only
      rw [State.happen_due hr, State.begun_eq hi, State.accDo, hst]
      dsimp only
      rw [State.answered, hdown]
    obtain ⟨hm, hb⟩ := s.performAt_write hop ls
    have hby (x : Nat) : (s.commit (s.performAt a ls)).byte x = _ := (State.byte_commit hi.1 hm x).trans (hb x)
    exact ⟨_, hdo, fun i l h => (hby l.pa).trans (State.byte_locWrite_get _ ls bs hlen hd h),
      fun x h => ((hby x).trans (State.byte_locWrite_ne _ ls bs h)).trans (s.byte_countFrame _ _ _ x)⟩
  · exact ⟨u.locWrite ls bs, by rw [State.engWrite, hx]; rfl, fun i l h => State.byte_locWrite_get u ls bs hlen hd h,
      fun x h => State.byte_locWrite_ne u ls bs h⟩

end Sys2Proof.Machine
end

section

-- One proof at a time: the whole text then stays within the memory of a check.
set_option Elab.async false

/-! Lane computations on records, on non-records and on records of the wrong DOMAIN: the proofs of O27, O28 and O30 to O32. -/

namespace Sys2Proof.Machine

/-! The DOMAIN rule and non-records, position by position. -/

section
variable {c : Ctx} {want : Bool} {ps : List Pos}

theorem Ctx.badDomain_none (h : ∀ q ∈ ps, ∀ d : DTok, c.at q = some (.data d) → d.isRecord = true → d.domain = want) :
    c.badDomain want ps = none := by
  refine List.findSome?_eq_none_iff.2 fun q hq => ?_
  split
  next d hd =>
    cases hr : d.isRecord with
    | false => rfl
    | true => rw [h q hq d hd hr, bne_self_eq_false]; rfl
  next => rfl

theorem Ctx.nonRecord_none (h : ∀ q ∈ ps, ∀ d : DTok, c.at q = some (.data d) → d.isRecord = true) : c.nonRecord ps = none := by
  refine List.findSome?_eq_none_iff.2 fun q hq => ?_
  split
  next d hd => rw [h q hq d hd, if_pos rfl]
  next => rfl

/-- The first position that holds a record of the wrong DOMAIN stops the kiln. -/
theorem Ctx.badDomain_cons {q : Pos} {d : DTok} (hd : c.at q = some (.data d)) (hr : d.isRecord = true) (hw : d.domain = !want) :
    c.badDomain want (q :: ps) = some (c.stop 0x38 (c.slot + q.code * 2 ^ 8) d.side) := by
  have hb : (d.domain != want) = true := by
    rw [hw]
    cases want <;> rfl
  simp only [Ctx.badDomain, List.findSome?_cons, hd, hr, hb, Bool.and_self, if_true]

theorem Ctx.badDomain_skip {q : Pos} (h : ∀ d : DTok, c.at q = some (.data d) → d.isRecord = true → d.domain = want) :
    c.badDomain want (q :: ps) = c.badDomain want ps := by
  have hq := Ctx.badDomain_none (c := c) (want := want) (ps := [q]) fun r hr d hd => h d (List.mem_singleton.1 hr ▸ hd)
  rw [Ctx.badDomain, List.findSome?_cons] at hq ⊢
  split at hq
  next => exact nomatch hq
  next => rfl

theorem Ctx.nonRecord_cons {q : Pos} {d : DTok} (hd : c.at q = some (.data d)) (hr : d.isRecord = false) : c.nonRecord (q :: ps) = some d := by
  simp only [Ctx.nonRecord, List.findSome?_cons, hd, hr, Bool.false_eq_true, if_false]

theorem Ctx.nonRecord_skip {q : Pos} (h : ∀ d : DTok, c.at q = some (.data d) → d.isRecord = true) :
    c.nonRecord (q :: ps) = c.nonRecord ps := by
  have hq := Ctx.nonRecord_none (c := c) (ps := [q]) fun r hr d hd => h d (List.mem_singleton.1 hr ▸ hd)
  rw [Ctx.nonRecord, List.findSome?_cons] at hq ⊢
  split at hq
  next => exact nomatch hq
  next => rfl

/-- What the DOMAIN rule answers is a stop. -/
theorem Ctx.cause_badDomain {i : Issue} (h : c.badDomain want ps = some i) : i.cause.isNone = false := by
  obtain ⟨q, _, hq⟩ := List.exists_of_findSome?_eq_some h
  split at hq
  next d _ =>
    split at hq
    · cases hq
      rfl
    · exact nomatch hq
  next => exact nomatch hq

end

theorem Ctx.Records.mono {c : Ctx} {dom : Bool} {ps qs : List Pos} (h : c.Records dom ps) (hs : qs ⊆ ps) : c.Records dom qs :=
  fun q hq => h q (hs hq)

section
variable {c : Ctx} {dom : Bool} {ps : List Pos} (h : c.Records dom ps)
include h

theorem Ctx.Records.badDomain : c.badDomain dom ps = none := Ctx.badDomain_none fun q hq d hd _ => (h q hq d hd).2

theorem Ctx.Records.nonRecord : c.nonRecord ps = none := Ctx.nonRecord_none fun q hq d hd => (h q hq d hd).1

theorem Ctx.Records.lanesOf (lat : Nat) (ta tb : Target) (r : Payload × Fl) : c.lanesOf dom lat ta tb ps r = c.lanesOut lat ta tb dom r := by
  rw [Ctx.lanesOf, h.badDomain, h.nonRecord]
  rfl

end

/-! Lane computations on records. -/

section
variable {s : State} {c : Ctx} {p : Pred} {ta tb : Target} {ps : List Pos} (h : s.Acts c p) (hr : c.Records false ps)
include h hr

theorem onTile_lanesDone {lat : Nat} {f : Ctx → Payload × Fl} {r : Payload × Fl} (e : f c = r) :
    onTile s true p ta tb (fun c => c.lanesOf false lat ta tb ps (f c)) = .next (s.lanesDone c lat ta tb r) :=
  onTile_issues h ((hr.lanesOf lat ta tb _).trans (by rw [e]))

/-- A lane computation that draws. -/
theorem onTile_lanesDrawn {lat : Nat} {f : Ctx → Payload × Fl} {n : Ctx → Nat} {m : Nat} {r : Payload × Fl} (e : f c = r) (en : n c = m) :
    onTile s true p ta tb (fun c =>
      let i := c.lanesOf false lat ta tb ps (f c)
      if i.cause.isNone && (c.nonRecord ps).isNone then { i with tsk := c.drawn (n c) } else i) =
      .next (s.lanesDrawn c lat ta tb m r) := by
  refine onTile_issues h ?_
  dsimp only
  rw [hr.lanesOf, hr.nonRecord, e, en]
  rfl

end

/-- Settles O27: each is its lane function on records of DOMAIN 0. -/
theorem integerLanes : Obligations.IntegerLanes := by
  intro s c p fs ta tb sh h hr f w A B C I wrap
  have ha : c.Records false [.a] := hr.mono (by decide)
  have hab : c.Records false [.a, .b] := hr.mono (by decide)
  refine ⟨onTile_lanesDone h hab rfl, onTile_lanesDone h hab rfl, onTile_lanesDone h hab rfl, onTile_lanesDone h hr rfl,
    onTile_lanesDone h hab rfl, onTile_lanesDone h hab rfl, onTile_lanesDone h ha rfl, onTile_lanesDone h ha rfl,
    onTile_lanesDone h hab rfl, onTile_lanesDone h hab rfl, onTile_lanesDone h hab rfl, onTile_lanesDone h hab rfl,
    onTile_lanesDone h hab rfl, fun hb => ?_, fun hb => ?_⟩
  · obtain ⟨y, hy⟩ := Option.ne_none_iff_exists'.1 hb
    have hs (g : Nat → Nat → Nat) : c.shiftOp w sh g = map2 w A B fun a b => noFl (g a (b % w)) := by rw [Ctx.shiftOp, hy]
    exact ⟨onTile_lanesDone h hab (hs _), onTile_lanesDone h hab (hs _), onTile_lanesDone h hab (hs _)⟩
  · have hs (g : Nat → Nat → Nat) : c.shiftOp w sh g = map1 w A fun a => noFl (g a (sh.toNat % w)) := by rw [Ctx.shiftOp, hb]
    exact ⟨onTile_lanesDone h hab (hs _), onTile_lanesDone h hab (hs _), onTile_lanesDone h hab (hs _)⟩

/-! Floating lanes. -/

theorem fmtWidth_of_ofCode {f : Nat} {F : FF} (h : FF.ofCode f = some F) : fmtWidth f = F.width := by
  unfold FF.ofCode at h
  split at h <;> cases h <;> rfl

theorem fltOf_of_ofCode {f : Nat} {F : FF} (h : FF.ofCode f = some F) : fltOf f = F := by
  rw [fltOf, h, Option.getD_some]

theorem drawsFor_eq (mode n : Nat) : drawsFor mode n = if mode = 5 then (n + 3) / 4 else 0 := by
  simp only [drawsFor, beq_iff_eq]

/-- Settles O28: each is its lane function of the format, on records of DOMAIN 0. -/
theorem floatLanes : Obligations.FloatLanes := by
  intro s c p fs ta tb F cc cls cv h hr hF w A B C mask mode nr np
  have ha : c.Records false [.a] := hr.mono (by decide)
  have hab : c.Records false [.a, .b] := hr.mono (by decide)
  have hw : fmtWidth (c.fmt fs) = w := fmtWidth_of_ofCode hF
  have hf : fltOf (c.fmt fs) = F := fltOf_of_ofCode hF
  have hn : drawsFor mode (128 / fmtWidth (c.fmt fs)) = nr := by rw [hw, drawsFor_eq]
  have hp : (128 / fmtWidth (c.fmt fs) + 3) / 4 = np := by rw [hw]
  have m1 (g : FF → Nat → Nat → Nat × Fl) : map1 (fmtWidth (c.fmt fs)) A (g (fltOf (c.fmt fs)) (fmtWidth (c.fmt fs))) = map1 w A (g F w) := by
    rw [hw, hf]
  have m2 (g : FF → Nat → Nat → Nat → Nat × Fl) :
      map2 (fmtWidth (c.fmt fs)) A B (g (fltOf (c.fmt fs)) (fmtWidth (c.fmt fs))) = map2 w A B (g F w) := by rw [hw, hf]
  have m3 (g : FF → Nat → Nat → Nat → Nat × Fl) :
      map3 (fmtWidth (c.fmt fs)) A B C (g (fltOf (c.fmt fs))) = map3 w A B C (g F) := by rw [hw, hf]
  refine ⟨onTile_lanesDone h hab (m2 fun F _ => F.add false), onTile_lanesDone h hab (m2 fun F _ => F.add true),
    onTile_lanesDone h hab (m2 fun F _ => F.mul), onTile_lanesDone h hr (m3 fun F => F.fma false false),
    onTile_lanesDone h hr (m3 fun F => F.fma false true), onTile_lanesDone h hr (m3 fun F => F.fma true false),
    onTile_lanesDone h hab (m2 fun F _ => F.minMax false), onTile_lanesDone h hab (m2 fun F _ => F.minMax true),
    onTile_lanesDone h ha (m1 fun _ w a => (a % 2 ^ (w - 1), {})), onTile_lanesDone h ha (m1 fun _ w a => ((a + 2 ^ (w - 1)) % 2 ^ w, {})),
    onTile_lanesDone h hab (m2 fun F w a b => (maskLane w (F.cmp cc.toNat a b).1, (F.cmp cc.toNat a b).2)),
    onTile_lanesDone h ha (m1 fun F w a => (maskLane w (cls.getLsbD (F.classOf a)), {})),
    onTile_lanesDone h ha (m1 fun F _ => F.rcp), onTile_lanesDone h ha (m1 fun F _ => F.rsq), onTile_lanesDone h ha (m1 fun F _ => F.exp2),
    onTile_lanesDone h ha (m1 fun F _ => F.log2), onTile_lanesDone h ha (m1 fun F _ => F.xexp), onTile_lanesDone h hab (m2 fun F _ => F.scl),
    onTile_lanesDrawn h ha ?_ hn, onTile_lanesDrawn h hab ?_ hp⟩
  · rw [hw, hf, ← hn, hw]
    rfl
  · rw [hw, hf, ← hp, hw]
    rfl

/-! Lanes moved and converted. -/

theorem Ctx.ad_of {c : Ctx} {x : DTok} (h : c.a = some (.data x)) : c.ad = x := by
  rw [Ctx.ad, h]
  rfl

theorem ctlVal_ctl (x : CTok) : ctlVal (some (.ctl x)) = x.val := by
  rw [ctlVal, Tok.word, Tok.value, BitVec.setWidth_setWidth_of_le _ (by decide), BitVec.setWidth_eq]

theorem DTok.isStop_of_isRecord {x : DTok} (h : x.isRecord = true) : x.isStop = false := by
  rw [DTok.isRecord, beq_iff_eq] at h
  rw [DTok.isStop, h]
  rfl

/-- Settles O30. -/
theorem laneMoves : Obligations.LaneMoves := by
  intro s c p fs ta tb ln sat uns hi h hr f w A B C
  have ha : c.Records false [.a] := hr.mono (by decide)
  have hab : c.Records false [.a, .b] := hr.mono (by decide)
  refine ⟨onTile_lanesDone h hr ?_, onTile_lanesDone h hr rfl, onTile_lanesDone h hab rfl, onTile_lanesDone h ha rfl,
    fun x hx => onTile_issues h ?_, fun x hx => onTile_issues h ?_, fun x y hx hy => onTile_issues h ?_⟩
  · refine congrArg (map3 w A B C) (funext fun a => funext fun b => funext fun d => ?_)
    by_cases hd : d = 0
    · rw [if_pos hd, hd]
      rfl
    · rw [if_neg hd, if_pos (bne_iff_ne.2 hd)]
      rfl
  · simp only [hx, Option.getD_some, Ctx.av, ctlVal_ctl]
    rfl
  · have hrec : c.ad.isRecord = true := by
      rw [Ctx.ad_of hx]
      exact (ha .a (List.mem_singleton.2 rfl) x hx).1
    have hstop : c.ad.isStop = false := DTok.isStop_of_isRecord hrec
    simp only [ha.badDomain, hrec, hstop, Bool.false_eq_true, if_false, if_true, Bool.or_eq_true, beq_iff_eq, or_assoc]
    rfl
  · have hrec : c.ad.isRecord = true := by
      rw [Ctx.ad_of hx]
      exact (ha .a (List.mem_singleton.2 rfl) x hx).1
    simp only [ha.badDomain, hrec, if_true, hy, Option.getD_some]
    rfl

/-- Settles O31. -/
theorem laneConversions : Obligations.LaneConversions := by
  intro s c p fs cv ta tb part op src dst h hr f w A k n nq rq q rd d
  have ha : c.Records false [.a] := hr.mono (by decide)
  refine ⟨onTile_issues h ?_, onTile_lanesDone h ha rfl, onTile_lanesDone h ha rfl, ?_, ?_⟩
  · dsimp only
    rw [hr.lanesOf, hr.nonRecord, drawsFor_eq]
    rfl
  · show execVqnt p fs ta tb src dst cv s = _
    refine onTileS_issues h ?_
    dsimp only
    rw [ha.badDomain, ha.nonRecord]
    simp only [beq_iff_eq]
    rfl
  · show execVdqnt p fs ta tb src dst cv s = _
    refine onTileS_issues h ?_
    dsimp only
    rw [ha.badDomain, ha.nonRecord]
    simp only [beq_iff_eq]
    rfl

/-! Operands that a lane computation does not compute on. -/

/-- The rule of R131 and R253 for an instruction whose data operands stand at `ps`: it stops at the first record of DOMAIN 1, and else
passes the first non-record on. -/
def LaneRule (s : State) (c : Ctx) (ta tb : Target) (ps : List Pos) (lat : Nat) (i : Instr) : Prop :=
  (∀ j : Issue, c.badDomain false ps = some j → exec i s = .next (s.issuing c true ta tb j)) ∧
  ∀ d : DTok, c.badDomain false ps = none → c.nonRecord ps = some d → exec i s = .next (s.sendsData c lat ta tb (.data d))

section
variable {c : Ctx} {ta tb : Target} {lat : Nat} {ps : List Pos} {r : Payload × Fl}

theorem Ctx.lanesOf_stop {j : Issue} (h : c.badDomain false ps = some j) : c.lanesOf false lat ta tb ps r = j := by
  rw [Ctx.lanesOf, h]

theorem Ctx.lanesOf_nonRecord {d : DTok} (hb : c.badDomain false ps = none) (hn : c.nonRecord ps = some d) :
    c.lanesOf false lat ta tb ps r = c.emit lat ta tb (.data d) := by
  rw [Ctx.lanesOf, hb, hn]

variable {s : State} {p : Pred} {i : Instr} (h : s.Acts c p)
include h

theorem laneRule {f : Ctx → Payload × Fl} (e : exec i s = onTile s true p ta tb fun c => c.lanesOf false lat ta tb ps (f c)) :
    LaneRule s c ta tb ps lat i :=
  ⟨fun _ hj => e.trans (onTile_issues h (Ctx.lanesOf_stop hj)), fun _ hb hn => e.trans (onTile_issues h (Ctx.lanesOf_nonRecord hb hn))⟩

/-- The rule holds where lanes draw: nothing is drawn for what is not computed. -/
theorem laneRule_drawn {f : Ctx → Payload × Fl} {n : Ctx → Nat} (e : exec i s = onTile s true p ta tb fun c =>
      let i := c.lanesOf false lat ta tb ps (f c)
      if i.cause.isNone && (c.nonRecord ps).isNone then { i with tsk := c.drawn (n c) } else i) : LaneRule s c ta tb ps lat i := by
  refine ⟨fun j hj => e.trans (onTile_issues h ?_), fun d hb hn => e.trans (onTile_issues h ?_)⟩
  · dsimp only
    rw [Ctx.lanesOf_stop hj, Ctx.cause_badDomain hj]
    rfl
  · dsimp only
    rw [Ctx.lanesOf_nonRecord hb hn, hn]
    rfl

theorem laneRule_vcvt {fs cv : BitVec 2} {part : BitVec 3} : LaneRule s c ta tb [.a, .c] 2 (.vcvt p fs ta tb cv part) :=
  laneRule_drawn h (f := fun x =>
      vcvtPay (fmtWidth (x.fmt fs)) (fmtWidth (x.conv cv).2.1) part.toNat x.ad.pay x.cd.pay fun i v =>
        convert (x.conv cv).1 (x.conv cv).2.1 (x.conv cv).2.2.1 (x.conv cv).2.2.2
          ((x.us (drawsFor (x.conv cv).2.2.1 (128 / max (fmtWidth (x.fmt fs)) (fmtWidth (x.conv cv).2.1)))).getD i 0) v)
    (n := fun x => drawsFor (x.conv cv).2.2.1 (128 / max (fmtWidth (x.fmt fs)) (fmtWidth (x.conv cv).2.1))) rfl

/-- The rule for VQNT and VDQNT, which read keeps only where they compute. -/
theorem laneRule_keeps {f : State → Ctx → State × Issue} (e : exec i s = onTileS s true p .neither ta tb fun s x =>
      match x.badDomain false ps with
      | some i => (s, i)
      | none =>
        match x.nonRecord ps with
        | some d => (s, x.emit lat ta tb (.data d))
        | none => f s x) : LaneRule s c ta tb ps lat i := by
  refine ⟨fun j hj => e.trans (onTileS_issues h ?_), fun d hb hn => e.trans (onTileS_issues h ?_)⟩
  · rw [hj]
  · rw [hb, hn]

theorem laneRule_vqnt {fs cv : BitVec 2} {src dst : BitVec 6} : LaneRule s c ta tb [.a] 12 (.vqnt p fs ta tb src dst cv) :=
  laneRule_keeps h rfl

theorem laneRule_vdqnt {fs cv : BitVec 2} {src dst : BitVec 6} : LaneRule s c ta tb [.a] 12 (.vdqnt p fs ta tb src dst cv) :=
  laneRule_keeps h rfl

end

/-- The instructions that compute on lanes of DOMAIN 0, each with its latency and the data operands that it has besides A. -/
def laneTable (p : Pred) (fs cv op : BitVec 2) (ta tb : Target) (cc part : BitVec 3) (cls : BitVec 10) (sh src dst : BitVec 6)
    (sat uns hi : BitVec 1) : List (List Pos × Nat × Instr) :=
  [([.b], 1, .vadd p fs ta tb), ([.b], 1, .vsub p fs ta tb), ([.b], 2, .vmul p fs ta tb), ([.b, .c], 2, .vmad p fs ta tb),
   ([.b], 1, .vmin p fs ta tb), ([.b], 1, .vmax p fs ta tb), ([], 1, .vabs p fs ta tb), ([], 1, .vneg p fs ta tb),
   ([.b], 1, .vand p fs ta tb), ([.b], 1, .vor p fs ta tb), ([.b], 1, .vxor p fs ta tb), ([.b], 1, .vshl p fs ta tb sh),
   ([.b], 1, .vshr p fs ta tb sh), ([.b], 1, .vsar p fs ta tb sh), ([.b], 1, .vadds p fs ta tb), ([.b], 1, .vsubs p fs ta tb),
   ([.b], 4, .vfadd p fs ta tb), ([.b], 4, .vfsub p fs ta tb), ([.b], 4, .vfmul p fs ta tb), ([.b, .c], 4, .vfma p fs ta tb),
   ([.b, .c], 4, .vfms p fs ta tb), ([.b, .c], 4, .vfnma p fs ta tb), ([.b], 2, .vfmin p fs ta tb), ([.b], 2, .vfmax p fs ta tb),
   ([], 1, .vfabs p fs ta tb), ([], 1, .vfneg p fs ta tb), ([.b], 1, .vfcmp p fs ta tb cc), ([.b, .c], 1, .vsel p fs ta tb),
   ([], 12, .vfrcp p fs ta tb), ([], 12, .vfrsq p fs ta tb), ([], 1, .vfcls p fs ta tb cls), ([.b], 4, .vfscl p fs ta tb),
   ([.c], 2, .vcvt p fs ta tb cv part), ([], 2, .vrint p fs ta tb cv), ([], 12, .vfexp p fs ta tb), ([], 12, .vflog p fs ta tb),
   ([], 2, .vxexp p fs ta tb), ([], 6, .vred p fs ta tb op), ([], 6, .vscan p fs ta tb op), ([.b, .c], 1, .vshuf p fs ta tb),
   ([.b], 1, .vpack p fs ta tb sat uns), ([], 1, .vunpk p fs ta tb hi), ([], 12, .vqnt p fs ta tb src dst cv),
   ([], 12, .vdqnt p fs ta tb src dst cv), ([.b], 4, .vprune p fs ta tb)]

section
variable {s : State} {c : Ctx} {p : Pred} {ta tb : Target} (h : s.Acts c p)
include h

theorem laneTable_rule (fs cv op : BitVec 2) (cc part : BitVec 3) (cls : BitVec 10) (sh src dst : BitVec 6) (sat uns hi : BitVec 1) :
    (laneTable p fs cv op ta tb cc part cls sh src dst sat uns hi).Forall fun r => LaneRule s c ta tb (.a :: r.1) r.2.1 r.2.2 := by
  simp only [laneTable, List.Forall]
  exact ⟨laneRule h rfl, laneRule h rfl, laneRule h rfl, laneRule h rfl, laneRule h rfl, laneRule h rfl, laneRule h rfl, laneRule h rfl,
    laneRule h rfl, laneRule h rfl, laneRule h rfl, laneRule h rfl, laneRule h rfl, laneRule h rfl, laneRule h rfl, laneRule h rfl,
    laneRule h rfl, laneRule h rfl, laneRule h rfl, laneRule h rfl, laneRule h rfl, laneRule h rfl, laneRule h rfl, laneRule h rfl,
    laneRule h rfl, laneRule h rfl, laneRule h rfl, laneRule h rfl, laneRule h rfl, laneRule h rfl, laneRule h rfl, laneRule h rfl,
    laneRule_vcvt h, laneRule_drawn h rfl, laneRule h rfl, laneRule h rfl, laneRule h rfl, laneRule h rfl, laneRule h rfl,
    laneRule h rfl, laneRule h rfl, laneRule h rfl, laneRule_vqnt h, laneRule_vdqnt h, laneRule_drawn h rfl⟩

end

theorem laneTable_pos (p : Pred) (fs cv op : BitVec 2) (ta tb : Target) (cc part : BitVec 3) (cls : BitVec 10) (sh src dst : BitVec 6)
    (sat uns hi : BitVec 1) : (laneTable p fs cv op ta tb cc part cls sh src dst sat uns hi).Forall fun r => ∀ q ∈ r.1, q = .b ∨ q = .c := by
  simp [laneTable]

section
variable {s : State} {c : Ctx} {ta tb : Target} {lat : Nat} {i : Instr} {ps : List Pos} {x : DTok}

/-- A non-record at the first position goes on, where no later one stops. -/
theorem LaneRule.nonRecord {q : Pos} (hl : LaneRule s c ta tb (q :: ps) lat i) (hx : c.at q = some (.data x)) (hn : x.isRecord = false)
    (ho : ∀ r ∈ ps, ∀ y : DTok, c.at r = some (.data y) → y.isRecord = true → y.domain = false) :
    exec i s = .next (s.sendsData c lat ta tb (.data x)) := by
  refine hl.2 x ?_ (Ctx.nonRecord_cons hx hn)
  rw [Ctx.badDomain_skip fun d hd hr => ?_, Ctx.badDomain_none ho]
  obtain rfl : x = d := Tok.data.inj (Option.some.inj (hx.symm.trans hd))
  rw [hn] at hr
  exact nomatch hr

/-- A record of DOMAIN 1 at the first position stops the kiln. -/
theorem LaneRule.domain {q : Pos} (hl : LaneRule s c ta tb (q :: ps) lat i) (hx : c.at q = some (.data x)) (hr : x.isRecord = true)
    (hd : x.domain = true) : exec i s = .next (s.issuing c true ta tb (c.stop 0x38 (c.slot + q.code * 2 ^ 8) x.side)) :=
  hl.1 _ (Ctx.badDomain_cons hx hr hd)

/-- A position that holds no data token, or a record of DOMAIN 0, has no part in the rule. -/
theorem LaneRule.skip {q : Pos} (hl : LaneRule s c ta tb (q :: ps) lat i)
    (hq : ∀ d : DTok, c.at q = some (.data d) → d.isRecord = true ∧ d.domain = false) : LaneRule s c ta tb ps lat i := by
  rw [LaneRule, Ctx.badDomain_skip fun d hd _ => (hq d hd).2, Ctx.nonRecord_skip fun d hd => (hq d hd).1] at hl
  exact hl

end

/-- Settles O32: the rule holds of each instruction, and the positions before the one at fault have no part in it. -/
theorem nonRecordsAndDomains : Obligations.NonRecordsAndDomains := by
  intro s c p fs cv op ta tb cc part cls sh src dst sat uns hi x h hx
  have table := List.forall_iff_forall_mem.1 (laneTable_rule (ta := ta) (tb := tb) h fs cv op cc part cls sh src dst sat uns hi)
  have pos := List.forall_iff_forall_mem.1 (laneTable_pos p fs cv op ta tb cc part cls sh src dst sat uns hi)
  have hxa : c.at .a = some (.data x) := hx
  have hskip (hr : x.isRecord = true) (hd : x.domain = false) (d : DTok) (h : c.at .a = some (.data d)) :
      d.isRecord = true ∧ d.domain = false := by
    obtain rfl : x = d := Tok.data.inj (Option.some.inj (hx.symm.trans h))
    exact ⟨hr, hd⟩
  refine ⟨fun hn ho => ?_, fun hr hd => ?_, ?_⟩
  · have hall : (laneTable p fs cv op ta tb cc part cls sh src dst sat uns hi).Forall fun r =>
        exec r.2.2 s = .next (s.sendsData c r.2.1 ta tb (.data x)) := by
      refine List.forall_iff_forall_mem.2 fun r hr => (table r hr).nonRecord hxa hn fun q hq y hy => ho y ?_
      obtain rfl | rfl := pos r hr q hq
      · exact .inl hy
      · exact .inr hy
    exact hall
  · have hall : (laneTable p fs cv op ta tb cc part cls sh src dst sat uns hi).Forall fun r =>
        exec r.2.2 s = .next (s.issuing c true ta tb (c.stop 0x38 c.slot x.side)) :=
      List.forall_iff_forall_mem.2 fun r hm => (table r hm).domain hxa hr hd
    exact hall
  · intro two three hr hd y
    have htwo : ∀ i ∈ two, LaneRule s c ta tb [.b] i.2 i.1 := by
      suffices ∀ i ∈ two, LaneRule s c ta tb [.a, .b] i.2 i.1 from fun i hi => (this i hi).skip (hskip hr hd)
      simp only [two, List.forall_mem_cons]
      exact ⟨laneRule h rfl, laneRule h rfl, laneRule h rfl, laneRule h rfl, laneRule h rfl, laneRule h rfl, laneRule h rfl, laneRule h rfl,
        laneRule h rfl, laneRule h rfl, laneRule h rfl, laneRule h rfl, laneRule h rfl, laneRule h rfl, laneRule h rfl, laneRule h rfl,
        laneRule h rfl, laneRule h rfl, laneRule h rfl, laneRule h rfl, laneRule h rfl, laneRule_drawn h rfl, fun _ hi => nomatch hi⟩
    have hthree : ∀ i ∈ three, LaneRule s c ta tb [.b, .c] i.2 i.1 := by
      suffices ∀ i ∈ three, LaneRule s c ta tb [.a, .b, .c] i.2 i.1 from fun i hi => (this i hi).skip (hskip hr hd)
      simp only [three, List.forall_mem_cons]
      exact ⟨laneRule h rfl, laneRule h rfl, laneRule h rfl, laneRule h rfl, laneRule h rfl, laneRule h rfl, fun _ hi => nomatch hi⟩
    refine ⟨fun hy => ⟨fun i hi => ⟨fun hn => ?_, fun hyr hyd => ?_⟩, fun i hi => ⟨fun hn hz => ?_, fun hyr hyd => ?_⟩⟩,
      fun hy hb i hi => ⟨fun hn => ?_, fun hyr hyd => ?_⟩, fun hy => ⟨fun hn => ?_, fun hyr hyd => ?_⟩⟩
    · exact (htwo i hi).nonRecord hy hn fun _ hq => nomatch hq
    · exact (htwo i hi).domain hy hyr hyd
    · refine (hthree i hi).nonRecord hy hn fun q hq z hzq => ?_
      rw [List.mem_singleton.1 hq] at hzq
      exact hz z hzq
    · exact (hthree i hi).domain hy hyr hyd
    · exact ((hthree i hi).skip hb).nonRecord hy hn fun _ hq => nomatch hq
    · exact ((hthree i hi).skip hb).domain hy hyr hyd
    · exact ((laneRule_vcvt h).skip (hskip hr hd)).nonRecord hy hn fun _ hq => nomatch hq
    · exact ((laneRule_vcvt h).skip (hskip hr hd)).domain hy hyr hyd

end Sys2Proof.Machine
end

section

-- One proof at a time: the whole text then stays within the memory of a check.
set_option Elab.async false

/-! Scratchpad, keep and memory-port instructions at issue: the proofs of O33 to O37. -/

namespace Sys2Proof.Machine

/-! Instructions that a stop at A passes by (R280). -/

section
variable {c : Ctx}

theorem Ctx.stopAtA_none (h : ∀ t : Tok, c.a = some t → t.isStop = false) : c.stopAtA = none := by
  rw [Ctx.stopAtA]
  cases ha : c.a with
  | none => rfl
  | some t => rw [Option.bind_some, h t ha, if_neg Bool.false_ne_true]

theorem Ctx.stopAtA_some {t : Tok} (ha : c.a = some t) (h : t.isStop = true) : c.stopAtA = some t.level := by
  rw [Ctx.stopAtA, ha, Option.bind_some, if_pos h]

theorem Ctx.writes (h : ∀ t : Tok, c.b = some t → t.writesNothing = false) : (c.b.map Tok.writesNothing).getD false = false := by
  cases hb : c.b with
  | none => rfl
  | some t => exact h t hb

theorem Ctx.writesNothing {t : Tok} (hb : c.b = some t) (h : t.writesNothing = true) : (c.b.map Tok.writesNothing).getD false = true := by
  rw [hb]
  exact h

variable {s : State} {p : Pred} {ta tb : Target} (h : s.Acts c p)
include h

/-- A tile instruction that leaves the state as it is but for recording its issue. -/
theorem exec_issues {i : Instr} {plane : Bool} {o : OrderTo} {f : State → Ctx → Issue} {j : Issue}
    (e : exec i s = onTileS s plane p o ta tb fun s c => (s, f s c)) (ef : f s.begun c = j) : exec i s = .next (s.issuing c plane ta tb j) :=
  e.trans (onTileS_issues h (congrArg (Prod.mk _) ef))

/-- An atomic, by what its form makes of it. -/
theorem exec_atomic {i : Instr} {code : BitVec 8} {n : Nat} {q : GlobalQual} {scope : BitVec 3} {off : BitVec 21} {s1 : State} {j : Issue}
    (e : exec i s = onTileS s false p .second ta tb fun s c => Ctx.atomic s c ta tb code n 0 q scope off)
    (ea : Ctx.atomic s.begun c ta tb code n 0 q scope off = (s1, j)) : exec i s = .next (s.issuedFrom s1 c false ta tb j) :=
  e.trans (onTileS_issues h ea)

section
variable {i : Instr} {plane : Bool} {o : OrderTo} {pass : State → Ctx → BitVec 3 → State × Issue} {go : State → Ctx → State × Issue}
  {s1 : State} {j : Issue}
  (e : exec i s = onTileS s plane p o ta tb fun s c => match c.stopAtA with
    | some lv => pass s c lv
    | none => go s c)
include e

theorem exec_issues_noStop (hs : c.stopAtA = none) (eg : go s.begun c = (s1, j)) : exec i s = .next (s.issuedFrom s1 c plane ta tb j) :=
  e.trans (onTileS_issues h (by rw [hs]; exact eg))

theorem exec_issues_stop {lv : BitVec 3} (hs : c.stopAtA = some lv) (ep : pass s.begun c lv = (s1, j)) :
    exec i s = .next (s.issuedFrom s1 c plane ta tb j) :=
  e.trans (onTileS_issues h (by rw [hs]; exact ep))

end
end

/-! Scratchpad addresses (R282). -/

theorem scratchBad_none {eas : List Nat} {n : Nat} (h : ∀ a ∈ eas, a + n ≤ 0x18000 ∧ a % n = 0) : scratchBad eas n = none := by
  refine List.find?_eq_none.2 fun a ha => ?_
  obtain ⟨hr, hm⟩ := h a ha
  simp only [hm, bne_self_eq_false, Bool.or_false, decide_eq_true_eq]
  exact Nat.not_lt.2 hr

theorem scratchBad_first {good more : List Nat} {a n : Nat} (hg : ∀ x ∈ good, x + n ≤ 0x18000 ∧ x % n = 0)
    (ha : 0x18000 < a + n ∨ a % n ≠ 0) : scratchBad (good ++ a :: more) n = some a := by
  have hgood := scratchBad_none hg
  have hbad : (decide (a + n > 0x18000) || a % n != 0) = true := by
    rw [Bool.or_eq_true, decide_eq_true_eq, bne_iff_ne]
    exact ha
  rw [scratchBad] at hgood ⊢
  rw [List.find?_append, hgood, Option.none_or, List.find?_cons, hbad]

section
variable {c : Ctx} {eas : List Nat} {op : ScratchOp} {n : Nat} (hn : op.size = n)
include hn

theorem Ctx.scratch_goes (fs : BitVec 2) (h : ∀ a ∈ eas, a + n ≤ 0x18000 ∧ a % n = 0) :
    c.scratch eas op fs = c.waits (.scratch eas op fs c.deps (c.t.cyc + 1)) (c.t.cyc + 1) := by
  rw [Ctx.scratch, hn, scratchBad_none h]
  rfl

theorem Ctx.scratch_stops (fs : BitVec 2) {good more : List Nat} {a : Nat} (he : eas = good ++ a :: more)
    (hg : ∀ x ∈ good, x + n ≤ 0x18000 ∧ x % n = 0) (ha : 0x18000 < a + n ∨ a % n ≠ 0) : c.scratch eas op fs = c.stop 0x25 c.slot a := by
  rw [Ctx.scratch, hn, he, scratchBad_first hg ha]

end

/-- Settles O33: an access whose addresses are good waits for its cycle, and the first bad address stops the kiln. -/
theorem scratchpadIssues : Obligations.ScratchpadIssues := by
  refine ⟨fun s c p lq sq ta tb size sx off h ha => ?_, fun s c p lq sq ta tb size sx off h ha hb => ?_⟩
  · have hs := Ctx.stopAtA_none ha
    intro n ea eas lf sf go
    have one {m : Nat} (hr : ea + m ≤ 0x18000) (hm : ea % m = 0) : ∀ a ∈ [ea], a + m ≤ 0x18000 ∧ a % m = 0 := by
      intro a hx
      rw [List.mem_singleton.1 hx]
      exact ⟨hr, hm⟩
    have hst : (ScratchOp.store (leBytes n c.bv.toNat)).size = n := length_leBytes n _
    have cell {es : List Nat} {op : ScratchOp} {fs : BitVec 2} {m : Nat} (hop : op.size = m) (hg : ∀ a ∈ es, a + m ≤ 0x18000 ∧ a % m = 0) :
        (s.begun, c.scratch es op fs) = (s.begun, go es op fs) := congrArg (Prod.mk _) (Ctx.scratch_goes hop fs hg)
    refine ⟨fun hr hm => ⟨?_, fun hb => ?_⟩, fun hr hm => ⟨?_, fun hb => ?_, ?_, ?_, ?_⟩, fun hg => ⟨?_, fun hb => ?_⟩,
      fun t hb hw => ⟨?_, ?_, ?_⟩⟩
    · exact exec_issues_noStop h rfl hs (cell (m := n) rfl (one hr hm))
    · exact exec_issues_noStop h rfl hs ((congrArg (Prod.mk _) (if_neg (ne_true_of_eq_false (Ctx.writes hb)))).trans (cell hst (one hr hm)))
    · exact exec_issues_noStop h rfl hs (cell (m := 16) rfl (one hr hm))
    · exact exec_issues_noStop h rfl hs ((congrArg (Prod.mk _) (if_neg (ne_true_of_eq_false (Ctx.writes hb)))).trans (cell (m := 16) rfl (one hr hm)))
    · exact exec_issues h rfl (Ctx.scratch_goes (n := 16) rfl 0 (one hr hm))
    · exact exec_issues h rfl (Ctx.scratch_goes (n := 16) rfl 0 (one hr hm))
    · exact exec_issues h rfl (Ctx.scratch_goes (n := 16) rfl 0 (one hr hm))
    · exact exec_issues_noStop h rfl hs (cell (m := n) rfl hg)
    · exact exec_issues_noStop h rfl hs ((congrArg (Prod.mk _) (if_neg (ne_true_of_eq_false (Ctx.writes hb)))).trans (cell (m := n) rfl hg))
    · exact exec_issues_noStop h rfl hs (congrArg (Prod.mk _) (if_pos (Ctx.writesNothing hb hw)))
    · exact exec_issues_noStop h rfl hs (congrArg (Prod.mk _) (if_pos (Ctx.writesNothing hb hw)))
    · exact exec_issues_noStop h rfl hs (congrArg (Prod.mk _) (if_pos (Ctx.writesNothing hb hw)))
  · have hs := Ctx.stopAtA_none ha
    have hw := ne_true_of_eq_false (Ctx.writes hb)
    intro n ea
    have hst : (ScratchOp.store (leBytes n c.bv.toNat)).size = n := length_leBytes n _
    have cell {op : ScratchOp} {fs : BitVec 2} {m : Nat} (hop : op.size = m) {es good more : List Nat} {a : Nat} (he : es = good ++ a :: more)
        (hg : ∀ x ∈ good, x + m ≤ 0x18000 ∧ x % m = 0) (hx : 0x18000 < a + m ∨ a % m ≠ 0) :
        (s.begun, c.scratch es op fs) = (s.begun, c.stop 0x25 c.slot a) := congrArg (Prod.mk _) (Ctx.scratch_stops hop fs he hg hx)
    have one {op : ScratchOp} {fs : BitVec 2} {m : Nat} (hop : op.size = m) (hx : 0x18000 < ea + m ∨ ea % m ≠ 0) :
        (s.begun, c.scratch [ea] op fs) = (s.begun, c.stop 0x25 c.slot ea) := cell hop (good := []) (more := []) rfl (fun _ hq => nomatch hq) hx
    refine ⟨fun hx => ⟨?_, ?_⟩, fun hx => ⟨?_, ?_, ?_, ?_, ?_⟩, fun good more a he hg hx => ⟨?_, ?_⟩⟩
    · exact exec_issues_noStop h rfl hs (one (m := n) rfl hx)
    · exact exec_issues_noStop h rfl hs ((congrArg (Prod.mk _) (if_neg hw)).trans (one hst hx))
    · exact exec_issues_noStop h rfl hs (one (m := 16) rfl hx)
    · exact exec_issues_noStop h rfl hs ((congrArg (Prod.mk _) (if_neg hw)).trans (one (m := 16) rfl hx))
    · exact exec_issues h rfl (Ctx.scratch_stops (n := 16) rfl 0 (good := []) (more := []) rfl (fun _ hq => nomatch hq) hx)
    · exact exec_issues h rfl (Ctx.scratch_stops (n := 16) rfl 0 (good := []) (more := []) rfl (fun _ hq => nomatch hq) hx)
    · exact exec_issues h rfl (Ctx.scratch_stops (n := 16) rfl 0 (good := []) (more := []) rfl (fun _ hq => nomatch hq) hx)
    · exact exec_issues_noStop h rfl hs (cell (m := n) rfl he hg hx)
    · exact exec_issues_noStop h rfl hs ((congrArg (Prod.mk _) (if_neg hw)).trans (cell (m := n) rfl he hg hx))

/-- Settles O34: at a stop each instruction passes it by, those of the memory port with their count of elements begun again. -/
theorem stopPassesMemory : Obligations.StopPassesMemory := by
  intro s c p lq sq gq ta tb size sx scope keep off t h ha ht pass s0
  have hs := Ctx.stopAtA_some ha ht
  refine ⟨exec_issues_stop h rfl hs rfl, exec_issues_stop h rfl hs rfl, exec_issues_stop h rfl hs rfl, exec_issues_stop h rfl hs rfl,
    exec_issues_stop h rfl hs rfl, exec_issues_stop h rfl hs rfl, exec_issues_stop h rfl hs rfl, exec_issues_stop h rfl hs rfl,
    exec_issues_stop h rfl hs rfl, exec_issues_stop h rfl hs rfl, ?_⟩
  have hat {code : BitVec 8} {n : Nat} {m : Word} : Ctx.atomic s.begun c ta tb code n m gq scope off = (s0, pass false 1) := by
    rw [Ctx.atomic, hs]
    rfl
  simp only [List.forall_mem_cons]
  exact ⟨exec_atomic h rfl hat, exec_atomic h rfl hat, exec_atomic h rfl hat, exec_atomic h rfl hat, exec_atomic h rfl hat,
    exec_atomic h rfl hat, exec_atomic h rfl hat, exec_atomic h rfl hat, exec_atomic h rfl hat, exec_issues_stop h rfl hs hat,
    exec_atomic h rfl hat, exec_atomic h rfl hat, fun _ hi => nomatch hi⟩

/-- Settles O35. -/
theorem keepsAndAccumulators : Obligations.KeepsAndAccumulators := by
  intro s c p ta tb k row qr w first n off h ea rd
  have one (hr : ea + 8 ≤ 0x18000) (hm : ea % 8 = 0) : scratchBad [c.scratchEa off] 8 = none := by
    refine scratchBad_none fun a ha => ?_
    rw [List.mem_singleton.1 ha]
    exact ⟨hr, hm⟩
  refine ⟨fun hb => ?_, fun hb => ?_, fun x hx hr => exec_issues h rfl ?_, fun x hx hr => exec_issues h rfl ?_, exec_issues h rfl rfl,
    fun x hx => exec_issues h rfl ?_, exec_issues h rfl rfl, exec_issues h rfl rfl, exec_issues h rfl rfl,
    fun hr hm hv => exec_issues h rfl ?_, fun hr hm hv => exec_issues h rfl ?_, fun hx => exec_issues h rfl ?_⟩
  · show execKrd p ta tb k s = _
    refine onTileS_issues h ?_
    dsimp only
    rw [hb]
    rfl
  · show execKrd p ta tb k s = _
    refine onTileS_issues h ?_
    dsimp only
    rw [hb]
    rfl
  · rw [Ctx.ad_of hx, hr, hx]
    rfl
  · rw [Ctx.ad_of hx, hr, hx]
    rfl
  · rw [hx]
    rfl
  · dsimp only
    rw [one hr hm]
    exact if_neg (by simpa using hv)
  · dsimp only
    rw [one hr hm]
    exact if_pos (by rw [hv]; rfl)
  · dsimp only
    rw [show scratchBad [c.scratchEa off] 8 = some ea from scratchBad_first (good := []) (more := []) (fun _ hq => nomatch hq) hx]

/-! The memory port. -/

section
variable {c : Ctx} {code : BitVec 8} {op : GlobalOp} {q : GlobalQual} {scope : BitVec 3} {off : BitVec 21} {n : Nat} (hn : op.size = n)
include hn

theorem Ctx.global_goes (h : c.k.eaBad (c.av + off.signExtend 64) n = false) (hm : op.misaligned (c.av + off.signExtend 64) = false) :
    c.global code op q scope off = { c.nothing with
      work := .portWait ⟨op, code, c.av + off.signExtend 64, scope.toNat, globalAcq q, globalRel q, c.deps⟩ none none } := by
  simp only [Ctx.global, sext, hn, h, hm, Bool.false_eq_true, if_false]

theorem Ctx.global_form (h : c.k.eaBad (c.av + off.signExtend 64) n = true) :
    c.global code op q scope off = c.stop 0x20 code.toNat (c.av + off.signExtend 64).toNat := by
  simp only [Ctx.global, sext, hn, h, if_true]

theorem Ctx.global_misaligned (h : c.k.eaBad (c.av + off.signExtend 64) n = false) (hm : op.misaligned (c.av + off.signExtend 64) = true) :
    c.global code op q scope off = c.stop 0x26 code.toNat (c.av + off.signExtend 64).toNat := by
  simp only [Ctx.global, sext, hn, h, hm, Bool.false_eq_true, if_false, if_true]

end

theorem mod_bne_false {a n : Nat} (h : a % n = 0) : (a % n != 0) = false := by
  rw [h]
  rfl

/-- Settles O36: by the form of the address and, of a vector access, its alignment. -/
theorem globalIssues : Obligations.GlobalIssues := by
  refine ⟨fun s c p q ta tb scope size off h ha hb => ?_, fun s c p q ta tb scope size off y h ha hb hw => ⟨?_, ?_⟩⟩
  · have hs := Ctx.stopAtA_none ha
    have hw := ne_true_of_eq_false (Ctx.writes hb)
    intro n ea acq rel go
    have hst : (GlobalOp.write (leBytes n c.bv.toNat)).size = n := length_leBytes n _
    have load {code : BitVec 8} {op : GlobalOp} {j : Issue} (hj : c.global code op q scope off = j) :
        (s.begun, c.global code op q scope off) = (s.begun, j) := congrArg (Prod.mk _) hj
    have store {code : BitVec 8} {op : GlobalOp} {j : Issue} (hj : c.global code op q scope off = j) :
        (if (c.b.map Tok.writesNothing).getD false then (s.begun, c.emit 1 ta tb Tok.order) else (s.begun, c.global code op q scope off)) =
          (s.begun, j) := (if_neg hw).trans (load hj)
    refine ⟨fun hg => ⟨?_, ?_⟩, fun hg hm => ⟨?_, ?_⟩, fun hg => ⟨?_, ?_⟩, fun hg => ⟨?_, ?_⟩, fun hg hm => ⟨?_, ?_⟩⟩
    · exact exec_issues_noStop h rfl hs (load (Ctx.global_goes (n := n) rfl hg rfl))
    · exact exec_issues_noStop h rfl hs (store (Ctx.global_goes hst hg rfl))
    · exact exec_issues_noStop h rfl hs (load (Ctx.global_goes (n := 16) rfl hg (mod_bne_false hm)))
    · exact exec_issues_noStop h rfl hs (store (Ctx.global_goes (n := 16) rfl hg (mod_bne_false hm)))
    · exact exec_issues_noStop h rfl hs (load (Ctx.global_form (n := n) rfl hg))
    · exact exec_issues_noStop h rfl hs (store (Ctx.global_form hst hg))
    · exact exec_issues_noStop h rfl hs (load (Ctx.global_form (n := 16) rfl hg))
    · exact exec_issues_noStop h rfl hs (store (Ctx.global_form (n := 16) rfl hg))
    · exact exec_issues_noStop h rfl hs (load (Ctx.global_misaligned (n := 16) rfl hg (bne_iff_ne.2 hm)))
    · exact exec_issues_noStop h rfl hs (store (Ctx.global_misaligned (n := 16) rfl hg (bne_iff_ne.2 hm)))
  · exact exec_issues_noStop h rfl (Ctx.stopAtA_none ha) (if_pos (Ctx.writesNothing hb hw))
  · exact exec_issues_noStop h rfl (Ctx.stopAtA_none ha) (if_pos (Ctx.writesNothing hb hw))

/-- Settles O37: by the form of the address and its alignment; ACAS has read its keep. -/
theorem atomicIssues : Obligations.AtomicIssues := by
  intro s c p q ta tb scope size keep off h ha n ea acq rel go rd
  have hs := Ctx.stopAtA_none ha
  have hat (s1 : State) {code : BitVec 8} {m : Nat} {cmp : Word} {j : Issue} (hj : c.global code (.atomic code m c.bv cmp) q scope off = j) :
      Ctx.atomic s1 c ta tb code m cmp q scope off = (s1, j) := by rw [Ctx.atomic, hs, hj]
  have goes {code : BitVec 8} {m : Nat} {cmp : Word} (hg : c.k.eaBad ea m = false) (hm : ea.toNat % m = 0) :
      c.global code (.atomic code m c.bv cmp) q scope off = go code m cmp := Ctx.global_goes (n := m) rfl hg (mod_bne_false hm)
  refine ⟨fun hg hm => ⟨exec_atomic h rfl (hat _ (goes hg hm)), exec_atomic h rfl (hat _ (goes hg hm)), exec_atomic h rfl (hat _ (goes hg hm)),
      exec_atomic h rfl (hat _ (goes hg hm)), exec_atomic h rfl (hat _ (goes hg hm)), exec_atomic h rfl (hat _ (goes hg hm)),
      exec_atomic h rfl (hat _ (goes hg hm)), exec_atomic h rfl (hat _ (goes hg hm)), exec_atomic h rfl (hat _ (goes hg hm)),
      exec_issues_noStop h rfl hs (hat _ (goes hg hm))⟩,
    fun hg hm => exec_atomic h rfl (hat _ (goes hg hm)), fun hg hm => exec_atomic h rfl (hat _ (goes hg hm)), ?_⟩
  have stops {i : Instr} {code : BitVec 8} {m : Nat} {s1 : State} (cmp : Word)
      (e : ∀ j : Issue, c.global code (.atomic code m c.bv cmp) q scope off = j → exec i s = .next (s.issuedFrom s1 c false ta tb j)) :
      (c.k.eaBad ea m = true → exec i s = .next (s.issuedFrom s1 c false ta tb (c.stop 0x20 code.toNat ea.toNat))) ∧
      (c.k.eaBad ea m = false → ea.toNat % m ≠ 0 → exec i s = .next (s.issuedFrom s1 c false ta tb (c.stop 0x26 code.toNat ea.toNat))) :=
    ⟨fun hg => e _ (Ctx.global_form (n := m) rfl hg), fun hg hm => e _ (Ctx.global_misaligned (n := m) rfl hg (bne_iff_ne.2 hm))⟩
  have plain {i : Instr} {code : BitVec 8} {m : Nat} (hc : code.toNat ≠ 0x8D)
      (e : ∀ j : Issue, c.global code (.atomic code m c.bv 0) q scope off = j → exec i s = .next (s.issuedFrom s.begun c false ta tb j)) :
      let s1 := if code.toNat = 0x8D then rd.2 else s.begun
      (c.k.eaBad ea m = true → exec i s = .next (s.issuedFrom s1 c false ta tb (c.stop 0x20 code.toNat ea.toNat))) ∧
      (c.k.eaBad ea m = false → ea.toNat % m ≠ 0 → exec i s = .next (s.issuedFrom s1 c false ta tb (c.stop 0x26 code.toNat ea.toNat))) := by
    rw [if_neg hc]
    exact stops 0 e
  simp only [List.forall_mem_cons]
  refine ⟨plain (code := 0x84) (by decide) fun j hj => exec_atomic h rfl (hat _ hj),
    plain (code := 0x85) (by decide) fun j hj => exec_atomic h rfl (hat _ hj),
    plain (code := 0x86) (by decide) fun j hj => exec_atomic h rfl (hat _ hj),
    plain (code := 0x87) (by decide) fun j hj => exec_atomic h rfl (hat _ hj),
    plain (code := 0x88) (by decide) fun j hj => exec_atomic h rfl (hat _ hj),
    plain (code := 0x89) (by decide) fun j hj => exec_atomic h rfl (hat _ hj),
    plain (code := 0x8A) (by decide) fun j hj => exec_atomic h rfl (hat _ hj),
    plain (code := 0x8B) (by decide) fun j hj => exec_atomic h rfl (hat _ hj),
    plain (code := 0x8C) (by decide) fun j hj => exec_atomic h rfl (hat _ hj),
    stops (code := 0x8D) (rd.1.setWidth 64) fun j hj => exec_issues_noStop h rfl hs (hat _ hj),
    plain (code := 0x8E) (by decide) fun j hj => exec_atomic h rfl (hat _ hj),
    plain (code := 0x8F) (by decide) fun j hj => exec_atomic h rfl (hat _ hj),
    fun _ hi => nomatch hi⟩

end Sys2Proof.Machine
end

section

-- One proof at a time: the whole text then stays within the memory of a check.
set_option Elab.async false

/-! Bells, queues and counters at issue: the proofs of O39 and O40. -/

namespace Sys2Proof.Machine

/-! Entering a bell (R189). -/

section
variable {s : State} {c : Ctx} {b : Nat} {x : BellSt} (hx : c.k.bells[b]? = some x)
include hx

/-- An arrival that is not the last. -/
theorem State.bellEnter_counts (h : x.tally + 1 ≠ x.count) :
    s.bellEnter c b = (x.gen, s.modKiln c.k.id fun kl => { kl with bells := kl.bells.set b { x with
      tally := x.tally + 1, deps := (x.deps ++ c.deps).eraseDups, opened := some (x.opened.getD (c.t.id, c.task, s.now)) } }) := by
  simp only [State.bellEnter, hx, beq_iff_eq, if_neg h]

/-- The last arrival. -/
theorem State.bellEnter_releases (h : x.tally + 1 = x.count) :
    s.bellEnter c b = (x.gen, s.modKiln c.k.id fun kl => { kl with bells := kl.bells.set b { x with
      gen := x.gen + 1, tally := 0, opened := none, timedOut := false, deps := []
      releases := x.releases ++ [(x.gen, c.t.id, c.t.cyc + 16, (x.deps ++ c.deps).eraseDups)] } }) := by
  simp only [State.bellEnter, hx, beq_iff_eq, if_pos h]

end

/-- Settles O39: a bell's arrival is the last or it is not. -/
theorem synchronisationIssues : Obligations.SynchronisationIssues := by
  refine ⟨fun s c p ta tb scope bell h => ?_, fun s c b x hx => ?_⟩
  · intro r
    exact ⟨exec_issues h rfl rfl, exec_issues h rfl rfl, (onTileS_issues h rfl : execBell p ta tb bell s = _),
      (onTileS_issues h rfl : execBella p ta tb bell s = _), (onTileS_issues h rfl : execAbstn p ta tb bell s = _)⟩
  · by_cases ht : x.tally + 1 = x.count
    · exact ⟨_, State.bellEnter_releases hx ht, rfl, rfl, fun hn => absurd ht hn, fun _ => ⟨rfl, rfl, rfl, _, rfl⟩⟩
    · exact ⟨_, State.bellEnter_counts hx ht, rfl, rfl, fun _ => ⟨rfl, rfl, rfl, rfl⟩, fun hc => absurd hc ht⟩

/-! Queue instructions, by what R299 says of the queue named. -/

/-- The issue of a queue or counter instruction, its request served after the latency `d`. -/
def Ctx.waitsQueue (c : Ctx) (op : QueueOp) (d : Nat) : Issue :=
  c.waits (.queue op c.deps) (c.t.cyc + 1 + d / max 1 (c.k.period c.t))

theorem Ctx.queued_eq (s : State) (c : Ctx) (op : QueueOp) : Ctx.queued s c op = (s.draw.2, c.waitsQueue op s.draw.1) := rfl

section
variable {s : State} {c : Ctx} {p : Pred} {ta tb : Target} {want : Option Bool} {len : Bool} (opcode : Nat) (f : Ctx → State → State × QueueOp)
  (h : s.Acts c p)
include h

theorem onQueue_goes {s1 : State} {op : QueueOp} (hq : s.begun.queueCause c.k.paddock c.av want len = none) (ef : f c s.begun = (s1, op)) :
    onTileS s false p .neither ta tb (fun s c => Ctx.onQueue s c opcode want len (f c)) =
      .next (s.issuedFrom s1.draw.2 c false ta tb (c.waitsQueue op s1.draw.1)) :=
  onTileS_issues h (by rw [Ctx.onQueue, hq, ef, ← Ctx.queued_eq])

theorem onQueue_stops {code : Nat} (hq : s.begun.queueCause c.k.paddock c.av want len = some code) :
    onTileS s false p .neither ta tb (fun s c => Ctx.onQueue s c opcode want len (f c)) =
      .next (s.issuing c false ta tb (c.stop code c.av.toNat opcode)) :=
  onTileS_issues h (by rw [Ctx.onQueue, hq])

end

/-- Settles O40: by what is named, a queue or a counter, and whether the task may name it. -/
theorem queueAndCounterIssues : Obligations.QueueAndCounterIssues := by
  intro s c p ta tb k inc h q go rd
  have hrd : s.begun.readKeeps4 c.k.id c.t.id k.toNat = (rd.1, rd.2) := (Prod.mk.eta (p := rd)).symm
  refine ⟨fun hq => ⟨?_, ?_⟩, fun hq => ?_, fun hq => ?_, fun hc => ⟨?_, ?_⟩, fun hc => ⟨?_, ?_⟩, fun code hq => ⟨?_, ?_⟩,
    fun code hq => ?_, fun code hq => ?_⟩
  · exact (onQueue_goes _ _ h hq (by rw [hrd]) : execQpush p ta tb k s = _)
  · exact (onQueue_goes _ _ h hq rfl : execQpop p ta tb k s = _)
  · exact (onQueue_goes _ _ h hq rfl : execQlen p ta tb s = _)
  · exact (onQueue_goes _ _ h hq (by rw [hrd]) : execLnch p ta tb k s = _)
  · exact (onTileS_issues h ((if_neg (Nat.not_le.2 hc)).trans (Ctx.queued_eq _ _ _)) : execSigc p ta tb inc s = _)
  · exact exec_issues h rfl (if_neg (Nat.not_le.2 hc))
  · exact (onTileS_issues h (if_pos hc) : execSigc p ta tb inc s = _)
  · exact exec_issues h rfl (if_pos hc)
  · exact (onQueue_stops _ _ h hq : execQpush p ta tb k s = _)
  · exact (onQueue_stops _ _ h hq : execQpop p ta tb k s = _)
  · exact (onQueue_stops _ _ h hq : execQlen p ta tb s = _)
  · exact (onQueue_stops _ _ h hq : execLnch p ta tb k s = _)

end Sys2Proof.Machine
end

section

-- One proof at a time: the whole text then stays within the memory of a check.
set_option Elab.async false

/-! Stream, sideband and window instructions at issue: the proofs of O41, O43 and O46. -/

namespace Sys2Proof.Machine

/-! Streams and takes. -/

section
variable {s : State} {c : Ctx} {p : Pred} {ta tb : Target} (h : s.Acts c p)
include h

/-- TAKE finds its plane in the state before the step. -/
theorem take_issues {vc : BitVec 3} (hw : s.wlog = []) : exec (.take p ta tb vc) s =
    .next (s.issuing c (s.takePlane c vc) ta tb { c.nothing with work := .take (s.takePlane c vc) vc.toNat }) := by
  have hs : s.begun = s := by rw [State.begun, ← hw]
  have hp : (s.ctx?.map fun c => s.takePlane c vc).getD false = s.takePlane c vc := by
    rw [h.1]
    rfl
  show execTake p ta tb vc s = _
  rw [execTake, hp]
  refine onTileS_issues h ?_
  rw [hs]

/-- A stop below LV passes ITGATE by. -/
theorem itgate_passes {vc lv : BitVec 3} {d : BitVec 4} {x : CTok} (ha : c.a = some (.ctl x)) (hs : x.isStop = true)
    (he : (x.isStop && lv ≤ x.level) = false) : exec (.itgate p ta tb vc d lv) s = .next (s.sends c 1 ta tb (.ctl x)) := by
  refine onTile_issues h ?_
  have hg : ((Tok.ctl x).isStop && !((Tok.ctl x).isStop && decide (lv ≤ (Tok.ctl x).level))) = true := by
    rw [show ((Tok.ctl x).isStop && decide (lv ≤ (Tok.ctl x).level)) = false from he]
    exact Bool.and_eq_true_iff.2 ⟨hs, rfl⟩
  dsimp only
  rw [ha, Option.getD_some, if_pos hg]

/-- A token that opens the loop or closes it goes on at once with OUT clear, and takes its done tokens with OUT set. -/
theorem itgate_takes {vc lv : BitVec 3} {d : BitVec 4} {x : CTok} (ha : c.a = some (.ctl x))
    (hn : x.isStop = false ∨ (x.isStop && lv ≤ x.level) = true) : exec (.itgate p ta tb vc d lv) s = .next (s.issuing c false ta tb
      (if c.tsk.gates.contains (c.x.block, c.slot) then { c.nothing with work := .itgate vc.toNat d.toNat x (x.isStop && lv ≤ x.level) }
        else { c.emit 1 ta tb (.ctl x) with tsk := c.tsk.setGate c.x.block c.slot (!(x.isStop && lv ≤ x.level)) })) := by
  refine onTile_issues h ?_
  have hg : ¬ ((Tok.ctl x).isStop && !((Tok.ctl x).isStop && decide (lv ≤ (Tok.ctl x).level))) = true := by
    rw [Bool.and_eq_true_iff]
    rintro ⟨hs, he⟩
    obtain hn | hn := hn
    · exact Bool.false_ne_true (hn.symm.trans hs)
    · exact Bool.false_ne_true ((congrArg not hn).symm.trans he)
  dsimp only
  rw [ha, Option.getD_some, if_neg hg]
  rfl

end

/-- Settles O41: SPSCN by whether B holds a token, ITGATE by its three cases. -/
theorem streamIssues : Obligations.StreamIssues := by
  refine ⟨fun s c p ta tb step st0 st1 lv vc ctr dpl op test base cap h => ?_, fun s c p ta tb vc lv d x h ha => ⟨?_, ?_, ?_⟩⟩
  · intro go n0 na
    refine ⟨onTile_issues h rfl, onTile_issues h rfl, fun hb => ?_, fun hb => ?_, onTile_issues h rfl, onTile_issues h rfl,
      onTile_issues h rfl, fun t ht => ?_, take_issues h, onTile_issues h rfl⟩
    · obtain ⟨y, hy⟩ := Option.ne_none_iff_exists'.1 hb
      exact ⟨onTile_issues h (by dsimp only; rw [hy]; rfl), onTile_issues h (by dsimp only; rw [hy]; rfl)⟩
    · refine onTile_issues h ?_
      dsimp only
      rw [hb]
      by_cases ho : (op == 0) = true
      · simp only [ho, if_true, BitVec.and_allOnes]
        rfl
      · simp only [ho, Bool.false_eq_true, if_false, show c.av ||| 0 = c.av from BitVec.or_zero]
        rfl
    · exact ⟨onTile_issues h (by dsimp only; rw [ht]; rfl), onTile_issues h (by dsimp only; rw [ht]; rfl)⟩
  · exact fun hs he => itgate_passes h ha hs he
  · exact fun hn hg => (itgate_takes h ha hn).trans (by rw [hg]; rfl)
  · exact fun hn hg => (itgate_takes h ha hn).trans (by rw [hg]; rfl)

/-! Sidebands. -/

/-- Settles O43: by the token's KIND where the instruction asks it. -/
theorem sidebandInstructions : Obligations.SidebandInstructions := by
  intro s c p ta tb test fa fb h x gapf
  have rec_ (hk : x.kind = 0) : x.isRecord = true := beq_iff_eq.2 hk
  have non (hk : x.kind ≠ 0) : ¬ x.isRecord = true := fun hr => hk (beq_iff_eq.1 hr)
  have hg (f : BitVec 2) : gapField x f = gapf f := by
    simp only [gapField, DTok.isGap, beq_iff_eq]
    rfl
  refine ⟨onTile_issues h rfl, onTile_issues h rfl, fun hk => onTile_issues h ?_, fun hk => onTile_issues h (if_neg (non hk)),
    onTile_issues h rfl, onTile_issues h rfl, onTile_issues h rfl, onTile_issues h rfl, onTile_issues h ?_, onTile_issues h ?_,
    fun hk => onTile_issues h ?_, fun hk => onTile_issues h ?_⟩
  · exact if_pos (rec_ hk)
  · rw [hg, hg]
  · simp only [fld, Nat.pow_zero, Nat.div_one, ge_iff_le]
  · exact congrArg (fun t => c.emit 1 ta tb (.data t)) (if_pos (rec_ hk))
  · exact congrArg (fun t => c.emit 1 ta tb (.data t)) (if_neg (non hk))

/-- Settles O46. -/
theorem windowIssues : Obligations.WindowIssues :=
  fun _ _ _ _ _ _ _ _ _ _ _ _ _ _ h => ⟨onTile_issues h rfl, onTile_issues h rfl, onTile_issues h rfl⟩

end Sys2Proof.Machine
end

section

-- One proof at a time: the whole text then stays within the memory of a check.
set_option Elab.async false

/-! MAC, spectral and engine instructions at issue: the proofs of O47 to O49. -/

namespace Sys2Proof.Machine

/-! Spans of the scratchpad (R412). -/

theorem spanBad_iff {ea : Word} {n : Nat} : spanBad ea n = true ↔ ¬ (ea.toNat % 16 = 0 ∧ ea.toNat + n ≤ 0x18000) := by
  rw [spanBad, Bool.or_eq_true, bne_iff_ne, decide_eq_true_eq, not_and_or, not_le]

theorem spanBad_false {ea : Word} {n : Nat} (h : ea.toNat % 16 = 0 ∧ ea.toNat + n ≤ 0x18000) : ¬ spanBad ea n = true :=
  fun hb => spanBad_iff.1 hb h

/-- Settles O47: by the span and, of AROW, by the bank and by a stop at A. -/
theorem macIssues : Obligations.MacIssues := by
  intro s c p fs ta tb bank vc row n off clr h f g ea w span
  refine ⟨onTile_issues h rfl, fun hs => exec_issues h rfl (if_neg (spanBad_false hs)), fun hs => exec_issues h rfl (if_pos (spanBad_iff.2 hs)),
    onTile_issues h rfl, fun ha hs => ⟨fun hu hp => exec_issues h rfl ?_, fun hw => exec_issues h rfl ?_⟩, fun ha hs => exec_issues h rfl ?_,
    fun t ht hs => exec_issues h rfl ?_, onTile_issues h rfl, onTile_issues h rfl⟩
  · have hb : ¬ ((c.t.bankOf c.t.bankAt).2 || !arowPair f w.1) = true := by
      rw [hp, show (c.t.bankOf c.t.bankAt).2 = false from hu]
      exact Bool.false_ne_true
    dsimp only
    rw [Ctx.stopAtA_none ha]
    exact (if_neg (spanBad_false hs)).trans (if_neg hb)
  · have hb : ((c.t.bankOf c.t.bankAt).2 || !arowPair f w.1) = true := by
      rw [Bool.or_eq_true, Bool.not_eq_true']
      exact hw
    dsimp only
    rw [Ctx.stopAtA_none ha]
    exact (if_neg (spanBad_false hs)).trans (if_pos hb)
  · dsimp only
    rw [Ctx.stopAtA_none ha]
    exact if_pos (spanBad_iff.2 hs)
  · dsimp only
    rw [Ctx.stopAtA_some ht hs]
    rfl

/-! Transforms (R330). -/

theorem Ctx.transform_eq (c : Ctx) {inv : Bool} {fs cv : BitVec 2} : c.transform inv fs cv =
    if spanBad c.av (stuSizes inv (bsizeOf c.t.bsize) (c.fmt fs) (c.t.conv.getD cv.toNat 0)).1 then c.stop 0x25 c.slot c.av.toNat
    else if spanBad c.bv (stuSizes inv (bsizeOf c.t.bsize) (c.fmt fs) (c.t.conv.getD cv.toNat 0)).2 then c.stop 0x25 c.slot c.bv.toNat
    else c.waits (.stu false inv (c.fmt fs) (c.t.conv.getD cv.toNat 0) c.av.toNat c.bv.toNat) (c.t.cyc + 1) := by
  rw [Ctx.transform]
  rfl

/-! Lanes of DOMAIN 1. -/

/-- The token that stands at a position is the one found there. -/
theorem Ctx.eq_of_at {c : Ctx} {q : Pos} {x d : DTok} (hx : c.at q = some (.data x)) (hd : c.at q = some (.data d)) : d = x :=
  Tok.data.inj (Option.some.inj (hd.symm.trans hx))

section
variable {c : Ctx} {q : Pos} {x : DTok} (hx : c.at q = some (.data x))
include hx

/-- A position at which no record of DOMAIN 0 stands. -/
theorem Ctx.badDomain_past (hd : x.kind = 0 → x.domain = true) (ps : List Pos) : c.badDomain true (q :: ps) = c.badDomain true ps :=
  Ctx.badDomain_skip fun d hd' hr => by
    obtain rfl := Ctx.eq_of_at hx hd'
    exact hd (beq_iff_eq.1 hr)

theorem Ctx.badDomain_here (hk : x.kind = 0) (hd : x.domain = false) (ps : List Pos) :
    c.badDomain true (q :: ps) = some (c.stop 0x38 (c.slot + q.code * 2 ^ 8) x.side) :=
  Ctx.badDomain_cons hx (beq_iff_eq.2 hk) hd

theorem Ctx.nonRecord_past (hk : x.kind = 0) (ps : List Pos) : c.nonRecord (q :: ps) = c.nonRecord ps :=
  Ctx.nonRecord_skip fun d hd => by
    obtain rfl := Ctx.eq_of_at hx hd
    exact beq_iff_eq.2 hk

theorem Ctx.nonRecord_here (hk : x.kind ≠ 0) (ps : List Pos) : c.nonRecord (q :: ps) = some x :=
  Ctx.nonRecord_cons hx (beq_eq_false_iff_ne.2 hk)

end

section
variable {s : State} {c : Ctx} {p : Pred} {ta tb : Target} {fs : BitVec 2} {x : DTok} (h : s.Acts c p) (hx : c.a = some (.data x))
include h hx

theorem cmac_stops (hk : x.kind = 0) (hd : x.domain = false) :
    exec (.cmac p fs ta tb) s = .next (s.issuing c true ta tb (c.stop 0x38 c.slot x.side)) := by
  refine onTile_issues h ?_
  dsimp only
  rw [Ctx.badDomain_here (q := .a) hx hk hd]
  rfl

/-- CMAC on a record of DOMAIN 1: its bins lie in the stores or they do not. -/
theorem cmac_record (hk : x.kind = 0) (hd : x.domain = true) : exec (.cmac p fs ta tb) s = .next (s.issuing c true ta tb
    (if (cmacBins (c.fmt fs) c.bv).any fun b => b.2.1 + binBytes (c.fmt fs) > 0x30000 || b.2.2 + 8 > 0x4000 then c.stop 0x3C c.slot c.bv.toNat
      else c.waits (.cmac (c.fmt fs) x.pay c.bv (c.t.cyc + 4)) (c.t.cyc + 4))) := by
  refine onTile_issues h ?_
  have hr : c.ad.isRecord = true := by
    rw [Ctx.ad_of hx]
    exact beq_iff_eq.2 hk
  dsimp only
  rw [Ctx.badDomain_past (q := .a) hx fun _ => hd, Ctx.badDomain_none (ps := []) fun _ hq => nomatch hq]
  exact (if_pos hr).trans (by rw [Ctx.ad_of hx]; rfl)

theorem cmac_passes (hk : x.kind ≠ 0) : exec (.cmac p fs ta tb) s = .next (s.issuing c true ta tb
    (c.send2 4 ta (if x.isStop then Tok.stop false x.level else Tok.order) tb Tok.order)) := by
  refine onTile_issues h ?_
  have hr : ¬ c.ad.isRecord = true := by
    rw [Ctx.ad_of hx]
    exact fun hr => hk (beq_iff_eq.1 hr)
  dsimp only
  rw [Ctx.badDomain_past (q := .a) hx fun h0 => absurd h0 hk, Ctx.badDomain_none (ps := []) fun _ hq => nomatch hq]
  exact (if_neg hr).trans (by rw [Ctx.ad_of hx])

end

section
variable {s : State} {c : Ctx} {p : Pred} {ta tb : Target} {ps : List Pos} {lat : Nat} {r : Ctx → Payload × Fl} (h : s.Acts c p)
include h

theorem onTile_lanes_stop {j : Issue} (hj : c.badDomain true ps = some j) :
    onTile s true p ta tb (fun c => c.lanesOf true lat ta tb ps (r c)) = .next (s.issuing c true ta tb j) :=
  onTile_issues h (by rw [Ctx.lanesOf, hj])

theorem onTile_lanes_nonRecord {d : DTok} (hb : c.badDomain true ps = none) (hn : c.nonRecord ps = some d) :
    onTile s true p ta tb (fun c => c.lanesOf true lat ta tb ps (r c)) = .next (s.sendsData c lat ta tb (.data d)) :=
  onTile_issues h (by rw [Ctx.lanesOf, hb, hn])

end

/-- Settles O48: transforms by their two spans, lanes of DOMAIN 1 by the KIND and DOMAIN of each token in turn. -/
theorem spectralIssues : Obligations.SpectralIssues := by
  intro s c p fs cv ta tb d x h f w conv b fits go
  have fwd := c.transform_eq (inv := false) (fs := fs) (cv := cv)
  have bwd := c.transform_eq (inv := true) (fs := fs) (cv := cv)
  refine ⟨fun h1 h2 => exec_issues h rfl (fwd.trans ((if_neg (spanBad_false h1)).trans (if_neg (spanBad_false h2)))),
    fun h1 h2 => exec_issues h rfl (bwd.trans ((if_neg (spanBad_false h1)).trans (if_neg (spanBad_false h2)))), ?_, fun hx => ?_, fun hr => ?_⟩
  · simp only [List.forall_mem_cons]
    exact ⟨⟨fun h1 => exec_issues h rfl (fwd.trans (if_pos (spanBad_iff.2 h1))),
        fun h1 h2 => exec_issues h rfl (fwd.trans ((if_neg (spanBad_false h1)).trans (if_pos (spanBad_iff.2 h2))))⟩,
      ⟨fun h1 => exec_issues h rfl (bwd.trans (if_pos (spanBad_iff.2 h1))),
        fun h1 h2 => exec_issues h rfl (bwd.trans ((if_neg (spanBad_false h1)).trans (if_pos (spanBad_iff.2 h2))))⟩, fun _ hi => nomatch hi⟩
  · have none_ : c.badDomain true [] = none := Ctx.badDomain_none fun _ hq => nomatch hq
    refine ⟨fun hk hd => ⟨fun hs => ?_, fun hs => ?_⟩, fun hk hd => ⟨cmac_stops h hx hk hd, ?_, ?_⟩, fun hk => ?_, fun hk h1 => ?_,
      fun hk hy => ⟨?_, ?_⟩, fun y hd hy => ⟨fun hk h0 => ?_, fun hk hk' => ?_⟩, onTile_issues h (by dsimp only; rw [Ctx.ad_of hx])⟩
    · refine (cmac_record h hx hk hd).trans ?_
      rw [if_neg]
      simp only [List.any_eq_true, Bool.or_eq_true, decide_eq_true_eq, not_exists, not_and, not_or, Nat.not_lt, gt_iff_lt]
      exact hs
    · refine (cmac_record h hx hk hd).trans ?_
      rw [if_pos]
      simp only [List.any_eq_true, Bool.or_eq_true, decide_eq_true_eq, gt_iff_lt]
      exact hs
    · exact onTile_lanes_stop h (Ctx.badDomain_here (q := .a) hx hk hd [.b])
    · exact onTile_lanes_stop h (Ctx.badDomain_here (q := .a) hx hk hd [])
    · refine (cmac_passes h hx (by rw [hk]; decide)).trans ?_
      rw [show x.isStop = true from beq_iff_eq.2 hk]
      rfl
    · refine (cmac_passes h hx hk).trans ?_
      rw [show x.isStop = false from beq_eq_false_iff_ne.2 h1]
      rfl
    · refine onTile_lanes_nonRecord h ?_ (Ctx.nonRecord_here (q := .a) hx hk [.b])
      rw [Ctx.badDomain_past (q := .a) hx fun h0 => absurd h0 hk, Ctx.badDomain_skip (q := .b) fun y hb hr => hy y hb (beq_iff_eq.1 hr), none_]
    · exact onTile_lanes_nonRecord h ((Ctx.badDomain_past (q := .a) hx (fun h0 => absurd h0 hk) []).trans none_) (Ctx.nonRecord_here (q := .a) hx hk [])
    · exact onTile_lanes_stop h ((Ctx.badDomain_past (q := .a) hx hd [.b]).trans (Ctx.badDomain_here (q := .b) hy hk h0 []))
    · refine onTile_lanes_nonRecord h ?_ ((Ctx.nonRecord_past (q := .a) hx hk [.b]).trans (Ctx.nonRecord_here (q := .b) hy hk' []))
      rw [Ctx.badDomain_past (q := .a) hx hd, Ctx.badDomain_past (q := .b) hy fun h0 => absurd h0 hk', none_]
  · exact ⟨onTile_issues h (hr.lanesOf _ ta tb _), onTile_issues h ((hr.mono (by decide)).lanesOf _ ta tb _)⟩

/-- Settles O49: by what R165 says of the packet. -/
theorem engineRequests : Obligations.EngineRequests := by
  intro s c p ta tb named shelf h pkt near far
  refine ⟨fun hp => ?_, fun f hp => ?_, ?_, ?_, ?_, ?_⟩
  · show execXreq p ta tb s = _
    refine onTileS_issues h ?_
    dsimp only
    rw [show pktBad (c.bd.pay ++ c.ad.pay) = none from hp]
    rfl
  · show execXreq p ta tb s = _
    refine onTileS_issues h ?_
    dsimp only
    rw [show pktBad (c.bd.pay ++ c.ad.pay) = some f from hp]
  · show execDrvk p ta tb named shelf s = _
    refine onTileS_issues h ?_
    simp only [Ctx.request, beq_iff_eq, Bool.false_eq_true, if_false]
    rfl
  · exact (onTileS_issues h rfl : execGtatt p ta tb s = _)
  · exact (onTileS_issues h rfl : execGtdet p ta tb s = _)
  · exact (onTileS_issues h rfl : execGtfld p ta tb s = _)

end Sys2Proof.Machine
end

section

-- One proof at a time: the whole text then stays within the memory of a check.
set_option Elab.async false

/-! Nullified instructions: the proof of O50. -/

namespace Sys2Proof.Machine

/-- Settles O50: each instruction is an issue of its tile, with the order tokens that its meaning names. -/
theorem nullifiedInstructions : Obligations.NullifiedInstructions := by
  refine ⟨fun s c p ta tb b10x b12x b12y b16x b1x b1y b20x b24x b2x b2y b32x b3x b3y b4x b5x b6x b6y b8x h => ?_,
    fun s c p lq sq gq ta tb b16x b1x b21x b2x b2y b3x b4x b5x b6x b6y h => ?_⟩
  · exact ⟨onTile_nulls h _ _ _ _, onTile_nulls h _ _ _ _, (onTileS_nulls h _ .neither _ _ _ : execExitx p s = _), onTile_nulls h _ _ _ _,
      onTile_nulls h _ _ _ _, onTile_nulls h _ _ _ _, onTile_nulls h _ _ _ _, onTile_nulls h _ _ _ _, onTile_nulls h _ _ _ _,
      onTile_nulls h _ _ _ _, onTile_nulls h _ _ _ _, onTile_nulls h _ _ _ _, onTile_nulls h _ _ _ _, onTile_nulls h _ _ _ _,
      onTile_nulls h _ _ _ _, onTile_nulls h _ _ _ _, onTile_nulls h _ _ _ _, onTile_nulls h _ _ _ _, onTile_nulls h _ _ _ _,
      onTile_nulls h _ _ _ _, onTile_nulls h _ _ _ _, onTile_nulls h _ _ _ _, onTile_nulls h _ _ _ _, onTile_nulls h _ _ _ _,
      onTile_nulls h _ _ _ _, onTile_nulls h _ _ _ _, onTile_nulls h _ _ _ _, onTile_nulls h _ _ _ _, onTile_nulls h _ _ _ _,
      onTile_nulls h _ _ _ _, onTile_nulls h _ _ _ _, onTile_nulls h _ _ _ _, onTile_nulls h _ _ _ _, onTile_nulls h _ _ _ _,
      onTile_nulls h _ _ _ _, onTile_nulls h _ _ _ _, onTile_nulls h _ _ _ _, onTile_nulls h _ _ _ _, onTile_nulls h _ _ _ _,
      onTile_nulls h _ _ _ _, onTile_nulls h _ _ _ _, onTile_nulls h _ _ _ _, onTile_nulls h _ _ _ _, onTile_nulls h _ _ _ _,
      onTile_nulls h _ _ _ _, onTile_nulls h _ _ _ _, onTile_nulls h _ _ _ _, onTile_nulls h _ _ _ _, onTile_nulls h _ _ _ _,
      onTile_nulls h _ _ _ _, onTile_nulls h _ _ _ _, onTile_nulls h _ _ _ _, onTile_nulls h _ _ _ _, onTile_nulls h _ _ _ _,
      onTile_nulls h _ _ _ _, onTile_nulls h _ _ _ _, onTile_nulls h _ _ _ _, onTile_nulls h _ _ _ _, onTile_nulls h _ _ _ _,
      onTile_nulls h _ _ _ _, onTile_nulls h _ _ _ _, onTile_nulls h _ _ _ _, onTile_nulls h _ _ _ _, onTile_nulls h _ _ _ _,
      onTile_nulls h _ _ _ _, onTile_nulls h _ _ _ _, onTile_nulls h _ _ _ _, onTile_nulls h _ _ _ _, onTile_nulls h _ _ _ _,
      onTile_nulls h _ _ _ _, onTile_nulls h _ _ _ _, onTile_nulls h _ _ _ _, onTile_nulls h _ _ _ _, onTile_nulls h _ _ _ _,
      onTile_nulls h _ _ _ _, onTile_nulls h _ _ _ _, onTile_nulls h _ _ _ _, onTile_nulls h _ _ _ _, onTile_nulls h _ _ _ _,
      onTile_nulls h _ _ _ _, onTile_nulls h _ _ _ _, onTile_nulls h _ _ _ _, onTile_nulls h _ _ _ _, onTile_nulls h _ _ _ _,
      onTile_nulls h _ _ _ _, onTile_nulls h _ _ _ _, onTile_nulls h _ _ _ _, onTile_nulls h _ _ _ _, onTile_nulls h _ _ _ _,
      onTile_nulls h _ _ _ _, onTile_nulls h _ _ _ _, onTile_nulls h _ _ _ _, onTile_nulls h _ _ _ _, onTile_nulls h _ _ _ _,
      onTile_nulls h _ _ _ _, onTile_nulls h _ _ _ _, onTile_nulls h _ _ _ _, onTile_nulls h _ _ _ _, onTile_nulls h _ _ _ _,
      onTile_nulls h _ _ _ _, onTile_nulls h _ _ _ _, onTile_nulls h _ _ _ _, onTile_nulls h _ _ _ _, onTile_nulls h _ _ _ _,
      onTile_nulls h _ _ _ _, onTile_nulls h _ _ _ _, onTile_nulls h _ _ _ _,
      (onTileS_nulls h _ .neither _ _ _ : execVqnt p b2x ta tb b6x b6y b2y s = _),
      (onTileS_nulls h _ .neither _ _ _ : execVdqnt p b2x ta tb b6x b6y b2y s = _), onTile_nulls h _ _ _ _,
      (onTileS_nulls h _ .neither _ _ _ : execKrd p ta tb b6x s = _), (onTileS_nulls h _ .neither _ _ _ : execKwr p ta tb b6x s = _),
      (onTileS_nulls h _ .neither _ _ _ : execAcrd p ta tb b6x b4x s = _),
      (onTileS_nulls h _ .neither _ _ _ : execAcwr p ta tb b6x b4x s = _), (onTileS_nulls h _ .neither _ _ _ : execAcclr p ta tb s = _),
      (onTileS_nulls h _ .neither _ _ _ : execOrdj p ta tb s = _), (onTileS_nulls h _ .neither _ _ _ : execBell p ta tb b6x s = _),
      (onTileS_nulls h _ .neither _ _ _ : execBella p ta tb b6x s = _), (onTileS_nulls h _ .neither _ _ _ : execAbstn p ta tb b6x s = _),
      (onTileS_nulls h _ .neither _ _ _ : execQpush p ta tb b6x s = _), (onTileS_nulls h _ .neither _ _ _ : execQpop p ta tb b6x s = _),
      (onTileS_nulls h _ .neither _ _ _ : execQlen p ta tb s = _), (onTileS_nulls h _ .neither _ _ _ : execLnch p ta tb b6x s = _),
      (onTileS_nulls h _ .neither _ _ _ : execSigc p ta tb b16x s = _), (onTileS_nulls h _ .neither _ _ _ : execWaitc p ta tb s = _),
      onTile_nulls h _ _ _ _, onTile_nulls h _ _ _ _, onTile_nulls h _ _ _ _, onTile_nulls h _ _ _ _, onTile_nulls h _ _ _ _,
      onTile_nulls h _ _ _ _, onTile_nulls h _ _ _ _, onTile_nulls h _ _ _ _,
      (onTileS_nulls h _ .neither _ _ _ : execTake p ta tb b3x s = _), onTile_nulls h _ _ _ _, onTile_nulls h _ _ _ _,
      onTile_nulls h _ _ _ _, onTile_nulls h _ _ _ _, onTile_nulls h _ _ _ _, onTile_nulls h _ _ _ _, onTile_nulls h _ _ _ _,
      onTile_nulls h _ _ _ _, onTile_nulls h _ _ _ _, onTile_nulls h _ _ _ _, onTile_nulls h _ _ _ _, onTile_nulls h _ _ _ _,
      onTile_nulls h _ _ _ _, onTile_nulls h _ _ _ _, onTile_nulls h _ _ _ _, onTile_nulls h _ _ _ _, onTile_nulls h _ _ _ _,
      onTile_nulls h _ _ _ _, onTile_nulls h _ _ _ _, (onTileS_nulls h _ .neither _ _ _ : execXreq p ta tb s = _),
      (onTileS_nulls h _ .neither _ _ _ : execDrvk p ta tb b1x b6x s = _), (onTileS_nulls h _ .neither _ _ _ : execGtatt p ta tb s = _),
      (onTileS_nulls h _ .neither _ _ _ : execGtdet p ta tb s = _), (onTileS_nulls h _ .neither _ _ _ : execGtfld p ta tb s = _),
      onTile_nulls h _ _ _ _, (onTileS_nulls h _ .neither _ _ _ : execBrk p b16x s = _), onTile_nulls h _ _ _ _, onTile_nulls h _ _ _ _,
      (onTileS_nulls h _ .neither _ _ _ : execCntrd p ta tb b3x b3y b1x b1y s = _), onTile_nulls h _ _ _ _, onTile_nulls h _ _ _ _,
      onTile_nulls h _ _ _ _, (onTileS_nulls h _ .neither _ _ _ : execFwsvc p ta tb b8x s = _)⟩
  · exact ⟨(onTileS_nulls h _ .both _ _ _ : execSts p sq ta tb b2x b21x s = _),
      (onTileS_nulls h _ .both _ _ _ : execStsv p sq ta tb b21x s = _),
      (onTileS_nulls h _ .both _ _ _ : execStsx p sq ta tb b2x b21x s = _), (onTileS_nulls h _ .both _ _ _ : execFeset p ta tb b21x s = _),
      (onTileS_nulls h _ .both _ _ _ : execFeclr p ta tb b21x s = _), (onTileS_nulls h _ .both _ _ _ : execWick p ta tb b4x b6x b6y s = _),
      (onTileS_nulls h _ .both _ _ _ : execWadv p ta tb b4x b6x s = _),
      (onTileS_nulls h _ .both _ _ _ : execGst p gq ta tb b3x b2x b21x s = _),
      (onTileS_nulls h _ .both _ _ _ : execGstv p gq ta tb b3x b21x s = _), (onTileS_nulls h _ .both _ _ _ : execFence p ta tb b3x s = _),
      (onTileS_nulls h _ .both _ _ _ : execBmwait p ta tb b21x s = _), (onTileS_nulls h _ .both _ _ _ : execWlds p b2x ta tb b5x s = _),
      (onTileS_nulls h _ .both _ _ _ : execArow p b2x ta tb b6x b16x s = _),
      (onTileS_nulls h _ .both _ _ _ : execXfwd p b2x ta tb b2y s = _), (onTileS_nulls h _ .both _ _ _ : execXinv p b2x ta tb b2y s = _),
      (onTileS_nulls h _ .second _ _ _ : execLds p lq ta tb b2x b1x b21x s = _),
      (onTileS_nulls h _ .second _ _ _ : execLdsv p lq ta tb b21x s = _),
      (onTileS_nulls h _ .second _ _ _ : execLdsx p lq ta tb b2x b1x b21x s = _),
      (onTileS_nulls h _ .second _ _ _ : execFetst p ta tb b21x s = _),
      (onTileS_nulls h _ .second _ _ _ : execGld p gq ta tb b3x b2x b21x s = _),
      (onTileS_nulls h _ .second _ _ _ : execGldv p gq ta tb b3x b21x s = _),
      (onTileS_nulls h _ .second _ _ _ : execAadd p gq ta tb b3x b2x b21x s = _),
      (onTileS_nulls h _ .second _ _ _ : execAand p gq ta tb b3x b2x b21x s = _),
      (onTileS_nulls h _ .second _ _ _ : execAor p gq ta tb b3x b2x b21x s = _),
      (onTileS_nulls h _ .second _ _ _ : execAxor p gq ta tb b3x b2x b21x s = _),
      (onTileS_nulls h _ .second _ _ _ : execAmin p gq ta tb b3x b2x b21x s = _),
      (onTileS_nulls h _ .second _ _ _ : execAmax p gq ta tb b3x b2x b21x s = _),
      (onTileS_nulls h _ .second _ _ _ : execAminu p gq ta tb b3x b2x b21x s = _),
      (onTileS_nulls h _ .second _ _ _ : execAmaxu p gq ta tb b3x b2x b21x s = _),
      (onTileS_nulls h _ .second _ _ _ : execAxch p gq ta tb b3x b2x b21x s = _),
      (onTileS_nulls h _ .second _ _ _ : execAcas p gq ta tb b3x b2x b6x b21x s = _),
      (onTileS_nulls h _ .second _ _ _ : execAfadd p gq ta tb b3x b21x s = _),
      (onTileS_nulls h _ .second _ _ _ : execAtas p gq ta tb b3x b21x s = _)⟩

end Sys2Proof.Machine
end

section

-- One proof at a time: the whole text then stays within the memory of a check.
set_option Elab.async false

/-! What the outside does to the machine: the proof of O57. -/

namespace Sys2Proof.Machine

/-! An input's row: its effect on the state, what nothing receives in S3, and what firmware does. -/

theorem State.firmware_ready {s : State} (hb : s.boot = .ready) (hp : s.power ≠ 3) (g : State → State) : s.firmware g = g s :=
  if_pos (Bool.and_eq_true_iff.2 ⟨beq_iff_eq.2 hb, bne_iff_ne.2 hp⟩)

section
variable {s t : State} {i : Input} {f : Input → Option (State → State)} (hc : s.cursor = .input i)
include hc

theorem onInput_ends {g : State → State} (e : f i = some g) (eg : g s.begun = t) : onInput s f = .next (s.commit t) := by
  rw [onInput, hc]
  dsimp only
  rw [e, ← eg]
  rfl

/-- In S3 nothing receives it (R380). -/
theorem onInput_asleep {g : State → State} (e : f i = some fun s => if s.power == 3 then s else g s) (hp : s.power = 3) :
    onInput s f = .next (s.commit s.begun) :=
  onInput_ends hc e (if_pos (beq_iff_eq.2 hp))

theorem onInput_awake {g : State → State} (e : f i = some fun s => if s.power == 3 then s else g s) (hp : s.power ≠ 3)
    (eg : g s.begun = t) : onInput s f = .next (s.commit t) :=
  onInput_ends hc e ((if_neg fun h3 => hp (beq_iff_eq.1 h3)).trans eg)

/-- Firmware does nothing in S3. -/
theorem onInput_firmware_asleep {g : State → State} (e : f i = some fun s => s.firmware g) (hp : s.power = 3) :
    onInput s f = .next (s.commit s.begun) := by
  refine onInput_ends hc e (if_neg ?_)
  rw [show s.begun.power = 3 from hp]
  exact ne_true_of_eq_false (Bool.and_false _)

theorem onInput_firmware {g : State → State} (e : f i = some fun s => s.firmware g) (hb : s.boot = .ready) (hp : s.power ≠ 3)
    (eg : g s.begun = t) : onInput s f = .next (s.commit t) :=
  onInput_ends hc e ((State.firmware_ready (s := s.begun) hb hp g).trans eg)

end

/-! Waking (R380). -/

theorem State.woken_of_awake {s : State} (h : s.power ≠ 3) : s.woken = s := if_neg fun h3 => h (beq_iff_eq.1 h3)

theorem State.woken_of_asleep {s : State} (h : s.power = 3) : s.woken.power = 0 ∧ s.woken.now = s.now + 2000 * tUs := by
  rw [State.woken, if_pos (beq_iff_eq.2 h)]
  exact ⟨rfl, rfl⟩

theorem State.woken_paddock? (s : State) (n : Nat) : s.woken.paddock? n = s.paddock? n := by
  rw [State.woken]
  split <;> rfl

/-! What arrives on a peer port (R376). -/

section
variable {p : Paddock} {port : Nat}

theorem Paddock.filter_admits (h : p.admits port = true) : ((some p).filter fun x => x.admits port) = some p := by
  rw [Option.filter, if_pos h]

theorem Paddock.filter_refuses (h : p.admits port = false) : ((some p).filter fun x => x.admits port) = none := by
  rw [Option.filter, if_neg (ne_true_of_eq_false h)]

end

/-- The status register (R368). -/
theorem State.register_status (s : State) : s.register 0x0030 =
    BitVec.ofNat 64 ((if s.boot = .ready then 1 else 0) + (if s.boot = .ready ∨ s.boot = .bootOk then 2 else 0) + 16 * s.power) := by
  show BitVec.ofNat 64 ((s.boot == .ready).toNat + (s.boot == .ready || s.boot == .bootOk).toNat * 2 + s.power * 16) = _
  rw [Nat.mul_comm 16]
  cases s.boot <;> rfl

/-- Settles O57: each input is its row's effect, by what the input carries and whether the package is powered. -/
theorem inputEvents : Obligations.InputEvents := by
  intro s off port q d sh v n id val a r find cap h ok b gets ends woke
  refine ⟨fun hp => State.woken_of_awake (s := b) hp, fun hp => State.woken_of_asleep (s := b) hp, fun hg => ?_, fun hg => onInput_ends hg rfl rfl,
    State.register_status b, fun hg => ⟨fun hn => ?_, fun p hn => ?_⟩, fun hp => ?_, fun hg hp p hn => ⟨fun ha => ?_, fun ha => ?_⟩,
    fun hg hp p hn => ⟨fun ha => ?_, fun ha => ?_⟩, fun hg hp tag po pd qu rc ho => ?_, fun hg hm => ?_, fun hg => onInput_ends hg rfl rfl,
    fun hg hp => onInput_awake hg rfl hp rfl, fun hg hp => ?_, fun hg hp => onInput_awake hg rfl hp rfl, fun hg hp => onInput_awake hg rfl hp rfl,
    fun hg hp => onInput_awake hg rfl hp rfl, fun hg hp hd hr => ?_, fun hg hv => ?_, fun hb hp => ?_⟩
  · refine onInput_ends hg rfl ?_
    dsimp only
    split
    · rfl
    · rfl
    · rfl
    · rfl
    · rfl
    · rfl
    next h0 h1 h2 h3 h4 h5 => rw [if_neg h0, if_neg h1, if_neg h2, if_neg h3, if_neg h4, if_neg h5]
  · refine onInput_ends hg rfl ?_
    dsimp only
    rw [State.woken_paddock?, show b.paddock? (fld a.addr 38 4) = none from hn]
  · refine onInput_ends hg rfl ?_
    dsimp only
    rw [State.woken_paddock?, show b.paddock? (fld a.addr 38 4) = some p from hn]
  · simp only [List.forall_mem_cons]
    exact ⟨fun hg => onInput_asleep hg rfl hp, fun hg => onInput_asleep hg rfl hp, fun hg => onInput_asleep hg rfl hp,
      fun hg => onInput_asleep hg rfl hp, fun hg => onInput_asleep hg rfl hp, fun hg => onInput_asleep hg rfl hp,
      fun hg => onInput_asleep hg rfl hp, fun hg => onInput_asleep hg rfl hp, fun hg => onInput_asleep hg rfl hp,
      fun hg => onInput_firmware_asleep hg rfl hp, fun hg => onInput_firmware_asleep hg rfl hp, fun _ hx => nomatch hx⟩
  · refine onInput_awake hg rfl hp ?_
    rw [show b.paddock? (fld a.addr 40 4) = some p from hn, Paddock.filter_admits ha]
  · refine onInput_awake hg rfl hp ?_
    rw [show b.paddock? (fld a.addr 40 4) = some p from hn, Paddock.filter_refuses ha]
  · refine onInput_awake hg rfl hp ?_
    dsimp only
    rw [show b.paddock? d = some p from hn, Paddock.filter_admits ha]
  · refine onInput_awake hg rfl hp ?_
    dsimp only
    rw [show b.paddock? d = some p from hn, Paddock.filter_refuses ha]
  · refine onInput_awake hg rfl hp ?_
    rw [show b.outstanding = [.peerLaunch tag id po pd qu rc none] from ho]
    simp only [List.find?_cons, beq_self_eq_true, List.filter_cons, bne_self_eq_false, Bool.false_eq_true, if_false, List.filter_nil]
    rfl
  · exact onInput_ends hg rfl (if_neg (ne_true_of_eq_false hm))
  · cases find <;> exact onInput_awake hg rfl hp rfl
  · refine onInput_awake hg rfl hp ?_
    have hn : ¬ (!(s.peer port).down || decide (s.now < (s.peer port).retrainAt + 10 * tS)) = true := by
      rw [hd, Bool.not_true, Bool.false_or, decide_eq_true_eq]
      exact Nat.not_lt.2 hr
    refine (if_neg hn).trans ?_
    cases ok <;> rfl
  · refine onInput_ends hg rfl (if_pos ?_)
    rw [Bool.or_eq_true, decide_eq_true_eq, decide_eq_true_eq]
    exact hv
  · refine ⟨fun hg => onInput_firmware hg rfl hb hp rfl, fun hg hv => onInput_firmware hg rfl hb hp (if_pos hv),
      fun hg hv => onInput_firmware hg rfl hb hp (if_pos hv), fun hg hs hv => onInput_firmware hg rfl hb hp ?_,
      fun hg hv => onInput_firmware hg rfl hb hp ?_, fun hg k ks hk => onInput_firmware hg rfl hb hp ?_, fun hg hv => onInput_ends hg rfl ?_,
      fun hg hv => onInput_firmware hg rfl hb hp (if_pos hv), fun hg hq => onInput_firmware hg rfl hb hp (if_pos hq)⟩
    · rw [if_neg fun h7 => hs (beq_iff_eq.1 h7), decide_eq_true hv]
      rfl
    · exact if_pos hv
    · rw [show (b.kilns.filter fun k => k.holds d sh) = k :: ks from hk]
    · have hoff : ¬ (decide (v < 700000) || decide (880000 < v)) = true := by
        rw [Bool.or_eq_true, decide_eq_true_eq, decide_eq_true_eq]
        omega
      have hon : (decide (v < 760000) || decide (840000 < v)) = true := by
        rw [Bool.or_eq_true, decide_eq_true_eq, decide_eq_true_eq]
        omega
      refine (if_neg hoff).trans ?_
      rw [State.firmware_ready (s := b) hb hp]
      exact if_pos hon

end Sys2Proof.Machine
end

section

-- One proof at a time: the whole text then stays within the memory of a check.
set_option Elab.async false

/-! The events of tiles, links, ticks, RSU channels, memory tiles and the STU: the proof of O58. -/

namespace Sys2Proof.Machine

/-! Events that are due, by what the cursor names. -/

section
variable {s t : State}

theorem State.happen_ends {due : Bool} {f : State → State} (h : due = true) (e : f s.begun = t) : s.happen due f = .next (s.commit t) := by
  rw [State.happen_due h, e]

theorem onWhere_ends {w : Where} {due : Where → Bool} {f : State → Where → State} (hw : s.curWhere = some w) (hl : s.tileLive w.k w.t = true)
    (h : due w = true) (e : f s.begun w = t) : s.onWhere due f = .next (s.commit t) := by
  rw [State.onWhere, hw]
  exact State.happen_ends (Bool.and_eq_true_iff.2 ⟨hl, h⟩) e

theorem onLink_ends {k : Kiln} {n : Nat} {l : LinkSt} {due : Kiln → LinkSt → Bool} {f : State → Kiln → Nat → LinkSt → State}
    (hc : s.curLink = some (k, n, l)) (hk : k.clocked s.now = true) (h : due k l = true) (e : f s.begun k n l = t) :
    s.onLink due f = .next (s.commit t) := by
  rw [State.onLink, hc]
  exact State.happen_ends (Bool.and_eq_true_iff.2 ⟨hk, h⟩) e

end

/-! Events of a task of a tile. -/

section
variable {s t : State} {k : Kiln} {tl : TileSt} {n : Nat} (hc : s.curTask = some (k, tl, n))
include hc

theorem exec_blockFire (hl : s.tileLive k tl = true) (hf : s.mayFire k tl n = true) :
    exec .blockFire s = .next (s.commit (s.begun.fire k.id tl.id n)) := by
  show execBlockFire s = _
  rw [execBlockFire, hc]
  exact State.happen_ends (Bool.and_eq_true_iff.2 ⟨hl, hf⟩) rfl

theorem exec_blockEnd {x : Exec} (hl : s.tileLive k tl = true) (hx : tl.exec? n = some x) (he : s.ends k tl x = true) :
    exec .blockEnd s = .next (s.commit (s.begun.endBlock k.id tl.id n)) := by
  show execBlockEnd s = _
  rw [execBlockEnd, hc]
  refine State.happen_ends (Bool.and_eq_true_iff.2 ⟨hl, ?_⟩) rfl
  rw [hx]
  exact he

theorem exec_tick (hk : k.clocked s.now = true) (hl : tl.cycAt = s.now) (ht : (tl.tick.any fun x => x.due tl.cyc) = true) :
    exec .tick s = .next (s.commit (s.begun.modTile k.id tl.id fun u => { u with tick := u.tick.map fun x => { x with
      fromCyc := u.cyc + 1
      queue := if x.queue.length < x.slots then x.queue ++ [((u.cyc - x.phase) / max 1 x.period, s.now)] else x.queue } })) := by
  show execTick s = _
  rw [execTick, hc]
  exact State.happen_ends (Bool.and_eq_true_iff.2 ⟨Bool.and_eq_true_iff.2 ⟨hk, beq_iff_eq.2 hl⟩, ht⟩) rfl

/-- The write port of a memory tile takes a token. -/
theorem exec_memoryTilePort_takes {l : Nat} {d : DTok} {u : State} {k' : Kiln} (h0 : n = 0) (hl : s.tileLive k tl = true)
    (ht : s.portTakes k tl = true) (hi : k.portIn tl.id = some l)
    (hv : (s.begun.modTile k.id tl.id fun x => { x with dataIssued := true }).vcPop k.id tl.id (.link l) = (some (.data d), u))
    (hr : d.isRaddle = false) (hk : u.kiln? k.id = some k') : exec .memoryTilePort s = .next (s.commit (u.portTake k' tl.id d)) := by
  show execMemoryTilePort s = _
  rw [execMemoryTilePort, hc, h0]
  refine State.happen_ends (Bool.and_eq_true_iff.2 ⟨hl, ht⟩) ?_
  dsimp only
  rw [hi]
  dsimp only
  rw [hv]
  dsimp only
  rw [hr, if_neg Bool.false_ne_true, hk]

/-- The read port of a memory tile sends one. -/
theorem exec_memoryTilePort_sends {v : Option Nat} {l : Nat} {d : DTok} (h0 : n ≠ 0) (hl : s.tileLive k tl = true)
    (hs : s.portSends k tl = some (v, l, d)) (hb : s.begun.portSends k tl = some (v, l, d)) :
    exec .memoryTilePort s = .next (s.commit (s.begun.unitSend k l (.port v) d false)) := by
  show execMemoryTilePort s = _
  rw [execMemoryTilePort, hc]
  dsimp only
  rw [if_neg fun h => h0 (beq_iff_eq.1 h)]
  refine State.happen_ends (Bool.and_eq_true_iff.2 ⟨hl, by rw [hs]; rfl⟩) ?_
  rw [hb]

end

/-! Events of an issued instruction. -/

section
variable {s : State} {w : Where} (hw : s.curWhere = some w)
include hw

theorem exec_waitSatisfied (ha : s.actsNow w = true) (hr : s.workReady w = true) :
    exec .waitSatisfied s = .next (s.commit (s.begun.workDo w)) := by
  show execWaitSatisfied s = _
  rw [execWaitSatisfied, hw]
  exact State.happen_ends (Bool.and_eq_true_iff.2 ⟨ha, hr⟩) rfl

variable (hl : s.tileLive w.k w.t = true)
include hl

theorem exec_instructionComplete (hn : State.lateReady w = false) (hs : w.k.settles w.t w.p = true) :
    exec .instructionComplete s = .next (s.commit (s.begun.settle w.k.id w.t.id w.x.task w.p.slot)) := by
  show execInstructionComplete s = _
  refine onWhere_ends hw hl (Bool.or_eq_true_iff.2 (.inr hs)) ?_
  rw [hn, if_neg Bool.false_ne_true]

/-- Work that acts when it completes. -/
theorem exec_instructionComplete_late (hn : State.lateReady w = true) :
    exec .instructionComplete s = .next (s.commit ((s.begun.lateDo w).settle w.k.id w.t.id w.x.task w.p.slot)) := by
  show execInstructionComplete s = _
  refine onWhere_ends hw hl (Bool.or_eq_true_iff.2 (.inl hn)) ?_
  rw [hn, if_pos rfl]

theorem exec_timerDeadline {d : Word} (hd : w.p.work = .timer d) (ht : d.toNat ≤ w.t.cyc) :
    exec .timerDeadline s = .next (s.commit (s.begun.putPend w (w.p.last
      (w.p.both (Tok.val (BitVec.ofNat 64 w.t.cyc)) (w.t.cyc + 1)) (s.begun.inFlight w.p.deps)))) := by
  refine onWhere_ends hw hl ?_ rfl
  rw [State.timerReady, hd]
  exact decide_eq_true ht

theorem exec_fwsvcResult {svc at_ : Nat} {x : Word} (hd : w.p.work = .fwsvc svc x at_) (ht : at_ ≤ s.now) :
    exec .fwsvcResult s = .next (s.commit (s.begun.putPend w (w.p.last
      (w.p.both (Tok.val (s.begun.svcResult w svc x)) w.t.cyc) (s.begun.inFlight w.p.deps)))) := by
  show execFwsvcResult s = _
  refine onWhere_ends hw hl ?_ ?_
  · rw [State.svcReady, hd]
    exact decide_eq_true ht
  · rw [hd]

theorem exec_arowConsumed {row ea f wf bank : Nat} {got : List Payload} {c : Nat} {o : Option (List (List Nat))}
    (hd : w.p.work = .arow row ea f wf bank got c o) (hr : arowAddReady w row f got c o = true) :
    exec .arowConsumed s = .next (s.commit (s.begun.arowAddDo w row ea f wf bank got c o)) := by
  show execArowConsumed s = _
  refine onWhere_ends hw hl ?_ ?_
  · rw [hd]
    exact hr
  · rw [hd]

end

/-- The result of a firmware service (R249) by its number. -/
theorem State.svcResult_eq (s : State) (w : Where) (svc : Nat) (a : Word) : s.svcResult w svc a =
    if svc = 0 then a else if svc = 1 then BitVec.ofNat 64 s.timeNs
    else if svc = 2 then BitVec.ofNat 64 (s.die w.k.die).powerMw else BitVec.ofNat 64 (s.die w.k.die).capMw := by
  match svc with
  | 0 | 1 | 2 => rfl
  | _ + 3 => rfl

/-! Events of a link. -/

theorem exec_accessResponse {s : State} {k n : Nat} {a : Acc} (hc : s.cursor = .kiln k n) (ha : (s.accs.find? fun a => a.is k n) = some a)
    (hr : s.accReady a = true) : exec .accessResponse s = .next (s.commit (s.begun.accDo a)) := by
  show execAccessResponse s = _
  rw [execAccessResponse, hc]
  dsimp only
  rw [ha]
  exact State.happen_ends hr rfl

theorem LinkSt.cfg_enqueue (l : LinkSt) (now : Nat) (t : Tok) (half : Bool) : (l.enqueue now t half).cfg = l.cfg := by
  rw [LinkSt.enqueue]
  split
  · rfl
  · rw [LinkSt.placeGap]
    split
    · rfl
    · split <;> rfl

theorem LinkSt.cfg_enterStop (l : LinkSt) (now : Nat) (t : Tok) (after : Option Gap) : (l.enterStop now t after).1.cfg = l.cfg := by
  have he := l.cfg_enqueue now t false
  rw [LinkSt.enterStop.eq_def]
  generalize l.enqueue now t false = l' at he
  rw [← he]
  dsimp only
  generalize l'.pend = g
  cases g with
  | none => cases t.isStop <;> rfl
  | some g =>
    cases after with
    | none => cases t.isStop <;> rfl
    | some x => cases t.isStop <;> rfl

/-- A waiting stop enters once there is a place. -/
theorem exec_waitingStopEnters {s : State} {k : Kiln} {n : Nat} {l : LinkSt} {x : Tok} {after : Option Gap} {rest : List (Tok × Option Gap)}
    (hc : s.curLink = some (k, n, l)) (hk : k.clocked s.now = true) (hw : l.waiting = (x, after) :: rest) (ho : l.occupancy < l.cfg.slots) :
    exec .waitingStopEnters s = .next (s.commit
      ((s.begun.modLink k.id n fun _ => k.sendBack ({ l with waiting := rest }.enterStop s.now x after).1).postLink k.id l.cfg.dst
        ({ l with waiting := rest }.enterStop s.now x after).2)) := by
  show execWaitingStopEnters s = _
  refine onLink_ends hc hk ?_ ?_
  · rw [hw]
    exact decide_eq_true ho
  · dsimp only
    rw [hw]
    dsimp only
    rw [show s.begun.now = s.now from rfl]
    rw [LinkSt.cfg_enterStop]

/-! Events of a kiln. -/

section
variable {s : State} {k : Kiln} {n : Nat} (hc : s.curKiln = some (k, n))
include hc

theorem exec_stuTransformServe (hr : k.runs s.now = true) (hs : k.stuReads (k.stu n) s.now = true) :
    exec .stuTransformServe s = .next (s.commit (s.begun.stuRead k.id n)) := by
  show execStuTransformServe s = _
  rw [execStuTransformServe, hc]
  exact State.happen_ends (Bool.and_eq_true_iff.2 ⟨hr, hs⟩) rfl

theorem exec_stuResultWrite (hr : k.runs s.now = true) (hs : s.stuWrites k (k.stu n) = true) :
    exec .stuResultWrite s = .next (s.commit (s.begun.stuWrite k.id n)) := by
  show execStuResultWrite s = _
  rw [execStuResultWrite, hc]
  exact State.happen_ends (Bool.and_eq_true_iff.2 ⟨hr, hs⟩) rfl

theorem exec_signalPropagate (hk : k.clocked s.now = true) (hs : k.sigWrites.any (k.signalsDue s.now) = true) :
    exec .signalPropagate s = .next (s.commit (s.begun.modKiln k.id fun y => { y with
      signals := applySignals ((y.sigWrites.filter (k.signalsDue s.now)).map fun x => x.2.2) y.signals
      sigWrites := y.sigWrites.filter fun x => !k.signalsDue s.now x })) := by
  show execSignalPropagate s = _
  rw [execSignalPropagate, hc]
  exact State.happen_ends (Bool.and_eq_true_iff.2 ⟨hk, hs⟩) rfl

theorem exec_bellRelease {x : BellSt} {i : Nat} (hx : k.bells[n]? = some x) (hd : s.releaseDue k x = some i) (hr : k.runs s.now = true) :
    exec .bellRelease s = .next (s.commit (s.begun.release k.id n i)) := by
  show execBellRelease s = _
  rw [execBellRelease, hc]
  dsimp only
  rw [hx, Option.bind_some, hd]
  exact State.happen_ends hr rfl

theorem exec_bellTimeout {x : BellSt} {t task since : Nat} (hx : k.bells[n]? = some x) (ho : x.opened = some (t, task, since))
    (ha : k.awake s.now = true) (ht : x.timedOut = false) (hs : since + 280 * x.timeout ≤ s.now) :
    exec .bellTimeout s = .next (s.commit ((s.begun.modKiln k.id fun y => { y with bells := y.bells.set n { x with timedOut := true } }).stopBy k.id
      (k.faultReq t task ((k.tileD t).task task).block 0 0x06 0 (n + x.count * 2 ^ 16)
        (x.tally % 2 ^ 32 + (x.gen + 1) % 2 ^ 32 * 2 ^ 32)) t task 0 n)) := by
  show execBellTimeout s = _
  rw [execBellTimeout, hc]
  dsimp only
  rw [hx]
  dsimp only
  rw [ho]
  refine State.happen_ends (Bool.and_eq_true_iff.2 ⟨Bool.and_eq_true_iff.2 ⟨ha, ?_⟩, decide_eq_true hs⟩) rfl
  rw [ht]
  rfl

theorem exec_rsuFire {r : RsuSt} (hr : k.rsus[n]? = some r) (hk : k.clocked s.now = true) (hf : k.rsuFires r s.now = true) :
    exec .rsuFire s = .next (s.commit (s.begun.rsuFire k n r)) := by
  show execRsuFire s = _
  rw [execRsuFire, hc]
  dsimp only
  rw [hr]
  exact State.happen_ends (Bool.and_eq_true_iff.2 ⟨hk, hf⟩) rfl

theorem exec_rsuResult {r : RsuSt} {c l : Nat} {x : DTok} {rest : List (Nat × DTok)} (hr : k.rsus[n]? = some r) (hk : k.clocked s.now = true)
    (hf : k.rsuLeaves r s.now = true) (ho : r.out = (c, x) :: rest) (hl : k.rsuOut r = some l) :
    exec .rsuResult s = .next (s.commit (s.begun.unitSend k l (.rsu n) x true)) := by
  show execRsuResult s = _
  rw [execRsuResult, hc]
  dsimp only
  rw [hr]
  refine State.happen_ends (Bool.and_eq_true_iff.2 ⟨hk, hf⟩) ?_
  rw [ho, hl]

end

/-- Settles O58: an event whose condition holds has its effect. -/
theorem tileEvents : Obligations.TileEvents := by
  intro s b ends
  refine ⟨fun k t n hc => ⟨exec_blockFire hc, fun x => exec_blockEnd hc, exec_tick hc,
      fun l d u h0 hl ht hi hv hr k' => exec_memoryTilePort_takes hc h0 hl ht hi hv hr, fun v l d => exec_memoryTilePort_sends hc⟩,
    fun w => exec_waitSatisfied, fun w hw hl => ⟨exec_instructionComplete hw hl, exec_instructionComplete_late hw hl,
      fun d => exec_timerDeadline hw hl, fun svc at_ x hd ht => ?_, fun row ea f wf bank got c o => exec_arowConsumed hw hl⟩,
    fun k n a => exec_accessResponse, fun k n l hc hk => ⟨fun h => ?_, fun x after rest => exec_waitingStopEnters hc hk, fun h => ?_, fun h => ?_,
      fun hs hn hr => ?_⟩,
    fun k n hc => ⟨exec_stuTransformServe hc, exec_stuResultWrite hc, exec_signalPropagate hc, fun x i => exec_bellRelease hc,
      fun x t task since => exec_bellTimeout hc, fun r hr hk => ⟨exec_rsuFire hc hr hk, fun c l x rest => exec_rsuResult hc hr hk⟩⟩⟩
  · intro r
    refine (exec_fwsvcResult hw hl hd ht).trans ?_
    rw [State.svcResult_eq]
    rfl
  · exact onLink_ends hc hk h rfl
  · exact onLink_ends hc hk h rfl
  · exact onLink_ends hc hk h rfl
  · refine onLink_ends hc hk (Bool.and_eq_true_iff.2 ⟨Bool.and_eq_true_iff.2 ⟨hs, ?_⟩, hr⟩) rfl
    rw [hn]
    rfl

end Sys2Proof.Machine
end

section

-- One proof at a time: the whole text then stays within the memory of a check.
set_option Elab.async false

/-! The events of launches, contexts, snapshots, engines, frames, power states and boot: the proof of O59. -/

namespace Sys2Proof.Machine

/-! Events of a kiln. -/

section
variable {s : State} {k : Kiln} {n : Nat} (hc : s.curKiln = some (k, n))
include hc

theorem exec_unitInstall {u : Nat × Nat × Nat} (hu : (s.unitsDue k)[n]? = some u) :
    exec .unitInstall s = .next (s.commit (s.begun.install k.id u.1 u.2.1 u.2.2)) := by
  show execUnitInstall s = _
  rw [execUnitInstall, hc]
  dsimp only
  rw [hu]
  exact State.happen_ends rfl rfl

theorem exec_launchStart {at_ : Nat} (hk : k.stat = .starting at_) (ha : at_ ≤ s.now) (hu : s.unitsDue k = []) (hp : k.paused = none)
    (hs : s.savesHeldOn k = false) : exec .launchStart s = .next (s.commit (s.begun.startKiln k.id)) := by
  show execLaunchStart s = _
  rw [execLaunchStart, hc]
  refine State.happen_ends ?_ rfl
  rw [State.startsNow, hk]
  dsimp only
  rw [hu, hp, hs, decide_eq_true ha]
  rfl

theorem exec_kilnComplete (h : s.completes k = true) :
    exec .kilnComplete s = .next (s.commit ((s.begun.lastReports k.id).retire k.id 0).reap) := by
  show execKilnComplete s = _
  rw [execKilnComplete, hc]
  exact State.happen_ends h rfl

theorem exec_phaseEnd {im : Image} (h : s.phaseEnds k = true) (hi : s.image? k.charge = some im) :
    exec .phaseEnd s = .next (s.commit (s.begun.modKiln k.id fun y => { y with
      sinks := y.sinks.map fun x => (x.1, x.2.1, x.2.2.1, y.sinkDone x)
      stat := .switching (s.now + 64 * 280) (im.next.getD (16 * k.ctx + k.signals.toNat % 16) 0) })) := by
  show execPhaseEnd s = _
  rw [execPhaseEnd, hc]
  refine State.happen_ends h ?_
  dsimp only
  rw [show s.begun.image? k.charge = some im from hi]
  rfl

theorem exec_contextSwitchComplete {at_ next : Nat} (hk : k.stat = .switching at_ next) (ha : at_ ≤ s.now) (hd : s.copiesOf k.id = false)
    (hs : ∀ a ∈ s.accs, a.kiln ≠ k.id) : exec .contextSwitchComplete s = .next (s.commit (s.begun.switchTo k.id next)) := by
  have hall : (s.accs.all fun a => a.kiln != k.id) = true := List.all_eq_true.2 fun a h => bne_iff_ne.2 (hs a h)
  have hn : s.switchDone k = some next := by
    rw [State.switchDone, hk]
    dsimp only
    rw [hd, hall, decide_eq_true ha]
    rfl
  show execContextSwitchComplete s = _
  rw [execContextSwitchComplete, hc]
  dsimp only
  rw [hn]
  exact State.happen_ends rfl rfl

theorem exec_quantumExpiry (h : s.quantumEnds k = true) :
    exec .quantumExpiry s = .next (s.commit (s.begun.modKiln k.id fun y => { y with stat := .freezing s.now .quantum })) := by
  show execQuantumExpiry s = _
  rw [execQuantumExpiry, hc]
  exact State.happen_ends h rfl

theorem exec_snapshotDeadline {r : SnapRun} (hk : k.stat = .running) (hr : k.snap = some r) (hd : r.deadline ≤ s.now) :
    exec .snapshotDeadline s = .next (s.commit (s.begun.modKiln k.id fun y => { y.unraddled with stat := .freezing s.now .snapshot })) := by
  show execSnapshotDeadline s = _
  rw [execSnapshotDeadline, hc]
  refine State.happen_ends ?_ rfl
  rw [State.snapLate, hk, hr]
  exact decide_eq_true hd

end

theorem exec_snapshotTaskSave {s : State} {k : Kiln} {t : TileSt} {n : Nat} (hc : s.curTask = some (k, t, n)) (ht : t.id % 128 < 64)
    (hl : s.tileLive k t = true) (hp : (t.task n).stat ≠ .absent) (hs : s.taskSaves k t n = true) :
    exec .snapshotTaskSave s = .next (s.commit ((s.begun.taskSave k.id t.id n).snapFinish k.id)) := by
  show execSnapshotTaskSave s = _
  rw [execSnapshotTaskSave, hc]
  dsimp only
  rw [if_pos ht]
  exact State.happen_ends (Bool.and_eq_true_iff.2 ⟨Bool.and_eq_true_iff.2 ⟨hl, bne_iff_ne.2 hp⟩, hs⟩) rfl

/-! Events of a die, and of what else the cursor names. -/

section
variable {s : State} {d n i : Nat} (hc : s.cursor = .die d n i)
include hc

theorem exec_launchPick {t : State} (hp : s.pick d = some t) (hb : s.begun.pick d = some t) : exec .launchPick s = .next (s.commit t) := by
  show execLaunchPick s = _
  rw [execLaunchPick, State.curDie, hc]
  refine State.happen_ends (by rw [hp]; rfl) ?_
  rw [hb]
  rfl

theorem exec_launchReservation {h : Head} {r : Rect} (hh : ((s.heads d).find? fun h => h.queue == n) = some h)
    (hr : s.reservable d h = some r) : exec .launchReservation s = .next (s.commit (s.begun.modDie d fun x => { x with
      reservations := (x.reservations.filter fun y => !(y.queue == n && y.kiln == h.kiln)) ++
        [⟨n, h.kiln, r.col, r.row, r.cols, r.rows, h.prio⟩] })) := by
  show execLaunchReservation s = _
  rw [execLaunchReservation, hc]
  dsimp only
  rw [hh]
  dsimp only
  rw [hr]
  exact State.happen_ends rfl rfl

theorem exec_migrationEpoch (hb : s.boot = .ready) (hp : s.power ≠ 3) (he : (s.die d).epochAt + tMs ≤ s.now) :
    exec .migrationEpoch s = .next (s.commit (s.begun.epochDo d)) := by
  show execMigrationEpoch s = _
  rw [execMigrationEpoch, State.curDie, hc]
  exact State.happen_ends
    (Bool.and_eq_true_iff.2 ⟨Bool.and_eq_true_iff.2 ⟨beq_iff_eq.2 hb, bne_iff_ne.2 hp⟩, decide_eq_true he⟩) rfl

theorem exec_powerStateChange_shelf (h : s.shelfChanges d n = true) :
    exec .powerStateChange s = .next (s.commit (s.begun.modDie d fun x => x.setShelf { x.shelf n with
      power := s.shelfWants d n
      wakeAt := if s.shelfWants d n < (x.shelf n).power then s.now + exitTime (x.shelf n).power else (x.shelf n).wakeAt })) := by
  show execPowerStateChange s = _
  rw [execPowerStateChange, hc]
  exact State.happen_ends h rfl

theorem exec_droveListStart {l : DList} {rest : List DList} {k : Kiln} (hd : s.drover d n = ⟨d, n, none, l :: rest⟩)
    (hk : s.kiln? l.kiln = some k) (he : k.enginesRun = true) (hp : s.performed l.kiln l.deps 3 = true) : exec .droveListStart s =
      .next (s.commit (s.begun.draw.2.setDrover ⟨d, n, some { l with at_ := s.now + 1 + s.begun.draw.1 }, rest⟩)) := by
  show execDroveListStart s = _
  rw [execDroveListStart, State.curDroverSt, hc]
  dsimp only
  rw [hd]
  refine State.happen_ends ?_ rfl
  rw [State.listStarts]
  dsimp only
  rw [hk, hp, Option.map_some, Option.getD_some, he]
  rfl

end

theorem exec_pushResume {s : State} {c : DCtx} (hc : s.curDrover = some c) (h : s.pushResumes c = true) :
    exec .pushResume s = .next (s.commit (s.begun.putList c (some { c.l with waits := false }))) := by
  show execPushResume s = _
  rw [execPushResume, hc]
  exact State.happen_ends h rfl

section
variable {s : State} {a : BtuAt} (hc : s.curCopy = some a)
include hc

theorem exec_btuCopy {c : BtuCopy} {t u : State} (h : s.copyBegins a = true)
    (hp : s.begun.pktBegin (a.c.agent a.b.die a.b.shelf a.k) a.c.packet = .ok () t) (hn : t.copyNext a.c = (c, u)) :
    exec .btuCopy s = .next (s.commit (u.draw.2.putCopy a (some { c with started := true, at_ := u.draw.2.now + 1 + u.draw.1 }))) := by
  show execBtuCopy s = _
  rw [execBtuCopy, hc]
  refine State.happen_ends h ?_
  rw [State.copyBegin, BtuAt.agent, hp]
  dsimp only
  rw [hn]

theorem exec_btuCopyComplete {c : BtuCopy} {done : Bool} {t : State} (h : s.copyLands a = true)
    (hp : (s.begun.pktPart (a.c.agent a.b.die a.b.shelf a.k) a.c).2 = (c, .ok done t)) :
    exec .btuCopyComplete s = .next (s.commit (if done then t.putCopy a none
      else t.draw.2.putCopy a (some { c with held := none, retry := false, at_ := t.draw.2.now + 1 + t.draw.1 }))) := by
  show execBtuCopyComplete s = _
  rw [execBtuCopyComplete, hc]
  refine State.happen_ends h ?_
  rw [State.copyDo, BtuAt.agent]
  generalize State.pktPart _ _ _ = r at hp
  obtain ⟨s1, r⟩ := r
  obtain rfl := hp
  cases done <;> rfl

end

section
variable {s : State} {n : Nat} (hc : s.cursor = .item n)
include hc

theorem exec_queueRefill {t : State} (hr : s.refill n = some t) (hb : s.begun.refill n = some t) : exec .queueRefill s = .next (s.commit t) := by
  show execQueueRefill s = _
  rw [execQueueRefill, hc]
  refine State.happen_ends (by rw [hr]; rfl) ?_
  rw [hb]
  rfl

theorem exec_migrationComplete {m : Migration} (hm : (s.migrations.find? fun m => m.id == n) = some m) (hd : m.doneAt ≤ s.now) :
    exec .migrationComplete s = .next (s.commit (s.begun.migrateDone m)) := by
  show execMigrationComplete s = _
  rw [execMigrationComplete, hc]
  dsimp only
  rw [hm]
  exact State.happen_ends (decide_eq_true hd) rfl

theorem exec_foldComplete {j x : FoldJob} {t : State} (hj : (s.folds.find? fun j => j.id == n) = some j) (hr : s.foldReady j = true)
    (hp : s.begun.foldPart j = .ok (x, true) t) :
    exec .foldComplete s = .next (s.commit ((t.draw.2.putFold n none).addCounter j.paddock j.counter 1)) := by
  show execFoldComplete s = _
  rw [execFoldComplete, hc]
  dsimp only
  rw [hj]
  refine State.happen_ends hr ?_
  rw [hp]
  rfl

end

theorem exec_powerStateChange_package {s : State} (hc : s.cursor = .item 0) (hb : s.boot = .ready) (hp : s.power ≠ 3)
    (hw : s.power ≠ s.packageWants) : exec .powerStateChange s = .next (s.commit { s.begun with power := s.packageWants }) := by
  show execPowerStateChange s = _
  rw [execPowerStateChange, hc]
  exact State.happen_ends
    (Bool.and_eq_true_iff.2 ⟨Bool.and_eq_true_iff.2 ⟨beq_iff_eq.2 hb, bne_iff_ne.2 hp⟩, bne_iff_ne.2 hw⟩) rfl

/-! Boot. -/

theorem exec_bootComplete_bootOk {s : State} {at_ : Nat} (hb : s.boot = .booting at_) (ha : at_ ≤ s.now) :
    exec .bootComplete s = .next (s.commit { s.begun with boot := .bootOk }) := by
  show execBootComplete s = _
  refine State.happen_ends ?_ ?_
  · rw [State.bootEnds, hb]
    exact decide_eq_true ha
  · rw [State.bootStep, show s.begun.boot = .booting at_ from hb]

theorem exec_bootComplete_ready {s : State} (hb : s.boot = .bootOk) : exec .bootComplete s = .next (s.commit { s.begun with
    boot := .ready, bootEnd := s.now, measure := Config.measurement s.freeCount, freeCount := s.freeCount + 1
    dies := s.dies.map fun d => { d with epochAt := s.now } }) := by
  show execBootComplete s = _
  refine State.happen_ends ?_ ?_
  · rw [State.bootEnds, hb]
  · rw [State.bootStep, show s.begun.boot = .bootOk from hb]
    rfl

/-- Settles O59: an event whose condition holds has its effect. -/
theorem machineEvents : Obligations.MachineEvents := by
  intro s b ends
  exact ⟨fun k n hc => ⟨fun u => exec_unitInstall hc, fun at_ => exec_launchStart hc, exec_kilnComplete hc, fun im => exec_phaseEnd hc,
      fun at_ next => exec_contextSwitchComplete hc, exec_quantumExpiry hc, fun r => exec_snapshotDeadline hc⟩,
    fun k t n => exec_snapshotTaskSave,
    fun d n i hc => ⟨fun t => exec_launchPick hc, fun h r => exec_launchReservation hc, exec_migrationEpoch hc,
      exec_powerStateChange_shelf hc, fun l rest k => exec_droveListStart hc, fun c => exec_pushResume,
      fun a ha => ⟨fun c t u => exec_btuCopy ha, fun c done t => exec_btuCopyComplete ha⟩⟩,
    exec_powerStateChange_package,
    fun n hc => ⟨fun t => exec_queueRefill hc, fun m => exec_migrationComplete hc, fun j x t => exec_foldComplete hc⟩,
    fun at_ => exec_bootComplete_bootOk, exec_bootComplete_ready⟩

end Sys2Proof.Machine
end

section

-- One proof at a time: the whole text then stays within the memory of a check.
set_option Elab.async false

/-! What a step runs: the proof of O10. -/

namespace Sys2Proof.Machine

/-! What comes first in an instant is what the machine does next. -/

section
variable {s : State}

theorem step_of_act {i : Instr} {t : State} (h : s.act = .run i t) : step s = s.settled (exec i t) := by
  rw [step, h]

theorem State.act_of_early {x : Act} (h : s.earlyAct = some x) : s.act = x := by
  rw [State.act, h]
  rfl

theorem State.act_of_issue {x : Act} {plane : Bool} (he : s.earlyAct.isNone = true) (hc : plane = true → (s.issueAct false).isNone = true)
    (h : s.issueAct plane = some x) : s.act = x := by
  rw [State.act, Option.isNone_iff_eq_none.1 he]
  cases plane with
  | false =>
    rw [h]
    rfl
  | true =>
    rw [Option.isNone_iff_eq_none.1 (hc rfl), h]
    rfl

theorem State.inputAct_nil (h : s.inbox = []) : s.inputAct = none := by
  rw [State.inputAct, h]

theorem State.early_of_firmware {x : Act} (hi : s.inbox = []) (h : s.firmwareAct = some x) : s.earlyAct = some x := by
  rw [State.earlyAct, State.inputAct_nil hi, h]
  rfl

theorem State.early_of_drover {x : Act} (hi : s.inbox = []) (hf : s.firmwareAct.isNone = true) (hm : s.moveAct.isNone = true)
    (ha : s.accessAct.isNone = true) (h : s.droverAct = some x) : s.earlyAct = some x := by
  rw [State.earlyAct, State.inputAct_nil hi, Option.isNone_iff_eq_none.1 hf, Option.isNone_iff_eq_none.1 hm,
    Option.isNone_iff_eq_none.1 ha, h]
  rfl

end

/-! The first ready slot of the first tile. -/

section
variable {s : State} {k : Kiln} {t : TileSt} {plane : Bool}

theorem State.nextIssue_head {x : Exec} {xs : List Exec} {more : List (Nat × Nat)} {slot w : Nat} {i : Instr} (hx : t.execs = x :: xs)
    (hr : s.readySlots k t x plane = (slot, w) :: more) (hd : decodeTileNat w = .ok i) (hf : t.fits i = true) :
    s.nextIssue k t plane = some (x.task, slot, some i) := by
  rw [State.nextIssue, hx, List.findSome?_cons, hr, List.findSome?_cons]
  dsimp only
  rw [hd]
  dsimp only
  rw [if_pos hf]

theorem State.issueAct_head {rest : List (Kiln × TileSt)} {task slot : Nat} {i : Instr} (hl : s.liveTiles = (k, t) :: rest)
    (hp : (if plane then t.dataIssued else t.ctlIssued) = false) (hn : s.nextIssue k t plane = some (task, slot, some i)) :
    s.issueAct plane = some (s.doAt i (.tile k.id t.id task slot)) := by
  rw [State.issueAct, hl, List.findSome?_cons, State.tileIssue, if_neg (ne_true_of_eq_false hp), hn]

end

/-! The running list of the first drover. -/

section
variable {s : State} {d : DroverSt} {ds : List DroverSt} {c : DCtx}

theorem State.droverAct_head {x : Act} (hd : s.drovers = d :: ds) (hc : s.dctx? d.die d.slice = some c) (hx : s.listAct d c = some x) :
    s.droverAct = some x := by
  rw [State.droverAct, hd, List.findSome?_cons]
  rw [hc]
  dsimp only
  rw [hx]

variable {w : Nat} {i : Instr} (hr : s.listReady c = true) (hw : c.l.waits = false) (hd : decodeDroveNat w = .ok i) (hn : s.listWaits c i = false)
include hr hw hd hn

theorem State.listAct_charge {n : Nat} (hl : c.l.ref = .charge n)
    (hi : ((s.image? c.k.charge).bind fun im => im.lists[n]?).bind (fun l => l.cmds[c.l.index]?) = some w) :
    s.listAct d c = some ((s.commit s).doAt i (.die d.die d.slice 0)) := by
  have hc : s.droverNext c = .cmd i s := by
    rw [State.droverNext, hl]
    dsimp only
    rw [hi]
    dsimp only
    rw [hd]
  rw [State.listAct, hr, hw, hc, hl]
  exact if_neg (ne_true_of_eq_false hn)

theorem State.listAct_memory {a : Nat} (hl : c.l.ref = .va a) (hi : c.l.word = some w) :
    s.listAct d c = some ((s.commit (s.putList c (some { c.l with word := some w, held := none, retry := false }))).doAt i
      (.die d.die d.slice 0)) := by
  have hc : s.droverNext c = .cmd i (s.putList c (some { c.l with word := some w, held := none, retry := false })) := by
    rw [State.droverNext, hl]
    dsimp only
    rw [hi]
    dsimp only
    rw [hd]
    rfl
  rw [State.listAct, hr, hw, hc, hl, hi]
  exact if_neg (ne_true_of_eq_false hn)

end

theorem State.commit_self {s : State} (h : s.wlog = []) : s.commit s = s := by
  rw [State.commit, h]
  show { s with wlog := [] } = s
  rw [← h]

/-! The command ring (R369, R370). -/

/-- Only a FAULT_RESUME completes when its access is over, and one that is under way holds the ring. -/
theorem State.resumeDone_of_free {s : State} {o : Outstanding} (h : s.holdsRing o = false) : s.resumeDone o = false := by
  cases o with
  | resume tag n => exact nomatch h
  | snapshot | peerLaunch | teardown => rfl

theorem State.firmwareAct_command {s : State} {i : Instr} (hf : ∀ o ∈ s.outstanding, s.holdsRing o = false) (hb : s.boot = .ready)
    (hr : s.cmdHead % 2 ^ s.cmdSize ≠ s.cmdTail % 2 ^ s.cmdSize) (hd : decodeCommand s.commandEntry = some i) :
    s.firmwareAct = some (.run i { s with cmdHead := (s.cmdHead + 1) % 2 ^ 16, cursor := .command s.commandEntry }) := by
  have hany {p : Outstanding → Bool} (hp : ∀ o ∈ s.outstanding, p o = false) : s.outstanding.any p = false :=
    List.any_eq_false.2 fun o ho => ne_true_of_eq_false (hp o ho)
  have hdue : s.commandDue = true := by
    rw [State.commandDue, hany hf, hb, bne_iff_ne.2 hr]
    rfl
  rw [State.firmwareAct, hany fun o ho => State.resumeDone_of_free (hf o ho), if_neg Bool.false_ne_true, hdue, if_pos rfl]
  dsimp only
  rw [hd]
  rfl

theorem State.settled_next {s t : State} (h : t.unitMiss = none) : s.settled (.next t) = .next t := by
  rw [State.settled, State.endStep, h]

/-- Settles O10: what is named stands first among what is due. -/
theorem stepRunsDecoded : Obligations.StepRunsDecoded := by
  refine ⟨fun s k t rest x xs more slot w plane i he hc hl hp hx hr hd hf => ?_,
    fun s d ds c n w i hi hf hm ha hs hd hc hr hw hl hn hdec hwt => ?_, fun s d ds c a w i hi hf hm ha hs hd hc hr hw hl hn hdec hwt => ?_,
    fun s i hi hf hb hr hd => ?_, fun s i r hi => ?_, fun s t => State.settled_next, fun s f => rfl, fun s r => rfl⟩
  · exact step_of_act (State.act_of_issue he hc (State.issueAct_head hl hp (State.nextIssue_head hx hr hd hf)))
  · refine step_of_act (State.act_of_early (State.early_of_drover hi hf hm ha (State.droverAct_head hd hc ?_)))
    rw [State.listAct_charge hr hw hdec hwt hl hn, State.commit_self hs]
    rfl
  · exact step_of_act (State.act_of_early (State.early_of_drover hi hf hm ha (State.droverAct_head hd hc
      (State.listAct_memory hr hw hdec hwt hl hn))))
  · exact step_of_act (State.act_of_early (State.early_of_firmware hi (State.firmwareAct_command hf hb hr hd)))
  · refine step_of_act (State.act_of_early ?_)
    rw [State.earlyAct, State.inputAct, hi]
    rfl

end Sys2Proof.Machine
end
